-- ==== Sys2Proof/Word.lean ====
section
/-! DEFINITION. The word types of the Icosel DK8's links and of its clock. -/

namespace Sys2Proof

/-- One byte of a report, a notice, a record or the configuration image (chapter 10, section 10.6). -/
abbrev Byte := BitVec 8

/-- A value of the 32-bit millisecond counter (R157). -/
abbrev Millis := BitVec 32

/-- A set of computers C0 to C7, or of ports: bit n stands for Cn (section 10.6). -/
abbrev ComputerSet := BitVec 8

/-- A set of modifier keys: bit n stands for usage 224 + n (section 10.6). -/
abbrev ModifierSet := BitVec 8

/-- A set of pointer buttons: bit n stands for B(n+1) (section 10.6). -/
abbrev ButtonSet := BitVec 5

/-- The mode word: GLIDE, FOCUS_HOLD, CARRY_MODIFIERS, BORDERS, BLANK_ON_LOCK and LOCK_TONES in bits
0 to 5 (section 10.6). -/
abbrev ModeWord := BitVec 6

end Sys2Proof
end

