-- ==== Sys2Proof/Syntax.lean ====
section
/-! DEFINITION. The commands of the DK8: one constructor of Instr for each row of
spec/opcode_table.json, with the operands that the row's link event, timer expiry, completion or
command report carries. -/

namespace Sys2Proof

/-- A computer C0 to C7 and its port ("Counts and ranges", 00_scope.md). -/
abbrev Computer := Fin 8
/-- A screen output S0 to S7. -/
abbrev Screen := Fin 8
/-- A video input V0 to V15. -/
abbrev Input := Fin 16
/-- A console device slot K0 to K3 (section 1.1). -/
abbrev Slot := Fin 4
/-- An isolation domain D0 to D3 (R43). -/
abbrev Domain := Fin 4
/-- A preset P0 to P7 (R148). -/
abbrev PresetIndex := Fin 8
/-- A slot T0 to T7 of the scheduled action table (R158). -/
abbrev ScheduleIndex := Fin 8

/-- The form of a picture: width and height in pixels, refresh in hundredths of a hertz (R136). -/
structure VideoMode where
  width   : BitVec 16
  height  : BitVec 16
  refresh : BitVec 16
  deriving DecidableEq, Repr

/-- An output whose sink attaches or detaches: a screen output, or the share-out output X (R138, R150). -/
inductive VideoOutput where
  | screen (s : Screen)
  | shareOut
  deriving DecidableEq, Repr

/-- The Num, Caps and Scroll LED states (R21, R116). -/
structure Leds where
  num    : Bool
  caps   : Bool
  scroll : Bool
  deriving DecidableEq, Repr

/-- A management command report as its issuing port hands it to the engine (section 10.6): byte 0, byte 1,
byte 3 and the bytes from byte 4 on. Byte 2, the command code, is the row's own. A parameter byte that the
list does not reach is 0. -/
structure CommandReport where
  /-- The issuing port (R117). -/
  port      : Computer
  /-- Byte 0, the desk match byte (R167). -/
  deskMatch : Byte
  /-- Byte 1, the tag. -/
  tag       : Byte
  /-- Byte 3, the parameter length. -/
  length    : Byte
  /-- Bytes 4 to 59, the parameters: a table command's table number and an ACT's action number are
  the first of them. -/
  params    : List Byte
  deriving DecidableEq, Repr

/-- The four table access commands (R178). -/
inductive TableAccess where
  | read
  | write
  | delete
  | search
  deriving DecidableEq, Repr

/-- How the write of the tables section ended (R188). -/
inductive WriteOutcome where
  /-- The memory accepted every write and the read-back agrees. -/
  | succeeded
  /-- The memory refused a write, did not answer, or the read-back differs: `left` is what the memory's
  tables section then holds, which the manual leaves in doubt. -/
  | failed (left : List Byte)
  deriving DecidableEq, Repr

/-- The commands. The names are the rows' mnemonics in lower camel case, in the table's order. -/
inductive Instr where
  /-- POWER_ON (R186). The operand is the content of the external configuration memory as power comes on,
  or none when the memory does not answer the read. -/
  | powerOn (image : Option (List Byte))
  /-- MILLISECOND_TICK (R157). -/
  | millisecondTick
  /-- CONSOLE_KEYBOARD_REPORT (R4, R5): bytes 1, 2 and 3 to 8 of the console report. -/
  | consoleKeyboardReport (slot : Byte) (modifiers : ModifierSet) (fields : Vector Byte 6)
  /-- CONSOLE_POINTER_REPORT (R6): byte 1, byte 2, the two 12-bit motions of bytes 3 to 5, and byte 6. -/
  | consolePointerReport (slot : Byte) (buttons : Byte) (dx : BitVec 12) (dy : BitVec 12) (wheel : Byte)
  /-- CONSOLE_REPORT_DISCARDED (R3): the bytes that arrived on the console link. -/
  | consoleReportDiscarded (bytes : List Byte)
  /-- DEVICE_ATTACH (R1): bytes 1 and 2 of the event. -/
  | deviceAttach (slot : Byte) (deviceClass : Byte)
  /-- DEVICE_DETACH (R2): byte 1 of the event. -/
  | deviceDetach (slot : Byte)
  /-- CONSOLE_LINK_RESTART (R19). -/
  | consoleLinkRestart
  /-- HELD_KEY_AGEING (R11) of the entry with this slot and usage. -/
  | heldKeyAgeing (slot : Slot) (usage : Byte)
  /-- LEADER_TIMER_EXPIRY (R32). -/
  | leaderTimerExpiry
  /-- COMMAND_TIMER_EXPIRY (R35). -/
  | commandTimerExpiry
  /-- PRESENCE_LINE_CHANGE (R101): the raw level of a port's presence line becomes `present`. -/
  | presenceLineChange (port : Computer) (present : Bool)
  /-- PRESENCE_DEBOUNCE_EXPIRY (R101). -/
  | presenceDebounceExpiry (port : Computer)
  /-- CONFIGURE (R103). -/
  | configure (port : Computer)
  /-- SUSPEND (R104). -/
  | suspend (port : Computer)
  /-- RESUME (R104, R129). -/
  | resume (port : Computer)
  /-- BUS_RESET (R105). -/
  | busReset (port : Computer)
  /-- POLL (R110, R115). -/
  | poll (port : Computer)
  /-- LED_OUTPUT_REPORT (R116). -/
  | ledOutputReport (port : Computer) (leds : Leds)
  /-- MANAGEMENT_RESULT_READ (R117, R168). -/
  | managementResultRead (port : Computer)
  /-- FOREIGN_MANAGEMENT_REPORT (R117). -/
  | foreignManagementReport (port : Computer)
  /-- DESK_MISMATCH (R167): the port and byte 0 of the report. -/
  | deskMismatch (port : Computer) (deskMatch : Byte)
  /-- BAD_COMMAND (R169): a report whose byte 2 is `code`. -/
  | badCommand (r : CommandReport) (code : Byte)
  /-- ARM_REMOTE_WAKE (R123). -/
  | armRemoteWake (port : Computer)
  /-- DISARM_REMOTE_WAKE (R123). -/
  | disarmRemoteWake (port : Computer)
  /-- WAKE_TIMER_EXPIRY (R127, R128). -/
  | wakeTimerExpiry (port : Computer)
  /-- SIGNAL_FOUND (R136). -/
  | signalFound (input : Input) (mode : VideoMode)
  /-- SIGNAL_LOST (R136). -/
  | signalLost (input : Input)
  /-- FRAME_COMPLETE (R136). -/
  | frameComplete (input : Input)
  /-- SINK_ATTACH (R138, R150). -/
  | sinkAttach (output : VideoOutput) (mode : VideoMode)
  /-- SINK_DETACH (R139, R150). -/
  | sinkDetach (output : VideoOutput)
  /-- FRAME_START (R142 to R145). -/
  | frameStart (screen : Screen)
  /-- SHARE_OUT_FRAME_START (R151). -/
  | shareOutFrameStart
  /-- SCHEDULED_ENTRY_FIRE (R162, R163). -/
  | scheduledEntryFire (index : ScheduleIndex)
  /-- MEMORY_WRITE_COMPLETE (R182, R188). -/
  | memoryWriteComplete (outcome : WriteOutcome)
  /-- READ_DESK (R176). -/
  | readDesk (r : CommandReport)
  /-- READ_PORT (R176). -/
  | readPort (r : CommandReport)
  /-- READ_SCREEN (R155). -/
  | readScreen (r : CommandReport)
  /-- READ_INPUT (R155). -/
  | readInput (r : CommandReport)
  /-- READ_SHARE (R155). -/
  | readShare (r : CommandReport)
  /-- READ_JOURNAL (R190). -/
  | readJournal (r : CommandReport)
  /-- SET_MODE (R177). -/
  | setMode (r : CommandReport)
  /-- CLEAR_MODE (R177). -/
  | clearMode (r : CommandReport)
  /-- WRITE_MODE_SETTINGS (R177). -/
  | writeModeSettings (r : CommandReport)
  /-- TABLE_NUMBER_UNKNOWN (R178): any of the four table access commands, naming no table. -/
  | tableNumberUnknown (access : TableAccess) (r : CommandReport)
  /-- TABLE_READ_HOTKEY (R23). -/
  | tableReadHotkey (r : CommandReport)
  /-- TABLE_READ_WINDOW (R90). -/
  | tableReadWindow (r : CommandReport)
  /-- TABLE_READ_PORT_SETTINGS (R178). -/
  | tableReadPortSettings (r : CommandReport)
  /-- TABLE_READ_PRESET (R148). -/
  | tableReadPreset (r : CommandReport)
  /-- TABLE_READ_LAYOUT_STAGED (R65). -/
  | tableReadLayoutStaged (r : CommandReport)
  /-- TABLE_READ_LAYOUT_COMMITTED (R65). -/
  | tableReadLayoutCommitted (r : CommandReport)
  /-- TABLE_READ_SCHEDULE (R159). -/
  | tableReadSchedule (r : CommandReport)
  /-- TABLE_WRITE_HOTKEY (R24, R25). -/
  | tableWriteHotkey (r : CommandReport)
  /-- TABLE_WRITE_WINDOW (R90, R91). -/
  | tableWriteWindow (r : CommandReport)
  /-- TABLE_WRITE_PORT_SETTINGS (R178). -/
  | tableWritePortSettings (r : CommandReport)
  /-- TABLE_WRITE_PRESET (R148). -/
  | tableWritePreset (r : CommandReport)
  /-- TABLE_WRITE_LAYOUT_STAGED (R65). -/
  | tableWriteLayoutStaged (r : CommandReport)
  /-- TABLE_WRITE_LAYOUT_COMMITTED (R65). -/
  | tableWriteLayoutCommitted (r : CommandReport)
  /-- TABLE_WRITE_SCHEDULE (R159). -/
  | tableWriteSchedule (r : CommandReport)
  /-- TABLE_DELETE_HOTKEY (R23). -/
  | tableDeleteHotkey (r : CommandReport)
  /-- TABLE_DELETE_WINDOW (R90). -/
  | tableDeleteWindow (r : CommandReport)
  /-- TABLE_DELETE_PORT_SETTINGS (R178). -/
  | tableDeletePortSettings (r : CommandReport)
  /-- TABLE_DELETE_PRESET (R148). -/
  | tableDeletePreset (r : CommandReport)
  /-- TABLE_DELETE_LAYOUT_STAGED (R65). -/
  | tableDeleteLayoutStaged (r : CommandReport)
  /-- TABLE_DELETE_LAYOUT_COMMITTED (R65). -/
  | tableDeleteLayoutCommitted (r : CommandReport)
  /-- TABLE_DELETE_SCHEDULE (R159). -/
  | tableDeleteSchedule (r : CommandReport)
  /-- TABLE_SEARCH_HOTKEY (R23). -/
  | tableSearchHotkey (r : CommandReport)
  /-- TABLE_SEARCH_WINDOW (R90). -/
  | tableSearchWindow (r : CommandReport)
  /-- TABLE_SEARCH_PORT_SETTINGS (R178). -/
  | tableSearchPortSettings (r : CommandReport)
  /-- TABLE_SEARCH_PRESET (R148). -/
  | tableSearchPreset (r : CommandReport)
  /-- TABLE_SEARCH_LAYOUT_STAGED (R65). -/
  | tableSearchLayoutStaged (r : CommandReport)
  /-- TABLE_SEARCH_LAYOUT_COMMITTED (R65). -/
  | tableSearchLayoutCommitted (r : CommandReport)
  /-- TABLE_SEARCH_SCHEDULE (R159). -/
  | tableSearchSchedule (r : CommandReport)
  /-- LAYOUT_COMMIT (R66, R67). -/
  | layoutCommit (r : CommandReport)
  /-- LAYOUT_REVERT (R68). -/
  | layoutRevert (r : CommandReport)
  /-- ACT_FOCUS (R47). -/
  | actFocus (r : CommandReport)
  /-- ACT_SELECT (R48, R147). -/
  | actSelect (r : CommandReport)
  /-- ACT_CYCLE (R49). -/
  | actCycle (r : CommandReport)
  /-- ACT_WAKE (R131). -/
  | actWake (r : CommandReport)
  /-- ACT_APPLY_PRESET (R149). -/
  | actApplyPreset (r : CommandReport)
  /-- ACT_SHARE (R153). -/
  | actShare (r : CommandReport)
  /-- ACT_SHARE_SCREEN (R153). -/
  | actShareScreen (r : CommandReport)
  /-- ACT_SHARE_FOR (R154). -/
  | actShareFor (r : CommandReport)
  /-- ACT_UNSHARE (R153). -/
  | actUnshare (r : CommandReport)
  /-- ACT_LOCK (R62). -/
  | actLock (r : CommandReport)
  /-- ACT_UNLOCK (R63). -/
  | actUnlock (r : CommandReport)
  /-- ACT_BROADCAST_TOGGLE (R58). -/
  | actBroadcastToggle (r : CommandReport)
  /-- ACT_BROADCAST_OFF (R59). -/
  | actBroadcastOff (r : CommandReport)
  /-- ACT_HOLD_TOGGLE (R87). -/
  | actHoldToggle (r : CommandReport)
  /-- SET_SCREEN (R181). -/
  | setScreen (r : CommandReport)
  /-- SET_BROADCAST (R59). -/
  | setBroadcast (r : CommandReport)
  /-- SCHEDULE (R160). -/
  | schedule (r : CommandReport)
  /-- CANCEL (R165). -/
  | cancel (r : CommandReport)
  /-- CLEAR_PORT_CONDITIONS (R119). -/
  | clearPortConditions (r : CommandReport)
  /-- CLEAR_COUNTERS (R191). -/
  | clearCounters (r : CommandReport)
  /-- CONSOLE_RESET (R19). -/
  | consoleReset (r : CommandReport)
  /-- DESK_RESET (R187). The second operand says whether the configuration memory answers the read (R183). -/
  | deskReset (r : CommandReport) (memoryAnswers : Bool)
  /-- SAVE (R182). -/
  | save (r : CommandReport)
  /-- ABORT (R174). -/
  | abort (r : CommandReport)
  deriving DecidableEq, Repr

end Sys2Proof
end

