-- ==== Sys2Proof/Decode.lean ====
section
/-! DEFINITION. The command that a word spells. -/

namespace Sys2Proof

/-- The rows of spec/opcode_table.json give no bits: a command of this part is an event or a report and not a word, so
that no word spells one. Log entry 20. -/
def decodeTableWord (_nbits _w : Nat) : Option Instr := none

end Sys2Proof
end

