-- ==== Sys2Proof/Config.lean ====
section
/-! DEFINITION. The fixed figures of the part and the free values of the model. -/

namespace Sys2Proof.Config

/-- A byte of a report, of the written image or of an interrupted write that the manual leaves unstated: the
`position`-th byte of the `use`-th of them that holds such bytes. It has no body, so that nothing can be proved of its
value. DESIGN CHOICE: log entries 3 and 13. -/
opaque freeByte (use : Nat) (position : Nat) : Byte

/-- The place of an expiry among those that come due at one advance of the counter: lower ranks are taken first. The manual
orders none of them (R157, R164), so each draws a rank of its own, of which nothing can be proved. DESIGN CHOICE: log
entry 4. -/
opaque expiryRank (use : Nat) : Nat

/-- The presence debounce, in milliseconds (R101). -/
def debounceMillis : Nat := 32

/-- The capacity of the held-key table (R7). -/
def heldCapacity : Nat := 24

/-- The capacity of an outbound queue (R108). -/
def queueCapacity : Nat := 8

/-- RESYNC ends at a poll that leaves this many reports or fewer (R115). -/
def resyncEndLength : Nat := 4

/-- The capacity of the journal (R189). -/
def journalCapacity : Nat := 32

/-- JOURNAL_HIGH is set from this many records on (R189). -/
def journalHighMark : Nat := 24

/-- READ JOURNAL removes at most this many records (R190). -/
def journalReadLength : Nat := 4

/-- A saturating counter stays here (R191). -/
def counterLimit : Nat := 65535

/-- The amount of a push record saturates here (R81). -/
def pushLimit : Nat := 1023

/-- The pair that stands for an absent last absolute pair (R92). -/
def middlePair : Nat × Nat := (16384, 16384)

/-- The largest number of parameter bytes of a command report (R169). -/
def maxParameters : Nat := 56

/-- The length of the configuration image in bytes (section 10.6). -/
def imageLength : Nat := 692

/-- The offset of the tables section in the image (section 10.6). -/
def tablesOffset : Nat := 22

/-- The length of the tables section, check word included (section 10.6). -/
def tablesLength : Nat := 670

/-- The offset of the check word in the tables section (section 10.6). -/
def checkOffset : Nat := 668

/-- What a byte of the configuration memory reads as that nothing has written. DESIGN CHOICE: log entry 2. -/
def blankByte : Byte := 0#8

/-- The default leader key, Scroll Lock (R26). -/
def defaultLeaderKey : Byte := 71#8

end Sys2Proof.Config
end

