-- ==== Sys2Proof/Machine/Records.lean ====
section
/-! DEFINITION. The records that the blocks of the DK8 hold, one type for each record of the manual. -/

namespace Sys2Proof.Machine

/-! Settings and tables (chapters 10 and 11). -/

/-- The lock level (R170): OPEN, OPERATE or OBSERVE. -/
inductive LockLevel where
  | openLevel
  | operate
  | observe
  deriving DecidableEq, Repr

/-- What the settings block of the image gives (R184). -/
structure Settings where
  /-- 0 to 254. -/
  deskNumber        : Nat
  /-- 0 to 254, or 255 for none. -/
  groupNumber       : Nat
  lockLevel         : LockLevel
  managementPorts   : ComputerSet
  /-- d(k) for each computer (R43). -/
  domains           : Vector Domain 8
  /-- Bit 4a + b is the value for Da to Db; the diagonal is always set (R44). -/
  crossing          : BitVec 16
  /-- Bit n for Dn (R44). -/
  shareOutPermitted : BitVec 4
  deriving DecidableEq, Repr

/-- The numeric mode settings (R177). -/
structure ModeSettings where
  /-- In sixteenths, 1 to 255 (R76). -/
  gain           : Nat
  /-- 0 to 1023 desk units (R81). -/
  edgeResistance : Nat
  leaderKey      : Byte
  /-- 50 to 1000 ms (R26). -/
  leaderWindow   : Nat
  /-- 500 to 5000 ms (R26). -/
  commandWindow  : Nat
  /-- 0, or 1 to 255 s (R11). -/
  ageLimit       : Nat
  /-- NONE is `none` (R45). -/
  initialFocus   : Option Computer
  deriving DecidableEq, Repr

/-- The fourteen actions with their arguments (section 2.7). -/
inductive Action where
  | focus (k : Computer)
  | select (k : Computer)
  | cycle
  | wake (k : Computer)
  | applyPreset (p : PresetIndex)
  | share
  | shareScreen (s : Screen)
  /-- The number of seconds, 1 to 3600. -/
  | shareFor (seconds : Nat)
  | unshare
  | lock
  | unlock
  | broadcastToggle (k : Computer)
  | broadcastOff
  | holdToggle
  deriving DecidableEq, Repr

/-- The trigger of a hotkey entry (R23). -/
inductive Trigger where
  /-- One to three usages. -/
  | leader (keys : List Byte)
  | chord (modifiers : ModifierSet) (key : Byte)
  deriving DecidableEq, Repr

/-- A hotkey entry (R23). -/
structure Hotkey where
  trigger : Trigger
  action  : Action
  deriving DecidableEq, Repr

/-- A window record (R89). -/
structure Window where
  /-- NONE is `none`: the input is unbound. -/
  computer : Option Computer
  domain   : Domain
  home     : Option Screen
  wx0      : Nat
  wy0      : Nat
  ww       : Nat
  wh       : Nat
  deriving DecidableEq, Repr

/-- The form of the pointer reports of a computer (R178). -/
inductive PointerForm where
  | absolute
  | relative
  deriving DecidableEq, Repr

/-- A port settings record (R178). -/
structure PortSettings where
  form        : PointerForm
  wakeOnKey   : Bool
  wakeOnFocus : Bool
  /-- 1 to 30 s. -/
  timeout     : Nat
  /-- 0 to 7. -/
  retries     : Nat
  deriving DecidableEq, Repr

/-- A video source: an input, or NONE as `none` (R137). -/
abbrev Source := Option Input

/-- What the share-out carries (R150). -/
inductive Selection where
  | nothing
  | screen (s : Screen)
  | input (j : Input)
  deriving DecidableEq, Repr

/-- A preset (R148). KEEP is `none` in each field. -/
structure Preset where
  sources : Vector (Option Source) 8
  focus   : Option Computer
  share   : Option Selection
  deriving DecidableEq, Repr

/-- A placement record of a layout (R65). -/
structure Placement where
  enabled : Bool
  x0      : Nat
  y0      : Nat
  w       : Nat
  h       : Nat
  deriving DecidableEq, Repr

/-- The tables and mode settings: all that management may change and SAVE may write back, with the staged layout. -/
structure Tables where
  modeWord     : ModeWord
  modeSettings : ModeSettings
  hotkeys      : Vector (Option Hotkey) 32
  windows      : Vector Window 16
  portSettings : Vector PortSettings 8
  presets      : Vector Preset 8
  committed    : Vector Placement 8
  staged       : Vector Placement 8
  deriving DecidableEq, Repr

/-! The console side (chapters 1 and 2). -/

/-- The device of an occupied slot, with its previous state (section 1.1). -/
inductive Device where
  /-- The modifier set and the non-modifier usages of the last report taken. -/
  | keyboard (modifiers : ModifierSet) (keys : List Byte)
  /-- The buttons down in the last report taken. -/
  | pointer (buttons : ButtonSet)
  deriving DecidableEq, Repr

/-- A held-key entry (R7). -/
structure HeldKey where
  slot       : Slot
  usage      : Byte
  owners     : ComputerSet
  suppressed : Bool
  stale      : Bool
  pressTime  : Millis
  deriving DecidableEq, Repr

/-- A keyboard snapshot: a modifier set and six usage fields (R14). -/
structure Snapshot where
  modifiers : ModifierSet
  fields    : Vector Byte 6
  deriving DecidableEq, Repr

/-- The console interface's state: the four slots, the LED value last sent and the console error counter. -/
structure Console where
  slots   : Vector (Option Device) 4
  ledSent : Leds
  errors  : Nat
  deriving DecidableEq, Repr

/-- The key ownership unit's state (R7, R15, R16, R9). -/
structure Keys where
  /-- The held-key table, oldest entry first. -/
  held      : List HeldKey
  /-- The owner record of B1 to B5; NONE is `none`. -/
  buttons   : Vector (Option Computer) 5
  /-- The last snapshot of each computer. -/
  snapshots : Vector Snapshot 8
  overflow  : Nat
  deriving DecidableEq, Repr

/-- The hotkey recognizer's record (R28). A timer is its expiry time; what a state does not hold is
forgotten by the shape of the type. -/
inductive Recognizer where
  | idle
  | tap1Down (slot : Slot) (expiry : Millis)
  | tap1Up (slot : Slot) (expiry : Millis)
  | tap2Down (slot : Slot) (expiry : Millis)
  | command (buffer : List Byte) (expiry : Millis)
  deriving DecidableEq, Repr

/-- The focus unit's record (R45); FOCUS_HOLD is a bit of the mode word (R87). -/
structure FocusUnit where
  /-- NONE is `none`. -/
  focus     : Option Computer
  broadcast : ComputerSet
  locked    : Bool
  deriving DecidableEq, Repr

/-- The cause of a focus change (R46), in the order of the journal's codes (R189). -/
inductive Cause where
  | glide
  | relocate
  | hotkey
  | management
  | schedule
  | preset
  deriving DecidableEq, Repr

/-! The pointer (chapter 4). -/

/-- A direction of motion against an edge (R71). -/
inductive Direction where
  | left
  | right
  | up
  | down
  deriving DecidableEq, Repr

/-- A push record that is not empty (R72). -/
structure Push where
  neighbour : Screen
  direction : Direction
  amount    : Nat
  deriving DecidableEq, Repr

/-- The screen under the pointer and its desk position (R72). -/
structure Place where
  screen : Screen
  x      : Nat
  y      : Nat
  deriving DecidableEq, Repr

/-- The pointer record (R72). The plane is ON when `place` is present. -/
structure Pointer where
  place    : Option Place
  rx       : Int
  ry       : Int
  headless : Bool
  push     : Option Push
  deriving DecidableEq, Repr

/-! The computer ports (chapters 6 and 7). -/

/-- A report of an outbound queue (R108). -/
inductive Report where
  | keyboard (snapshot : Snapshot)
  | absolute (ax ay : Nat) (buttons : ButtonSet) (wheel : Int)
  | relative (dx dy : Int) (buttons : ButtonSet) (wheel : Int)
  deriving DecidableEq, Repr

/-- The link states (section 6.2), in the order of READ PORT's codes. -/
inductive LinkState where
  | detached
  | attached
  | ready
  | suspended
  | waking
  deriving DecidableEq, Repr

/-- RESYNC while it is set: the accumulator and the pointer-dropped mark (R100). -/
structure Resync where
  dx             : Int
  dy             : Int
  wheel          : Int
  pointerDropped : Bool
  deriving DecidableEq, Repr

/-- The record of a wake attempt (R122). -/
structure WakeAttempt where
  signals    : Nat
  retryLimit : Nat
  /-- In seconds. -/
  timeout    : Nat
  expiry     : Millis
  deriving DecidableEq, Repr

/-- The sticky conditions (R119). -/
structure Sticky where
  resyncOccurred : Bool
  busReset       : Bool
  detachedSeen   : Bool
  wakeFailed     : Bool
  queueFlushed   : Bool
  deriving DecidableEq, Repr

/-- The result codes, in the order of section 10.5; an owner's answer is one of them too. -/
inductive Result where
  | ok
  | accepted
  | done
  | superseded
  | partly
  | aborted
  | noChange
  | busy
  | locked
  | badCommand
  | badLength
  | badArgument
  | notFound
  | tableFull
  | duplicate
  | conflict
  | overlap
  | notArmed
  | notPresent
  | wakeFailed
  | writeFailed
  | domain
  | noScreen
  deriving DecidableEq, Repr

/-- A filled result slot (R168). -/
structure ResultSlot where
  tag     : Byte
  command : Byte
  result  : Result
  data    : List Byte
  deriving DecidableEq, Repr

/-- A port record (R100) with the raw level of the presence line (R101) and the result slot (R168). -/
structure Port where
  link        : LinkState
  /-- The raw level of the presence line: true is present. -/
  raw         : Bool
  /-- The sensed presence. -/
  sensed      : Bool
  /-- The debounce timer's expiry time while it runs. -/
  debounce    : Option Millis
  queue       : List Report
  resync      : Option Resync
  leds        : Leds
  lastPair    : Option (Nat × Nat)
  armed       : Bool
  attempt     : Option WakeAttempt
  sticky      : Sticky
  resyncCount : Nat
  /-- EMPTY is `none`; a port outside the management port set has none. -/
  slot        : Option ResultSlot
  deriving DecidableEq, Repr

/-! The video crosspoint (chapter 8). -/

/-- An input record (R136): NO_SIGNAL is `none`. -/
structure InputRecord where
  signal : Option VideoMode
  frame  : BitVec 32
  deriving DecidableEq, Repr

/-- Why a standby field is shown (R137, R150), in the order of the codes of section 10.6. -/
inductive StandbyReason where
  | noSource
  | noSignal
  | modeMismatch
  | privacy
  | withheld
  deriving DecidableEq, Repr

/-- Shown content (R137). -/
inductive Content where
  | frame (input : Input) (number : BitVec 32)
  | standby (reason : StandbyReason)
  deriving DecidableEq, Repr

/-- The border of a screen (R137), in the order of the codes of section 10.6. -/
inductive Border where
  | noBorder
  | focus
  | command
  | locked
  deriving DecidableEq, Repr

/-- A screen record (R137). ABSENT is `none` in `sink`, an absent pending source is `none` in `pending`. -/
structure ScreenRecord where
  sink      : Option VideoMode
  committed : Source
  pending   : Option Source
  shown     : Option Content
  border    : Border
  repeats   : Nat
  skips     : Nat
  deriving DecidableEq, Repr

/-- The share-out record (R150). -/
structure ShareRecord where
  selection : Selection
  sink      : Option VideoMode
  shown     : Option Content
  repeats   : Nat
  skips     : Nat
  deriving DecidableEq, Repr

/-- The crosspoint's state; the presets stand with the tables. -/
structure Video where
  inputs  : Vector InputRecord 16
  screens : Vector ScreenRecord 8
  share   : ShareRecord
  deriving DecidableEq, Repr

/-! Schedule, engine, journal and image (chapters 9 to 11). -/

/-- Where a scheduled entry came from (R158). -/
inductive Origin where
  | management
  | hotkey
  deriving DecidableEq, Repr

/-- A scheduled entry (R158). -/
structure ScheduleEntry where
  due    : Millis
  action : Action
  origin : Origin
  deriving DecidableEq, Repr

/-- How a touched screen of a deferred command stands (R172). -/
inductive Resolution where
  | unresolved
  | kept
  | lost
  deriving DecidableEq, Repr

/-- A touched screen of a deferred command (R172). -/
structure Touched where
  screen     : Screen
  asked      : Source
  resolution : Resolution
  deriving DecidableEq, Repr

/-- The commands that can be deferred (R171). -/
inductive DeferredCommand where
  | setScreen
  | select
  | applyPreset
  | wake
  | save
  deriving DecidableEq, Repr

/-- What a deferred command waits for (R171). -/
inductive Wait where
  | screens (touched : List Touched)
  | wakeOf (port : Computer)
  | memoryWrite
  deriving DecidableEq, Repr

/-- The deferred record (R171). -/
structure Deferred where
  command      : DeferredCommand
  port         : Computer
  tag          : Byte
  wait         : Wait
  focusSkipped : Bool
  deriving DecidableEq, Repr

/-- Why an ATTACH record was written (R189). -/
inductive AttachReason where
  | presence
  | busReset
  deriving DecidableEq, Repr

/-- The kind and the subject fields of a journal record (R189). -/
inductive JournalEvent where
  | focus (previous : Option Computer) (next : Computer) (cause : Cause)
  | wakeSent (port : Computer)
  | wakeDone (port : Computer) (signals : Nat)
  | wakeFailed (port : Computer) (signals : Nat)
  | share (selection : Selection)
  | unshare
  | lock
  | unlock
  | preset (p : PresetIndex)
  | detach (port : Computer)
  | attach (port : Computer) (reason : AttachReason)
  | scheduleRefused (action : Action) (answer : Result) (origin : Origin)
  deriving DecidableEq, Repr

/-- A journal record (R189). -/
structure JournalRecord where
  time  : Millis
  event : JournalEvent
  deriving DecidableEq, Repr

/-- The journal and JOURNAL_LOST; JOURNAL_HIGH follows the number of records (R189). -/
structure Journal where
  records : List JournalRecord
  lost    : Bool
  deriving DecidableEq, Repr

/-- The image and journal unit's state beside the journal: the external configuration memory, the
write in flight and the status flags (R182, R183, R188). -/
structure Image where
  /-- The configuration memory in its canonical form: addresses rise, and no byte is listed that is blank. -/
  memory          : List Host.Cell
  /-- The section bytes of the write in flight; SAVE_ACTIVE is set while it is present. -/
  writing         : Option (List Byte)
  saveFailed      : Bool
  settingsInvalid : Bool
  tablesInvalid   : Bool
  deriving DecidableEq, Repr

/-- Something that can come due at an advance of the counter: a timer, the ageing of a held key, a presence debounce or
a scheduled entry (R157). -/
inductive Expiry where
  | leader
  | command
  | ageing (slot : Slot) (usage : Byte)
  | debounce (port : Computer)
  | wake (port : Computer)
  | firing (slot : ScheduleIndex)
  deriving DecidableEq, Repr

/-! What the part sends. -/

/-- The kinds of alert notice (R22). -/
inductive AlertKind where
  | accept
  | refuse
  | locked
  deriving DecidableEq, Repr

/-- Something the part has sent on one of its links. -/
inductive Sent where
  /-- A console LED notice (R21). -/
  | ledNotice (leds : Leds)
  /-- An alert notice (R22). -/
  | alert (kind : AlertKind)
  /-- A report delivered to a computer at its poll (R110). -/
  | delivered (port : Computer) (report : Report)
  /-- The wake signal on a computer link (R125). -/
  | wakeSignal (port : Computer)
  /-- The 64 bytes of a management result report (R168). -/
  | resultReport (port : Computer) (bytes : List Byte)
  /-- A result read refused on the link (R117). -/
  | readRefused (port : Computer)
  deriving DecidableEq, Repr

end Sys2Proof.Machine
end

