-- ==== Sys2Proof/Machine/Defaults.lean ====
section
/-! DEFINITION. The built-in defaults (R69, R89, R148, R156, R184, R185) and the records of a block that
power-on leaves with nothing in them. -/

namespace Sys2Proof.Machine

/-- What an invalid settings block gives (R184). -/
def defaultSettings : Settings where
  deskNumber := 0
  groupNumber := 255
  lockLevel := .openLevel
  managementPorts := 1#8
  domains := Vector.replicate 8 0
  crossing := 0xFFFF#16
  shareOutPermitted := 1#4

/-- GLIDE, CARRY_MODIFIERS, BORDERS and LOCK_TONES set (R185). -/
def defaultModeWord : ModeWord := 0b101101#6

/-- The built-in mode settings (R185). -/
def defaultModeSettings : ModeSettings where
  gain := 16
  edgeResistance := 96
  leaderKey := Config.defaultLeaderKey
  leaderWindow := 400
  commandWindow := 2000
  ageLimit := 120
  initialFocus := some 0

/-- A LEADER entry of one key. -/
def leaderEntry (key : Byte) (action : Action) : Option Hotkey :=
  some { trigger := .leader [key], action := action }

/-- H0 to H13 as R185 gives them; H14 to H31 are empty. -/
def defaultHotkeys : Vector (Option Hotkey) 32 :=
  #v[leaderEntry 30#8 (.select 0), leaderEntry 31#8 (.select 1), leaderEntry 32#8 (.select 2),
     leaderEntry 33#8 (.select 3), leaderEntry 34#8 (.select 4), leaderEntry 35#8 (.select 5),
     leaderEntry 36#8 (.select 6), leaderEntry 37#8 (.select 7), leaderEntry 15#8 .lock,
     leaderEntry 24#8 .unlock, leaderEntry 22#8 .share, leaderEntry 27#8 .unshare,
     leaderEntry 5#8 .broadcastOff, leaderEntry 43#8 .cycle,
     none, none, none, none, none, none, none, none, none,
     none, none, none, none, none, none, none, none, none]

/-- Vj as the left (even j) or right (odd j) half of the computer j div 2 (R89). -/
def defaultWindow (computer : Computer) (wx0 : Nat) : Window where
  computer := some computer
  domain := 0
  home := none
  wx0 := wx0
  wy0 := 0
  ww := 16384
  wh := 32768

/-- The built-in window records (R89). -/
def defaultWindows : Vector Window 16 :=
  #v[defaultWindow 0 0, defaultWindow 0 16384, defaultWindow 1 0, defaultWindow 1 16384,
     defaultWindow 2 0, defaultWindow 2 16384, defaultWindow 3 0, defaultWindow 3 16384,
     defaultWindow 4 0, defaultWindow 4 16384, defaultWindow 5 0, defaultWindow 5 16384,
     defaultWindow 6 0, defaultWindow 6 16384, defaultWindow 7 0, defaultWindow 7 16384]

/-- The built-in port settings of every port (R185). -/
def defaultPortSettings : PortSettings where
  form := .absolute
  wakeOnKey := true
  wakeOnFocus := true
  timeout := 5
  retries := 2

/-- A preset whose every field is KEEP (R148). -/
def emptyPreset : Preset where
  sources := Vector.replicate 8 none
  focus := none
  share := none

/-- Screen s at x0 = 2560 × s (R69). -/
def defaultPlacement (x0 : Nat) : Placement where
  enabled := true
  x0 := x0
  y0 := 0
  w := 2560
  h := 1440

/-- The built-in layout (R69). -/
def defaultLayout : Vector Placement 8 :=
  #v[defaultPlacement 0, defaultPlacement 2560, defaultPlacement 5120, defaultPlacement 7680,
     defaultPlacement 10240, defaultPlacement 12800, defaultPlacement 15360, defaultPlacement 17920]

/-- The built-in tables (R185). -/
def defaultTables : Tables where
  modeWord := defaultModeWord
  modeSettings := defaultModeSettings
  hotkeys := defaultHotkeys
  windows := defaultWindows
  portSettings := Vector.replicate 8 defaultPortSettings
  presets := Vector.replicate 8 emptyPreset
  committed := defaultLayout
  staged := defaultLayout

/-- Screen s shows Vs (R156). -/
def defaultSources : Vector Source 8 :=
  #v[some 0, some 1, some 2, some 3, some 4, some 5, some 6, some 7]

/-- All three LEDs off. -/
def ledsOff : Leds where
  num := false
  caps := false
  scroll := false

/-- All three LEDs on. -/
def ledsOn : Leds where
  num := true
  caps := true
  scroll := true

/-- No modifiers and six fields of 0 (R14). -/
def emptySnapshot : Snapshot where
  modifiers := 0#8
  fields := Vector.replicate 6 0#8

/-- The console interface after power-on (R20). -/
def emptyConsole : Console where
  slots := Vector.replicate 4 none
  ledSent := ledsOff
  errors := 0

/-- The key ownership unit after power-on (R20). -/
def emptyKeys : Keys where
  held := []
  buttons := Vector.replicate 5 none
  snapshots := Vector.replicate 8 emptySnapshot
  overflow := 0

/-- The pointer OFF with residues 0, no push and the headless mark clear (R72). -/
def offPointer : Pointer where
  place := none
  rx := 0
  ry := 0
  headless := false
  push := none

/-- No sticky condition (R119). -/
def noSticky : Sticky where
  resyncOccurred := false
  busReset := false
  detachedSeen := false
  wakeFailed := false
  queueFlushed := false

/-- The accumulator at zero with the pointer-dropped mark clear (R112). -/
def zeroResync : Resync where
  dx := 0
  dy := 0
  wheel := 0
  pointerDropped := false

/-- A port record after power-on (R100, R168), with the presence line not present. -/
def emptyPort : Port where
  link := .detached
  raw := false
  sensed := false
  debounce := none
  queue := []
  resync := none
  leds := ledsOff
  lastPair := none
  armed := false
  attempt := none
  sticky := noSticky
  resyncCount := 0
  slot := none

/-- An input record after power-on (R136). -/
def emptyInput : InputRecord where
  signal := none
  frame := 0#32

/-- A screen record after power-on with this committed source (R137, R156). -/
def emptyScreen (source : Source) : ScreenRecord where
  sink := none
  committed := source
  pending := none
  shown := none
  border := .noBorder
  repeats := 0
  skips := 0

/-- The share-out record after power-on (R150). -/
def emptyShare : ShareRecord where
  selection := .nothing
  sink := none
  shown := none
  repeats := 0
  skips := 0

/-- The empty journal (R186). -/
def emptyJournal : Journal where
  records := []
  lost := false

/-- The crosspoint after power-on with these initial sources (R136, R137, R150, R156). -/
def emptyVideo (sources : Vector Source 8) : Video where
  inputs := Vector.replicate 16 emptyInput
  screens := sources.map emptyScreen
  share := emptyShare

end Sys2Proof.Machine
end

