-- ==== Sys2Proof/Machine/State.lean ====
section
/-! DEFINITION. The state of the DK8 as plain data, the reasons a step can stop, and the state right
after power-on. -/

namespace Sys2Proof.Machine

/-- Why the machine stops with a fault. The manual names none: every command completes, and what it cannot take
it discards, counts or answers. No constructor, so that nothing raises one. -/
inductive Fault where
  deriving DecidableEq, Repr

/-- Why a command has no meaning. -/
inductive Refusal where
  /-- Raised by a refused arm of exec for a row with no meaning yet; safe, since the machine stops. No arm raises it. -/
  | notModelled (mnemonic : String)
  deriving DecidableEq, Repr

/-- The whole state of the part, block by block, with three fields of the model's own: the queue of waiting
commands, the list of what the part has sent, and the counter that the free value is drawn with. -/
structure State where
  /-- The model's own: the commands that wait, first in, first out. -/
  pending    : List Instr
  /-- The model's own: everything the part has sent on its links, oldest first. -/
  sent       : List Sent
  /-- The model's own: how many free values have been drawn, by reports and images with unstated bytes (log entry 3), by
  expiries taken at a tick (log entry 4) and by interrupted memory writes (log entry 13). -/
  freeUses   : Nat
  /-- The millisecond counter (R157). -/
  clock      : Millis
  /-- The settings block as loaded (R184). -/
  settings   : Settings
  /-- Mode word, mode settings, tables and layouts (R185). -/
  tables     : Tables
  console    : Console
  keys       : Keys
  recognizer : Recognizer
  focusUnit  : FocusUnit
  pointer    : Pointer
  ports      : Vector Port 8
  video      : Video
  /-- The scheduled action table (R158). -/
  schedule   : Vector (Option ScheduleEntry) 8
  /-- The engine: IDLE is `none`, BUSY holds the deferred record (R171). -/
  engine     : Option Deferred
  journal    : Journal
  image      : Image
  /-- The foreign management report counter (R120). -/
  foreign    : Nat
  /-- The desk mismatch counter (R167). -/
  mismatches : Nat
  deriving DecidableEq, Repr

/-- Right after power-on with a blank configuration memory: both sections are invalid, so that the built-in
defaults stand (R183 to R186). -/
def State.reset : State where
  pending := []
  sent := []
  freeUses := 0
  clock := 0#32
  settings := defaultSettings
  tables := defaultTables
  console := emptyConsole
  keys := emptyKeys
  recognizer := .idle
  focusUnit := { focus := some 0, broadcast := 0#8, locked := false }
  pointer := offPointer
  ports := Vector.replicate 8 emptyPort
  video := emptyVideo defaultSources
  schedule := Vector.replicate 8 none
  engine := none
  journal := emptyJournal
  image :=
    { memory := [], writing := none, saveFailed := false, settingsInvalid := true, tablesInvalid := true }
  foreign := 0
  mismatches := 0

end Sys2Proof.Machine
end

