-- ==== Sys2Proof/Machine/Operands.lean ====
section
/-! DEFINITION. How the operands of a command, and the records of the tables, are read from bytes and written
as bytes (section 10.6), with the range checks that the owners' rules give. -/

namespace Sys2Proof.Machine

/-! Bytes and words: least significant byte first (00_scope.md, "Conventions"). -/

/-- The byte at a place of a report; beyond the bytes given it is 0. -/
def byteAt (bytes : List Byte) (i : Nat) : Byte := bytes.getD i 0#8

/-- The byte at a place, as a number. -/
def natAt (bytes : List Byte) (i : Nat) : Nat := (byteAt bytes i).toNat

/-- The 2-byte field that begins at a place. -/
def read16 (bytes : List Byte) (i : Nat) : Nat := natAt bytes i + 256 * natAt bytes (i + 1)

/-- The 4-byte field that begins at a place. -/
def read32 (bytes : List Byte) (i : Nat) : Nat := read16 bytes i + 65536 * read16 bytes (i + 2)

/-- A number as one byte. -/
def byteOf (n : Nat) : Byte := BitVec.ofNat 8 n

/-- A number as two bytes. -/
def le16 (n : Nat) : List Byte := [byteOf n, byteOf (n / 256)]

/-- A number as four bytes. -/
def le32 (n : Nat) : List Byte := [byteOf n, byteOf (n / 256), byteOf (n / 65536), byteOf (n / 16777216)]

/-- A mark as a byte, 0 or 1. -/
def flagByte (b : Bool) : Byte := if b then 1#8 else 0#8

/-- The number nearest to n in lo to hi (00_scope.md, "clamped"). -/
def clampNat (lo hi n : Nat) : Nat := max lo (min hi n)

/-! Names by number. -/

/-- The index that a number names, when it lies in the range. -/
def indexOf? (n : Nat) (i : Nat) : Option (Fin n) := if h : i < n then some ⟨i, h⟩ else none

/-- A computer field: C0 to C7, or 0xFF for NONE (section 10.6). -/
def parseComputer (b : Byte) : Option (Option Computer) :=
  if b = 0xFF#8 then some none else (indexOf? 8 b.toNat).map some

/-- A source field: V0 to V15, or 0xFE for NONE (section 10.6). -/
def parseSource (b : Byte) : Option Source :=
  if b = 0xFE#8 then some none else (indexOf? 16 b.toNat).map some

/-- A home screen field: S0 to S7, or 0xFF for none (section 10.6). -/
def parseHome (b : Byte) : Option (Option Screen) :=
  if b = 0xFF#8 then some none else (indexOf? 8 b.toNat).map some

/-- The byte of a computer field. -/
def computerByte : Option Computer → Byte
  | none => 0xFF#8
  | some k => byteOf k.val

/-- The byte of a source field. -/
def sourceByte : Source → Byte
  | none => 0xFE#8
  | some j => byteOf j.val

/-- The byte of a screen field that may be empty. -/
def screenByte : Option Screen → Byte
  | none => 0xFF#8
  | some s => byteOf s.val

/-- The numbers of the result codes (section 10.6). -/
def resultCode : Result → Byte
  | .ok => 0#8
  | .accepted => 1#8
  | .done => 2#8
  | .superseded => 3#8
  | .partly => 4#8
  | .aborted => 5#8
  | .noChange => 6#8
  | .busy => 16#8
  | .locked => 17#8
  | .badCommand => 18#8
  | .badLength => 19#8
  | .badArgument => 20#8
  | .notFound => 21#8
  | .tableFull => 22#8
  | .duplicate => 23#8
  | .conflict => 24#8
  | .overlap => 25#8
  | .notArmed => 26#8
  | .notPresent => 27#8
  | .wakeFailed => 28#8
  | .writeFailed => 29#8
  | .domain => 30#8
  | .noScreen => 31#8

/-! Actions (section 2.7, R24, R180). -/

/-- The number of an action: 1 to 14 in the order of the summary table. -/
def actionCode : Action → Nat
  | .focus _ => 1
  | .select _ => 2
  | .cycle => 3
  | .wake _ => 4
  | .applyPreset _ => 5
  | .share => 6
  | .shareScreen _ => 7
  | .shareFor _ => 8
  | .unshare => 9
  | .lock => 10
  | .unlock => 11
  | .broadcastToggle _ => 12
  | .broadcastOff => 13
  | .holdToggle => 14

/-- The code of an absent argument (section 10.6). -/
def absentArgument : Nat := 0xFFFF

/-- The 2-byte argument of an action. -/
def actionArgument : Action → Nat
  | .focus k => k.val
  | .select k => k.val
  | .wake k => k.val
  | .applyPreset p => p.val
  | .shareScreen s => s.val
  | .shareFor t => t
  | .broadcastToggle k => k.val
  | .cycle | .share | .unshare | .lock | .unlock | .broadcastOff | .holdToggle => absentArgument

/-- An action without an argument, which must be absent (R24). -/
def plainAction (a : Action) (argument : Nat) : Option Action :=
  if argument = absentArgument then some a else none

/-- The action that a number and an argument name, when the number is one of the fourteen and the argument is
present exactly when the action takes one, of its kind and in its range (R24, R160, R180). -/
def parseAction (code argument : Nat) : Option Action :=
  match code with
  | 1 => (indexOf? 8 argument).map .focus
  | 2 => (indexOf? 8 argument).map .select
  | 3 => plainAction .cycle argument
  | 4 => (indexOf? 8 argument).map .wake
  | 5 => (indexOf? 8 argument).map .applyPreset
  | 6 => plainAction .share argument
  | 7 => (indexOf? 8 argument).map .shareScreen
  | 8 => if 1 ≤ argument ∧ argument ≤ 3600 then some (.shareFor argument) else none
  | 9 => plainAction .unshare argument
  | 10 => plainAction .lock argument
  | 11 => plainAction .unlock argument
  | 12 => (indexOf? 8 argument).map .broadcastToggle
  | 13 => plainAction .broadcastOff argument
  | 14 => plainAction .holdToggle argument
  | _ => none

/-! Keys. -/

/-- The eight modifier usages, 224 to 231. -/
def isModifier (usage : Byte) : Bool := decide (224 ≤ usage.toNat) && decide (usage.toNat ≤ 231)

/-- The bit of a modifier usage. -/
def modifierBit (usage : Byte) : ModifierSet := BitVec.twoPow 8 (usage.toNat - 224)

/-- Escape (00_scope.md, "Usage"). -/
def escapeUsage : Byte := 41#8

/-- The rollover marker (00_scope.md, "Usage"). -/
def rolloverUsage : Byte := 1#8

/-- A usage that a hotkey entry may hold as a key: not 0, not 1, not a modifier (R24). -/
def isHotkeyUsage (usage : Byte) : Bool := decide (2 ≤ usage.toNat) && !isModifier usage

/-- A usage that may be the leader key (R26). -/
def isLeaderUsage (usage : Byte) : Bool := isHotkeyUsage usage && decide (usage ≠ escapeUsage)

/-! Hotkey entries. -/

/-- The trigger in bytes 0 to 5 of a hotkey entry record: form, key count, keys, chord modifiers; a byte that the
parameters do not reach reads 0. None when the form is not LEADER or CHORD, or the count of keys is not one that the
form takes. -/
def parseTrigger (b : List Byte) : Option Trigger :=
  let count := natAt b 1
  if byteAt b 0 = 1#8 then
    if 1 ≤ count ∧ count ≤ 3 then some (.leader ((List.range count).map (fun i => byteAt b (2 + i)))) else none
  else if byteAt b 0 = 2#8 then
    if count = 1 then some (.chord (byteAt b 5) (byteAt b 2)) else none
  else none

/-- The checks of R24 on a trigger's keys. -/
def triggerAllowed : Trigger → Bool
  | .leader keys => keys.all isLeaderUsage
  | .chord _ key => isHotkeyUsage key

/-- A hotkey entry record that passes R24. A LEADER entry with chord modifiers is refused. -/
def parseHotkey (b : List Byte) : Option Hotkey :=
  match parseTrigger b, parseAction (natAt b 6) (read16 b 7) with
  | some t, some a =>
    if triggerAllowed t ∧ (byteAt b 0 = 1#8 → byteAt b 5 = 0#8) then some { trigger := t, action := a } else none
  | _, _ => none

/-- Bytes 0 to 5 of a hotkey entry record. -/
def triggerBytes : Trigger → List Byte
  | .leader keys =>
    [1#8, byteOf keys.length, byteAt keys 0, byteAt keys 1, byteAt keys 2, 0#8]
  | .chord modifiers key => [2#8, 1#8, key, 0#8, 0#8, modifiers]

/-- A hotkey entry record. -/
def hotkeyBytes (h : Hotkey) : List Byte :=
  triggerBytes h.trigger ++ [byteOf (actionCode h.action)] ++ le16 (actionArgument h.action)

/-! Window records. -/

/-- A window record that passes the checks of R90. -/
def parseWindow (b : List Byte) : Option Window :=
  match parseComputer (byteAt b 0), indexOf? 4 (natAt b 1), parseHome (byteAt b 2) with
  | some c, some d, some home =>
    let ww := read16 b 7
    let wh := read16 b 9
    if 1 ≤ ww ∧ ww ≤ 32768 ∧ 1 ≤ wh ∧ wh ≤ 32768 ∧ read16 b 3 + ww ≤ 32768 ∧ read16 b 5 + wh ≤ 32768 then
      some { computer := c, domain := d, home := home, wx0 := read16 b 3, wy0 := read16 b 5, ww := ww, wh := wh }
    else none
  | _, _, _ => none

/-- A window record of a valid tables section, brought into range (R89). -/
def loadWindow (b : List Byte) : Window :=
  let wx0 := clampNat 0 32767 (read16 b 3)
  let wy0 := clampNat 0 32767 (read16 b 5)
  { computer := (parseComputer (byteAt b 0)).getD none
    domain := (indexOf? 4 (natAt b 1)).getD 0
    home := (parseHome (byteAt b 2)).getD none
    wx0 := wx0
    wy0 := wy0
    ww := min (clampNat 1 32768 (read16 b 7)) (32768 - wx0)
    wh := min (clampNat 1 32768 (read16 b 9)) (32768 - wy0) }

/-- A window record as bytes. -/
def windowBytes (w : Window) : List Byte :=
  [computerByte w.computer, byteOf w.domain.val, screenByte w.home] ++
    le16 w.wx0 ++ le16 w.wy0 ++ le16 w.ww ++ le16 w.wh

/-! Port settings. -/

/-- The three bits of byte 0 and the two numbers of a port settings record, unchecked. -/
def rawPortSettings (b : List Byte) : PortSettings where
  form := if (byteAt b 0).getLsbD 0 then .relative else .absolute
  wakeOnKey := (byteAt b 0).getLsbD 1
  wakeOnFocus := (byteAt b 0).getLsbD 2
  timeout := natAt b 1
  retries := natAt b 2

/-- A port settings record that passes the checks of R178. Bits 3 to 7 of byte 0 are no field: log entry 10. -/
def parsePortSettings (b : List Byte) : Option PortSettings :=
  let p := rawPortSettings b
  if 1 ≤ p.timeout ∧ p.timeout ≤ 30 ∧ p.retries ≤ 7 then some p else none

/-- A port settings record of a valid tables section (R185). -/
def loadPortSettings (b : List Byte) : PortSettings :=
  let p := rawPortSettings b
  { p with timeout := clampNat 1 30 p.timeout, retries := clampNat 0 7 p.retries }

/-- A port settings record as bytes. -/
def portSettingsBytes (p : PortSettings) : List Byte :=
  [(if p.form = .relative then 1#8 else 0#8) ||| (if p.wakeOnKey then 2#8 else 0#8) |||
      (if p.wakeOnFocus then 4#8 else 0#8), byteOf p.timeout, byteOf p.retries]

/-! Presets. -/

/-- A screen source field of a preset: an input, NONE, or KEEP (0xFF). -/
def parsePresetSource (b : Byte) : Option (Option Source) :=
  if b = 0xFF#8 then some none else (parseSource b).map some

/-- The share selection of a preset from its kind and its index; KEEP is kind 0xFF. -/
def parsePresetShare (kind index : Byte) : Option (Option Selection) :=
  if kind = 0xFF#8 then some none
  else if kind = 0#8 then some (some .nothing)
  else if kind = 1#8 then (indexOf? 8 index.toNat).map (fun s => some (.screen s))
  else if kind = 2#8 then (indexOf? 16 index.toNat).map (fun j => some (.input j))
  else none

/-- Whether every field of a preset record lies in its values (R148). -/
def presetInRange (b : List Byte) : Bool :=
  (List.range 8).all (fun i => (parsePresetSource (byteAt b i)).isSome) &&
    (parseComputer (byteAt b 8)).isSome && (parsePresetShare (byteAt b 9) (byteAt b 10)).isSome

/-- A preset record with each field outside its values as KEEP (R148). -/
def loadPreset (b : List Byte) : Preset where
  sources := Vector.ofFn (fun i => (parsePresetSource (byteAt b i.val)).getD none)
  focus := (parseComputer (byteAt b 8)).getD none
  share := (parsePresetShare (byteAt b 9) (byteAt b 10)).getD none

/-- A preset record that passes the check of R148. -/
def parsePreset (b : List Byte) : Option Preset := if presetInRange b then some (loadPreset b) else none

/-- The byte of a screen source field of a preset. -/
def presetSourceByte : Option Source → Byte
  | none => 0xFF#8
  | some src => sourceByte src

/-- A preset record as bytes. The index byte of a share kind that has no index is not stated: it is given. -/
def presetBytes (free : Byte) (p : Preset) : List Byte :=
  p.sources.toList.map presetSourceByte ++ [computerByte p.focus] ++
    match p.share with
    | none => [0xFF#8, free]
    | some .nothing => [0#8, free]
    | some (.screen s) => [1#8, byteOf s.val]
    | some (.input j) => [2#8, byteOf j.val]

/-! Layout records. -/

/-- A layout record as stored, without checks (R65). -/
def parsePlacement (b : List Byte) : Placement where
  enabled := decide (byteAt b 0 ≠ 0#8)
  x0 := read16 b 1
  y0 := read16 b 3
  w := read16 b 5
  h := read16 b 7

/-- A layout record as bytes. -/
def placementBytes (p : Placement) : List Byte :=
  flagByte p.enabled :: le16 p.x0 ++ le16 p.y0 ++ le16 p.w ++ le16 p.h

/-! Mode block. -/

/-- Bytes 1 to 11 of a mode block: the seven mode settings. -/
def modeSettingsBytes (m : ModeSettings) : List Byte :=
  byteOf m.gain :: le16 m.edgeResistance ++ [m.leaderKey] ++ le16 m.leaderWindow ++ le16 m.commandWindow ++
    le16 m.ageLimit ++ [computerByte m.initialFocus]

/-- The seven mode settings of WRITE MODE SETTINGS when every value lies in its range (R177, R26). -/
def parseModeSettings (b : List Byte) : Option ModeSettings :=
  match parseComputer (byteAt b 10) with
  | none => none
  | some initial =>
    if 1 ≤ natAt b 0 ∧ read16 b 1 ≤ 1023 ∧ isLeaderUsage (byteAt b 3) ∧
        50 ≤ read16 b 4 ∧ read16 b 4 ≤ 1000 ∧ 500 ≤ read16 b 6 ∧ read16 b 6 ≤ 5000 ∧ read16 b 8 ≤ 255 then
      some
        { gain := natAt b 0, edgeResistance := read16 b 1, leaderKey := byteAt b 3, leaderWindow := read16 b 4,
          commandWindow := read16 b 6, ageLimit := read16 b 8, initialFocus := initial }
    else none

/-- The seven mode settings of a valid tables section, brought into range (R185). -/
def loadModeSettings (b : List Byte) : ModeSettings where
  gain := clampNat 1 255 (natAt b 0)
  edgeResistance := clampNat 0 1023 (read16 b 1)
  leaderKey := if isLeaderUsage (byteAt b 3) then byteAt b 3 else Config.defaultLeaderKey
  leaderWindow := clampNat 50 1000 (read16 b 4)
  commandWindow := clampNat 500 5000 (read16 b 6)
  ageLimit := clampNat 0 255 (read16 b 8)
  initialFocus := (parseComputer (byteAt b 10)).getD none

/-! The console report's signed fields (R6). -/

/-- A 12-bit motion, read as −2047 to +2047. -/
def readMotion (d : BitVec 12) : Int := max (-2047) d.toInt

/-- A wheel byte, read as −127 to +127. -/
def readWheel (w : Byte) : Int := max (-127) w.toInt

/-- The buttons B1 to B5 of a button byte; bits beyond B5 are ignored. -/
def readButtons (b : Byte) : ButtonSet := b.setWidth 5

end Sys2Proof.Machine
end

