-- ==== Sys2Proof/Machine/Ops.lean ====
section
/-! DEFINITION. The operations that the blocks share: sets of computers, the port records and their queues,
snapshots, notices, the journal, wake requests, the result slots and the engine's notices. -/

namespace Sys2Proof.Machine

/-! Sets and lists of names. -/

/-- C0 to C7, or S0 to S7, or P0 to P7, or T0 to T7, in ascending order. -/
def eight : List (Fin 8) := [0, 1, 2, 3, 4, 5, 6, 7]

/-- V0 to V15 in ascending order. -/
def sixteen : List (Fin 16) := [0, 1, 2, 3, 4, 5, 6, 7, 8, 9, 10, 11, 12, 13, 14, 15]

/-- K0 to K3 in ascending order. -/
def fourSlots : List Slot := [0, 1, 2, 3]

/-- Membership of a computer in a set. -/
def inSet (ks : ComputerSet) (k : Computer) : Bool := ks.getLsbD k.val

/-- The set that holds one computer. -/
def single (k : Computer) : ComputerSet := BitVec.twoPow 8 k.val

/-- A set without a computer. -/
def without (ks : ComputerSet) (k : Computer) : ComputerSet := ks &&& ~~~single k

/-- A set together with a computer. -/
def including (ks : ComputerSet) (k : Computer) : ComputerSet := ks ||| single k

/-- The computers of a test, as a set. -/
def setOf (p : Computer → Bool) : ComputerSet :=
  eight.foldl (fun ks k => if p k then including ks k else ks) 0#8

/-- A saturating counter counts one (R191). -/
def bump (n : Nat) : Nat := min (n + 1) Config.counterLimit

/-- A report value held to −127 to +127 (R109, R113). -/
def saturate (x : Int) : Int := max (-127) (min 127 x)

/-! Mode bits (section 10.6). -/

/-- GLIDE. -/
def glideSet (s : State) : Bool := s.tables.modeWord.getLsbD 0
/-- FOCUS_HOLD. -/
def focusHoldSet (s : State) : Bool := s.tables.modeWord.getLsbD 1
/-- CARRY_MODIFIERS. -/
def carrySet (s : State) : Bool := s.tables.modeWord.getLsbD 2
/-- BORDERS. -/
def bordersSet (s : State) : Bool := s.tables.modeWord.getLsbD 3
/-- BLANK_ON_LOCK. -/
def blankOnLockSet (s : State) : Bool := s.tables.modeWord.getLsbD 4
/-- LOCK_TONES. -/
def lockTonesSet (s : State) : Bool := s.tables.modeWord.getLsbD 5

/-! Times (R157, R161). -/

/-- A time on the millisecond counter, `millis` from now. -/
def timeFromNow (s : State) (millis : Nat) : Millis := s.clock + BitVec.ofNat 32 millis

/-- Whether a time has come: the counter minus the time, modulo 2^32 and read as signed, is 0 or more (R157, R161). -/
def isDue (clock time : Millis) : Bool := decide (0 ≤ (clock - time).toInt)

/-! Reading the state. -/

/-- Port unit k's record. -/
def State.port (s : State) (k : Computer) : Port := s.ports.get k

/-- Port k's settings. -/
def State.settingsOf (s : State) (k : Computer) : PortSettings := s.tables.portSettings.get k

/-- The domain of computer k (R43). -/
def State.domainOf (s : State) (k : Computer) : Domain := s.settings.domains.get k

/-- A screen record. -/
def State.screen (s : State) (sc : Screen) : ScreenRecord := s.video.screens.get sc

/-- An input record. -/
def State.input (s : State) (j : Input) : InputRecord := s.video.inputs.get j

/-- A window record. -/
def State.window (s : State) (j : Input) : Window := s.tables.windows.get j

/-- A committed placement record. -/
def State.placement (s : State) (sc : Screen) : Placement := s.tables.committed.get sc

/-- A port is queueable in READY, SUSPENDED and WAKING (section 6.2). -/
def LinkState.queueable : LinkState → Bool
  | .ready | .suspended | .waking => true
  | .detached | .attached => false

/-- Whether port k is queueable. -/
def State.queueable (s : State) (k : Computer) : Bool := (s.port k).link.queueable

/-- Whether port k is in the management port set (R117). -/
def State.isManagement (s : State) (k : Computer) : Bool := inSet s.settings.managementPorts k

/-- The computers whose ports are queueable. -/
def queueableSet (s : State) : ComputerSet := setOf s.queueable

/-! Writing the state. -/

/-- Port unit k's record becomes p. -/
def State.setPort (s : State) (k : Computer) (p : Port) : State :=
  { s with ports := s.ports.set k.val p k.isLt }

/-- Port unit k's record is changed by f. -/
def onPort (k : Computer) (f : Port → Port) (s : State) : State := s.setPort k (f (s.port k))

/-- Screen sc's record becomes r. -/
def State.setScreen (s : State) (sc : Screen) (r : ScreenRecord) : State :=
  { s with video := { s.video with screens := s.video.screens.set sc.val r sc.isLt } }

/-- Input j's record becomes r. -/
def State.setInput (s : State) (j : Input) (r : InputRecord) : State :=
  { s with video := { s.video with inputs := s.video.inputs.set j.val r j.isLt } }

/-- The share-out record becomes r. -/
def State.setShare (s : State) (r : ShareRecord) : State := { s with video := { s.video with share := r } }

/-- The pointer record becomes p. -/
def State.setPointer (s : State) (p : Pointer) : State := { s with pointer := p }

/-- The held-key table becomes es. -/
def State.setHeld (s : State) (es : List HeldKey) : State := { s with keys := { s.keys with held := es } }

/-- The button owner records become bs. -/
def State.setButtons (s : State) (bs : Vector (Option Computer) 5) : State :=
  { s with keys := { s.keys with buttons := bs } }

/-- Slot i of the console becomes d. -/
def State.setSlot (s : State) (i : Slot) (d : Option Device) : State :=
  { s with console := { s.console with slots := s.console.slots.set i.val d i.isLt } }

/-- Slot i of the schedule becomes e. -/
def State.setEntry (s : State) (i : ScheduleIndex) (e : Option ScheduleEntry) : State :=
  { s with schedule := s.schedule.set i.val e i.isLt }

/-- The part sends something on one of its links. -/
def State.send (s : State) (x : Sent) : State := { s with sent := s.sent ++ [x] }

/-- The console error counter counts one (R3). -/
def countConsoleError (s : State) : State :=
  { s with console := { s.console with errors := bump s.console.errors } }

/-- The foreign management report counter counts one (R120). -/
def countForeign (s : State) : State := { s with foreign := bump s.foreign }

/-! The journal (R189). -/

/-- A record is added at the end, or lost with JOURNAL_LOST set when the journal is full (R189). -/
def record (event : JournalEvent) (s : State) : State :=
  { s with
    journal :=
      if s.journal.records.length < Config.journalCapacity then
        { s.journal with records := s.journal.records ++ [{ time := s.clock, event := event }] }
      else { s.journal with lost := true } }

/-! Console notices (R21, R22). -/

/-- The value of the console LED notice (R21). -/
def ledValue (s : State) : Leds :=
  match s.recognizer with
  | .command _ _ => ledsOn
  | _ =>
    match s.focusUnit.focus with
    | none => ledsOff
    | some k => (s.port k).leds

/-- The LED notice is sent with its current value, which becomes the last value sent (R21). -/
def sendLeds (s : State) : State :=
  { s with
    sent := s.sent ++ [.ledNotice (ledValue s)]
    console := { s.console with ledSent := ledValue s } }

/-- The LED notice is sent when its value differs from the last value sent (R21). -/
def refreshLeds (s : State) : State := if ledValue s = s.console.ledSent then s else sendLeds s

/-- The recognizer asks for an alert, which is sent when LOCK_TONES is set (R22, R41). -/
def askAlert (kind : AlertKind) (s : State) : State := if lockTonesSet s then s.send (.alert kind) else s

/-! The outbound queue (R108 to R114). -/

/-- A dropped report is taken into the accumulator (R113). -/
def absorb (acc : Resync) : Report → Resync
  | .keyboard _ => acc
  | .absolute _ _ _ wheel => { acc with wheel := saturate (acc.wheel + wheel), pointerDropped := true }
  | .relative dx dy _ wheel =>
    { dx := saturate (acc.dx + dx), dy := saturate (acc.dy + dy), wheel := saturate (acc.wheel + wheel),
      pointerDropped := true }

/-- The tail with a new report merged into it, when the two merge (R109). -/
def mergeReports : Report → Report → Option Report
  | .absolute _ _ b w, .absolute ax ay b' w' =>
    if b = b' then some (.absolute ax ay b (saturate (w + w'))) else none
  | .relative dx dy b w, .relative dx' dy' b' w' =>
    if b = b' then some (.relative (saturate (dx + dx')) (saturate (dy + dy')) b (saturate (w + w'))) else none
  | _, _ => none

/-- The queue with a report merged into its tail, when it merges (R109). -/
def mergeTail (queue : List Report) (r : Report) : Option (List Report) :=
  match queue.getLast? with
  | none => none
  | some tail => (mergeReports tail r).map (fun m => queue.dropLast ++ [m])

/-- An absolute report's pair becomes the last absolute pair (R92). -/
def notePair (r : Report) (p : Port) : Port :=
  match r with
  | .absolute ax ay _ _ => { p with lastPair := some (ax, ay) }
  | _ => p

/-- A queueable port takes an offered report: merged, added, or taken into RESYNC (R108, R109, R112, R113). -/
def enqueue (r : Report) (p : Port) : Port :=
  match p.resync with
  | some acc => { p with resync := some (absorb acc r) }
  | none =>
    match mergeTail p.queue r with
    | some q => { p with queue := q }
    | none =>
      if p.queue.length < Config.queueCapacity then { p with queue := p.queue ++ [r] }
      else { p with resync := some (absorb zeroResync r) }

/-- A report is offered to a port's queue; in DETACHED and ATTACHED it is discarded (R108, R92). -/
def offerTo (r : Report) (p : Port) : Port := if p.link.queueable then enqueue r (notePair r p) else p

/-- A report is offered to port k. -/
def offer (k : Computer) (r : Report) (s : State) : State := onPort k (offerTo r) s

/-- Whether a report is a pointer report. -/
def isPointerReport : Report → Bool
  | .keyboard _ => false
  | _ => true

/-- A flush into RESYNC (R114), with the mark set in any case when `mark` is. A port already in RESYNC keeps its accumulator,
at a desk reset too, where R121 speaks of zero motion. DEDUCED: log entry 21. -/
def flushIntoResync (mark : Bool) (p : Port) : Port :=
  let acc := p.resync.getD zeroResync
  { p with
    queue := []
    resync := some { acc with pointerDropped := acc.pointerDropped || p.queue.any isPointerReport || mark } }

/-! Snapshots (R14, R15). -/

/-- The entries that computer k owns. -/
def ownedBy (held : List HeldKey) (k : Computer) : List HeldKey := held.filter (fun e => inSet e.owners k)

/-- The modifier usages of entries, as a set. -/
def modifiersOf (es : List HeldKey) : ModifierSet :=
  es.foldl (fun m e => if isModifier e.usage then m ||| modifierBit e.usage else m) 0#8

/-- A list with each value at its first place only. -/
def firstOccurrences (us : List Byte) : List Byte :=
  us.foldl (fun seen u => if u ∈ seen then seen else seen ++ [u]) []

/-- The distinct non-modifier usages of entries, oldest first (R14). -/
def keysOf (es : List HeldKey) : List Byte :=
  firstOccurrences ((es.filter (fun e => !isModifier e.usage)).map HeldKey.usage)

/-- The six usage fields for a list of keys: the keys and then 0, or the rollover marker throughout (R14). -/
def usageFields (keys : List Byte) : Vector Byte 6 :=
  if keys.length ≤ 6 then Vector.ofFn (fun i => keys.getD i.val 0#8) else Vector.replicate 6 rolloverUsage

/-- The snapshot that a table gives for computer k (R14). -/
def snapshotFrom (held : List HeldKey) (k : Computer) : Snapshot where
  modifiers := modifiersOf (ownedBy held k)
  fields := usageFields (keysOf (ownedBy held k))

/-- Computer k's current snapshot (R14). -/
def State.snapshot (s : State) (k : Computer) : Snapshot := snapshotFrom s.keys.held k

/-- Computer k's snapshot is made and, when it differs from the last one, becomes it and is offered (R15). -/
def refreshSnapshot (k : Computer) (s : State) : State :=
  if s.snapshot k = s.keys.snapshots.get k then s
  else
    offer k (.keyboard (s.snapshot k))
      { s with keys := { s.keys with snapshots := s.keys.snapshots.set k.val (s.snapshot k) k.isLt } }

/-- The snapshots of a set of computers are made, in ascending order (R12, R15). -/
def refreshSnapshots (ks : ComputerSet) (s : State) : State :=
  eight.foldl (fun t k => if inSet ks k then refreshSnapshot k t else t) s

/-- The computers in the owner sets of entries. -/
def ownersOf (es : List HeldKey) : ComputerSet := es.foldl (fun ks e => ks ||| e.owners) 0#8

/-- The entries that meet a test are removed as one request, and each computer that owned one of them gets its
snapshot (R2, R10, R12, R19). -/
def releaseEntries (p : HeldKey → Bool) (s : State) : State :=
  refreshSnapshots (ownersOf (s.keys.held.filter p)) (s.setHeld (s.keys.held.filter (fun e => !p e)))

/-! Buttons (R16 to R18). -/

/-- The buttons whose owner record holds k (R16). -/
def buttonsIn (owners : Vector (Option Computer) 5) (k : Computer) : ButtonSet :=
  ([0, 1, 2, 3, 4] : List (Fin 5)).foldl
    (fun b i => if owners.get i = some k then b ||| BitVec.twoPow 5 i.val else b) 0#5

/-- The button field of a pointer report to computer k (R16). -/
def State.buttonsOf (s : State) (k : Computer) : ButtonSet := buttonsIn s.keys.buttons k

/-- The glide target: the focus computer when the console is unlocked and focus is not headless (R16). -/
def glideTarget (s : State) : Option Computer :=
  if s.focusUnit.locked || s.pointer.headless then none else s.focusUnit.focus

/-- The last absolute pair of port k, or the middle of the space while it is absent (R92). -/
def pairOf (p : Port) : Nat × Nat := p.lastPair.getD Config.middlePair

/-- A pointer report to k with no new position and no motion: its form, its last pair or zero motion, the
buttons it owns, and the wheel given (R18, R96). -/
def restingReport (s : State) (k : Computer) (wheel : Int) : Report :=
  match (s.settingsOf k).form with
  | .absolute => .absolute (pairOf (s.port k)).1 (pairOf (s.port k)).2 (s.buttonsOf k) wheel
  | .relative => .relative 0 0 (s.buttonsOf k) wheel

/-- A computer receives the pointer report of R18. -/
def offerOwed (k : Computer) (s : State) : State := offer k (restingReport s k 0) s

/-- The computers that own a button. -/
def buttonOwners (s : State) : ComputerSet := setOf (fun k => decide (s.buttonsOf k ≠ 0#5))

/-- The reports of R18 to a set of computers, in ascending order. -/
def offerOwedTo (ks : ComputerSet) (s : State) : State :=
  eight.foldl (fun t k => if inSet ks k then offerOwed k t else t) s

/-- Every button owner record is cleared, and each former owner receives a report without its buttons (R17, R18). -/
def releaseButtons (s : State) : State :=
  offerOwedTo (buttonOwners s) (s.setButtons (Vector.replicate 5 none))

/-! Wake requests (R124 to R126). -/

/-- A wake attempt begins on a SUSPENDED armed port (R125). -/
def startWake (k : Computer) (s : State) : State :=
  record (.wakeSent k)
    (onPort k
      (fun p =>
        { p with
          link := .waking
          attempt := some
            { signals := 1
              retryLimit := (s.settingsOf k).retries
              timeout := (s.settingsOf k).timeout
              expiry := timeFromNow s (1000 * (s.settingsOf k).timeout) } })
      (s.send (.wakeSignal k)))

/-- Port unit k's answer to a wake request (R125, R126). -/
def wakeAnswer (p : Port) : Result :=
  match p.link with
  | .suspended => if p.armed then .accepted else .notArmed
  | .waking | .ready => .noChange
  | .attached | .detached => .notPresent

/-- A wake request is handed to port unit k (R125, R126). -/
def wakeRequest (k : Computer) (s : State) : State :=
  if wakeAnswer (s.port k) = .accepted then startWake k s else s

/-- The wake-on-focus request for the focus computer k (R56). -/
def wakeOnFocus (k : Computer) (s : State) : State :=
  if (s.port k).link = .suspended ∧ (s.settingsOf k).wakeOnFocus then wakeRequest k s else s

/-- The wake-on-key requests for the owners of a new entry, in ascending order (R13). -/
def wakeOnKey (owners : ComputerSet) (s : State) : State :=
  eight.foldl
    (fun t k =>
      if inSet owners k ∧ (t.port k).link = .suspended ∧ (t.settingsOf k).wakeOnKey then wakeRequest k t else t)
    s

/-! Result slots and the engine's notices (R168, R172, R173). -/

/-- A result is written into a management port's slot (R168). -/
def writeSlot (k : Computer) (r : ResultSlot) (s : State) : State :=
  if s.isManagement k then onPort k (fun p => { p with slot := some r }) s else s

/-- The command code of a deferred command (section 10.6). -/
def deferredCode : DeferredCommand → Byte
  | .setScreen => 0x29#8
  | .select | .applyPreset | .wake => 0x28#8
  | .save => 0x48#8

/-- The deferred command ends with a final result: the slot is written and the engine becomes IDLE (R172, R173). -/
def completeDeferred (d : Deferred) (result : Result) (s : State) : State :=
  { writeSlot d.port { tag := d.tag, command := deferredCode d.command, result := result, data := [] } s with
    engine := none }

/-- A commit notice resolves the unresolved touched screen it names (R172). -/
def resolveTouched (sc : Screen) (src : Source) (ts : List Touched) : List Touched :=
  ts.map (fun t =>
    if t.screen = sc ∧ t.resolution = .unresolved then
      { t with resolution := if src = t.asked then .kept else .lost }
    else t)

/-- The final result of a command whose touched screens are all resolved (R172). -/
def screensResult (ts : List Touched) (skipped : Bool) : Result :=
  if ts.any (fun t => decide (t.resolution = .lost)) then .superseded
  else if skipped then .partly
  else .done

/-- The crosspoint tells the engine that a screen has committed a source (R141, R172). -/
def engineCommit (sc : Screen) (src : Source) (s : State) : State :=
  match s.engine with
  | some d =>
    match d.wait with
    | .screens ts =>
      let ts' := resolveTouched sc src ts
      if ts' = ts then s
      else if ts'.all (fun t => decide (t.resolution ≠ .unresolved)) then
        completeDeferred d (screensResult ts' d.focusSkipped) s
      else { s with engine := some { d with wait := .screens ts' } }
    | _ => s
  | none => s

/-- Port unit k tells the engine that a wake attempt has ended (R132). -/
def engineWakeEnded (k : Computer) (outcome : Result) (s : State) : State :=
  match s.engine with
  | some d => if d.wait = .wakeOf k then completeDeferred d outcome s else s
  | none => s

/-- The engine and the slot when management port k leaves the queueable states (R168, R175). -/
def engineIssuerLost (k : Computer) (s : State) : State :=
  let s := onPort k (fun p => { p with slot := none }) s
  match s.engine with
  | some d => if d.port = k then { s with engine := none } else s
  | none => s

end Sys2Proof.Machine
end

