-- ==== Sys2Proof/Machine/Flags.lean ====
section
/-! DEFINITION. The flags and condition bytes that reads give: the status word (R176, R182, R183, R189), a
port's current and sticky conditions (R118, R119), and the codes of states in the result data (section 10.6). -/

namespace Sys2Proof.Machine

/-- JOURNAL_HIGH (R189). -/
def journalHigh (s : State) : Bool := decide (Config.journalHighMark ≤ s.journal.records.length)

/-- SAVE_ACTIVE (R182). -/
def saveActive (s : State) : Bool := s.image.writing.isSome

/-- The current condition headless-focus of port k (R118). -/
def headlessFocus (s : State) (k : Computer) : Bool :=
  s.pointer.headless && decide (s.focusUnit.focus = some k)

/-- A mark at a bit of a byte. -/
def bitAt (n : Nat) (b : Bool) : Byte := if b then BitVec.twoPow 8 n else 0#8

/-- The low byte of the status word; its high byte is 0 (section 10.6). -/
def statusByte (s : State) : Byte :=
  bitAt 0 s.image.settingsInvalid ||| bitAt 1 s.image.tablesInvalid ||| bitAt 2 (journalHigh s) |||
    bitAt 3 s.journal.lost ||| bitAt 4 (saveActive s) ||| bitAt 5 s.image.saveFailed

/-- Byte 1 of READ PORT's data: the current conditions RESYNC, armed and headless-focus. -/
def currentByte (s : State) (k : Computer) : Byte :=
  bitAt 0 (s.port k).resync.isSome ||| bitAt 1 (s.port k).armed ||| bitAt 2 (headlessFocus s k)

/-- Byte 2 of READ PORT's data: the sticky conditions. -/
def stickyByte (c : Sticky) : Byte :=
  bitAt 0 c.resyncOccurred ||| bitAt 1 c.busReset ||| bitAt 2 c.detachedSeen ||| bitAt 3 c.wakeFailed |||
    bitAt 4 c.queueFlushed

/-- An LED state as byte 1 of the LED notice. -/
def ledsByte (l : Leds) : Byte := bitAt 0 l.num ||| bitAt 1 l.caps ||| bitAt 2 l.scroll

/-- The code of a link state. -/
def linkByte : LinkState → Byte
  | .detached => 0#8
  | .attached => 1#8
  | .ready => 2#8
  | .suspended => 3#8
  | .waking => 4#8

/-- The code of a lock level (the settings block's byte 2). -/
def lockLevelByte : LockLevel → Byte
  | .openLevel => 0#8
  | .operate => 1#8
  | .observe => 2#8

/-- The code of a recognizer state. -/
def recognizerByte : Recognizer → Byte
  | .idle => 0#8
  | .tap1Down _ _ => 1#8
  | .tap1Up _ _ => 2#8
  | .tap2Down _ _ => 3#8
  | .command _ _ => 4#8

/-- The code of a standby reason. -/
def reasonByte : StandbyReason → Byte
  | .noSource => 0#8
  | .noSignal => 1#8
  | .modeMismatch => 2#8
  | .privacy => 3#8
  | .withheld => 4#8

/-- The code of a border. -/
def borderByte : Border → Byte
  | .noBorder => 0#8
  | .focus => 1#8
  | .command => 2#8
  | .locked => 3#8

/-- The code of a cause of a focus change (R189). -/
def causeByte : Cause → Byte
  | .glide => 0#8
  | .relocate => 1#8
  | .hotkey => 2#8
  | .management => 3#8
  | .schedule => 4#8
  | .preset => 5#8

/-- The code of an origin (section 10.6). -/
def originByte : Origin → Byte
  | .management => 0#8
  | .hotkey => 1#8

end Sys2Proof.Machine
end

