-- ==== Sys2Proof/Machine/Focus.lean ====
section
/-! DEFINITION. Enterable screens and the placing of the pointer (R70, R72, R83, R85), the focus change with all
its effects (R52 to R56), and the actions of the focus unit (R47, R49, R58, R59, R62, R63, R87). -/

namespace Sys2Proof.Machine

/-! Screens and computers (R43, R70). -/

/-- The intended source of a screen record (R137). -/
def intendedOf (r : ScreenRecord) : Source := r.pending.getD r.committed

/-- The computer to which a source is bound, if any. -/
def computerOf (s : State) : Source → Option Computer
  | none => none
  | some j => (s.window j).computer

/-- The computer to which the intended source of a screen is bound (R70). -/
def screenComputer (s : State) (sc : Screen) : Option Computer := computerOf s (intendedOf (s.screen sc))

/-- Whether a screen is enterable (R70). -/
def enterable (s : State) (sc : Screen) : Bool :=
  (s.placement sc).enabled && (s.screen sc).sink.isSome && (screenComputer s sc).isSome

/-- An enterable screen of computer k. -/
def enterableOf (s : State) (k : Computer) (sc : Screen) : Bool :=
  enterable s sc && decide (screenComputer s sc = some k)

/-- The lowest-numbered enterable screen of computer k. -/
def lowestScreenOf (s : State) (k : Computer) : Option Screen := eight.find? (enterableOf s k)

/-- Whether a screen's computer lies in a domain. -/
def screenInDomain (s : State) (d : Domain) (sc : Screen) : Bool :=
  match screenComputer s sc with
  | some c => decide (s.domainOf c = d)
  | none => false

/-- The lowest-numbered enterable screen whose computer lies in the domain of k. -/
def lowestScreenNear (s : State) (k : Computer) : Option Screen :=
  eight.find? (fun sc => enterable s sc && screenInDomain s (s.domainOf k) sc)

/-- The domain of a video input: its computer's when it is bound, its record's own when it is not (R43). -/
def inputDomain (s : State) (j : Input) : Domain :=
  match (s.window j).computer with
  | some k => s.domainOf k
  | none => (s.window j).domain

/-- The value of the crossing matrix for a pair of domains; the diagonal is yes (R44). -/
def crossingAllowed (s : State) (a b : Domain) : Bool :=
  decide (a = b) || s.settings.crossing.getLsbD (4 * a.val + b.val)

/-! Placing the pointer. -/

/-- The centre of a screen (R72). -/
def centreOf (sc : Screen) (p : Placement) : Place where
  screen := sc
  x := p.x0 + p.w / 2
  y := p.y0 + p.h / 2

/-- The residues and the push record are cleared (R73). -/
def clearMotion (s : State) : State := { s with pointer := { s.pointer with rx := 0, ry := 0, push := none } }

/-- The headless mark is cleared (R51). -/
def clearHeadless (s : State) : State := { s with pointer := { s.pointer with headless := false } }

/-- The pointer is placed at the centre of a screen, with residues and push record cleared. -/
def placeAtCentre (sc : Screen) (s : State) : State :=
  { s with
    pointer :=
      { s.pointer with place := some (centreOf sc (s.placement sc)), rx := 0, ry := 0, push := none } }

/-- The pointer goes OFF, with residues and push record cleared. -/
def takeOffPlane (s : State) : State :=
  { s with pointer := { s.pointer with place := none, rx := 0, ry := 0, push := none } }

/-- A warp to computer k: to the centre of its lowest-numbered enterable screen, or off-plane and headless (R83, R50). -/
def warp (k : Computer) (s : State) : State :=
  match lowestScreenOf s k with
  | some sc => clearHeadless (placeAtCentre sc s)
  | none => { s with pointer := { s.pointer with place := none, rx := 0, ry := 0, push := none, headless := true } }

/-! The focus change (R52). -/

/-- The owner set of one entry after the modifier carry from f to k (R53). -/
def carriedOwners (s : State) (f k : Computer) (owners : ComputerSet) : ComputerSet :=
  if s.domainOf k = s.domainOf f ∧ s.queueable k then including (without owners f) k else without owners f

/-- The modifier carry edits this entry: a modifier whose owner set contains f (R53). -/
def isCarried (f : Computer) (e : HeldKey) : Bool := isModifier e.usage && inSet e.owners f

/-- One entry after the modifier carry from f to k (R53). -/
def carryEntry (s : State) (f k : Computer) (e : HeldKey) : HeldKey :=
  if isCarried f e then { e with owners := carriedOwners s f k e.owners } else e

/-- The modifier carry of a focus change from f to k (R53, R12). -/
def carryModifiers (previous : Option Computer) (k : Computer) (s : State) : State :=
  match previous with
  | none => s
  | some f =>
    if carrySet s ∧ s.keys.held.any (isCarried f) then
      refreshSnapshots (including (single f) k) (s.setHeld (s.keys.held.map (carryEntry s f k)))
    else s

/-- The broadcast adjustment of a focus change (R54). -/
def adjustBroadcast (previous : Option Computer) (k : Computer) (s : State) : State :=
  { s with
    focusUnit :=
      { s.focusUnit with
        broadcast :=
          if previous.map s.domainOf = some (s.domainOf k) then without s.focusUnit.broadcast k else 0#8 } }

/-- Step 4 of a focus change: the warp of an action or a preset; for a glide or a relocation the placement stands
and focus is not headless (R52, R50). -/
def placeForFocus (cause : Cause) (k : Computer) (s : State) : State :=
  match cause with
  | .glide | .relocate => clearHeadless s
  | .hotkey | .management | .schedule | .preset => warp k s

/-- Focus passes to computer k, with the effects of R52 in their order. -/
def focusChange (k : Computer) (cause : Cause) (s : State) : State :=
  let previous := s.focusUnit.focus
  wakeOnFocus k
    (record (.focus previous k cause)
      (refreshLeds
        (placeForFocus cause k
          (clearMotion
            (adjustBroadcast previous k
              (carryModifiers previous k
                { s with focusUnit := { s.focusUnit with focus := some k } }))))))

/-! Relocation (R84, R85). -/

/-- The glide unit places the pointer on a screen of another computer of the focus domain and asks for the focus
change with cause RELOCATE (R74, R85). -/
def relocateTo (sc : Screen) (s : State) : State :=
  match screenComputer s sc with
  | some c => focusChange c .relocate (placeAtCentre sc s)
  | none => placeAtCentre sc s

/-- A relocation chooses the pointer's new place (R85). -/
def relocate (s : State) : State :=
  match s.focusUnit.focus with
  | none => takeOffPlane s
  | some f =>
    match lowestScreenOf s f with
    | some sc => placeAtCentre sc s
    | none =>
      match lowestScreenNear s f with
      | some sc => relocateTo sc s
      | none => takeOffPlane s

/-- Whether a screen is an enterable screen of the focus computer. -/
def isFocusScreen (s : State) (sc : Screen) : Bool :=
  match s.focusUnit.focus with
  | some f => enterableOf s f sc
  | none => false

/-- The glide unit is told of a change that concerns the screens of a test: it relocates the pointer when the
screen under it is one of them and is no longer an enterable screen of the focus computer (R84). -/
def recheckPointer (concerned : Screen → Bool) (s : State) : State :=
  match s.pointer.place with
  | some p => if concerned p.screen ∧ ¬ isFocusScreen s p.screen then relocate s else s
  | none => s

/-! The actions of the focus unit: each gives its effect and, apart from it, its answer. -/

/-- The answer of FOCUS k (R47). -/
def focusAnswer (k : Computer) (s : State) : Result :=
  if (s.port k).link = .detached then .notPresent
  else if s.focusUnit.focus = some k then .noChange
  else .ok

/-- FOCUS k (R47). -/
def doFocus (k : Computer) (cause : Cause) (s : State) : State :=
  if focusAnswer k s = .ok then focusChange k cause s else s

/-- The computers that CYCLE looks at from focus f, in its order (R49). -/
def cycleOrder (f : Computer) : List Computer := ([1, 2, 3, 4, 5, 6, 7] : List (Fin 8)).map (fun n => f + n)

/-- The computer that CYCLE finds (R49). -/
def cycleTarget (s : State) : Option Computer :=
  match s.focusUnit.focus with
  | none => none
  | some f => (cycleOrder f).find? (fun k => s.queueable k && decide (s.domainOf k = s.domainOf f))

/-- The answer of CYCLE (R49). -/
def cycleAnswer (s : State) : Result := if (cycleTarget s).isSome then .ok else .noChange

/-- CYCLE (R49). -/
def doCycle (cause : Cause) (s : State) : State :=
  match cycleTarget s with
  | some k => focusChange k cause s
  | none => s

/-- Whether computer k belongs to the focus domain; with focus NONE none does (R43). -/
def inFocusDomain (s : State) (k : Computer) : Bool := decide (s.focusUnit.focus.map s.domainOf = some (s.domainOf k))

/-- The answer of BROADCAST_TOGGLE k (R58). -/
def toggleAnswer (k : Computer) (s : State) : Result :=
  if inSet s.focusUnit.broadcast k then .ok
  else if s.focusUnit.focus = some k then .noChange
  else if ¬ inFocusDomain s k then .domain
  else if ¬ s.queueable k then .notPresent
  else .ok

/-- The broadcast set becomes ks. -/
def setBroadcast (ks : ComputerSet) (s : State) : State :=
  { s with focusUnit := { s.focusUnit with broadcast := ks } }

/-- BROADCAST_TOGGLE k (R58). -/
def doToggle (k : Computer) (s : State) : State :=
  if inSet s.focusUnit.broadcast k then setBroadcast (without s.focusUnit.broadcast k) s
  else if toggleAnswer k s = .ok then setBroadcast (including s.focusUnit.broadcast k) s
  else s

/-- The answer of BROADCAST_OFF (R59). -/
def broadcastOffAnswer (s : State) : Result := if s.focusUnit.broadcast = 0#8 then .noChange else .ok

/-- The members of a mask that SET BROADCAST keeps (R59). -/
def allowedMembers (s : State) (mask : ComputerSet) : ComputerSet :=
  setOf (fun k => inSet mask k && decide (s.focusUnit.focus ≠ some k) && inFocusDomain s k && s.queueable k)

/-- The answer of LOCK (R62). -/
def lockAnswer (s : State) : Result := if s.focusUnit.locked then .noChange else .ok

/-- Every owner set becomes empty, and each computer that owned an entry gets its snapshot (R62 step 1, R12). -/
def emptyOwners (s : State) : State :=
  refreshSnapshots (ownersOf s.keys.held) (s.setHeld (s.keys.held.map (fun e => { e with owners := 0#8 })))

/-- The push record is cleared. -/
def clearPush (s : State) : State := { s with pointer := { s.pointer with push := none } }

/-- LOCK (R62). -/
def doLock (s : State) : State :=
  if s.focusUnit.locked then s
  else
    record .lock
      (clearPush (releaseButtons (emptyOwners { s with focusUnit := { s.focusUnit with locked := true } })))

/-- The answer of UNLOCK (R63). -/
def unlockAnswer (s : State) : Result := if s.focusUnit.locked then .ok else .noChange

/-- UNLOCK (R63). -/
def doUnlock (s : State) : State :=
  if s.focusUnit.locked then record .unlock { s with focusUnit := { s.focusUnit with locked := false } } else s

/-- The mode word becomes w. -/
def setModeWord (w : ModeWord) (s : State) : State := { s with tables := { s.tables with modeWord := w } }

/-- HOLD_TOGGLE (R87). -/
def doHoldToggle (s : State) : State := setModeWord (s.tables.modeWord ^^^ 0b000010#6) s

end Sys2Proof.Machine
end

