-- ==== Sys2Proof/Machine/Glide.lean ====
section
/-! DEFINITION. The glide unit's two parts of a console pointer report: the placement step (R74) and the motion
step with its gain and its axis walk (R75 to R82), and LAYOUT COMMIT's check and re-check (R66, R67). -/

namespace Sys2Proof.Machine

/-! The placement step. -/

/-- The placement step of a console pointer report (R74, R51). -/
def placementStep (s : State) : State :=
  match s.pointer.place, s.focusUnit.focus with
  | none, some f =>
    match lowestScreenOf s f with
    | some sc => clearHeadless (placeAtCentre sc s)
    | none =>
      if s.pointer.headless then s
      else
        match lowestScreenNear s f with
        | some sc => relocateTo sc s
        | none => s
  | _, _ => s

/-! Stage 1: the gain (R76). -/

/-- Motion times gain plus residue, in sixteenths of a desk unit. -/
def scaledMotion (gain : Nat) (motion residue : Int) : Int := motion * gain + residue

/-- The whole desk units, truncated toward zero. -/
def gainUnits (gain : Nat) (motion residue : Int) : Int := (scaledMotion gain motion residue).tdiv 16

/-- The new residue. -/
def gainResidue (gain : Nat) (motion residue : Int) : Int :=
  scaledMotion gain motion residue - 16 * gainUnits gain motion residue

/-! The axis walk (R78 to R81). -/

/-- An axis of the desk plane. -/
inductive Axis where
  | x
  | y
  deriving DecidableEq, Repr

/-- The first desk unit of a placement on an axis. -/
def spanLow (a : Axis) (p : Placement) : Int :=
  match a with
  | .x => p.x0
  | .y => p.y0

/-- The last desk unit of a placement on an axis. -/
def spanHigh (a : Axis) (p : Placement) : Int :=
  match a with
  | .x => p.x0 + p.w - 1
  | .y => p.y0 + p.h - 1

/-- A place's coordinate on an axis. -/
def coordinate (a : Axis) (p : Place) : Int :=
  match a with
  | .x => p.x
  | .y => p.y

/-- A place moved to a coordinate on one axis. -/
def moveTo (a : Axis) (v : Int) (p : Place) : Place :=
  match a with
  | .x => { p with x := v.toNat }
  | .y => { p with y := v.toNat }

/-- The direction of motion on an axis toward the higher or the lower edge (R71). -/
def directionOf (a : Axis) (toHigh : Bool) : Direction :=
  match a, toHigh with
  | .x, true => .right
  | .x, false => .left
  | .y, true => .down
  | .y, false => .up

/-- The axis of a direction. -/
def Direction.axis : Direction → Axis
  | .left | .right => .x
  | .up | .down => .y

/-- The edge of a screen in the direction of motion. -/
def edgeOf (a : Axis) (toHigh : Bool) (p : Placement) : Int := if toHigh then spanHigh a p else spanLow a p

/-- One unit beyond an edge. -/
def beyond (toHigh : Bool) (edge : Int) : Int := if toHigh then edge + 1 else edge - 1

/-- Whether a placement is enabled and covers a point of the desk plane. -/
def covers (p : Placement) (x y : Int) : Bool :=
  p.enabled && decide (spanLow .x p ≤ x) && decide (x ≤ spanHigh .x p) && decide (spanLow .y p ≤ y) &&
    decide (y ≤ spanHigh .y p)

/-- The screen whose committed enabled rectangle holds a point of the desk plane, if any (R71). -/
def screenAt (s : State) (x y : Int) : Option Screen :=
  if 0 ≤ x ∧ x ≤ 65535 ∧ 0 ≤ y ∧ y ≤ 65535 then eight.find? (fun sc => covers (s.placement sc) x y) else none

/-- The neighbour across an edge: the screen that holds the point `v` on the axis and the pointer's present
coordinate on the other (R71). -/
def neighbourAt (s : State) (a : Axis) (v : Int) (p : Place) : Option Screen :=
  match a with
  | .x => screenAt s v p.y
  | .y => screenAt s p.x v

/-- The push record is cleared when its direction is on the axis (R78 to R80). -/
def clearPushOn (a : Axis) (push : Option Push) : Option Push := push.filter (fun p => decide (p.direction.axis ≠ a))

/-- The pointer's place and push record become these. -/
def setPlace (p : Place) (push : Option Push) (s : State) : State :=
  { s with pointer := { s.pointer with place := some p, push := push } }

/-- A crossing from the focus computer's screens to computer c's is blocked (R80). -/
def crossingBlocked (s : State) (buttonsHeld : Bool) (c : Computer) : Bool :=
  !glideSet s || focusHoldSet s || buttonsHeld ||
    match s.focusUnit.focus with
    | some f => !crossingAllowed s (s.domainOf f) (s.domainOf c)
    | none => true

/-- The amount of a push record after motion m against neighbour n in a direction (R81). -/
def pushAmount (push : Option Push) (n : Screen) (d : Direction) (m : Nat) : Nat :=
  match push with
  | some p => if p.neighbour = n ∧ p.direction = d then min Config.pushLimit (p.amount + m) else min Config.pushLimit m
  | none => min Config.pushLimit m

/-- A walk's end: the state, and whether the walk of the report ends with a crossing onto a computer that takes
RELATIVE reports (R81). -/
structure WalkEnd where
  state           : State
  ontoRelative    : Bool

/-- The pointer crosses to place p on a screen of computer c (R81). -/
def crossTo (p : Place) (c : Computer) (s : State) : WalkEnd where
  state := focusChange c .glide (setPlace p none s)
  ontoRelative := decide ((s.settingsOf c).form = .relative)

/-- Motion m against an enterable neighbour n of another computer c, with the pointer at place p at the edge and
`entry` the point beyond it (R80, R81). -/
def pushAgainst (buttonsHeld : Bool) (a : Axis) (toHigh : Bool) (m : Nat) (n : Screen) (c : Computer) (p entry : Place)
    (s : State) : WalkEnd :=
  if crossingBlocked s buttonsHeld c then
    { state := setPlace p (clearPushOn a s.pointer.push) s, ontoRelative := false }
  else
    let amount := pushAmount s.pointer.push n (directionOf a toHigh) m
    if amount < s.tables.modeSettings.edgeResistance then
      { state := setPlace p (some { neighbour := n, direction := directionOf a toHigh, amount := amount }) s
        ontoRelative := false }
    else crossTo entry c s

/-- The walk of one axis toward a target, visiting at most `visits` screens (R78, R79). There are at most eight
screens and each entry moves strictly onward, so that eight visits suffice. -/
def walk (buttonsHeld : Bool) (a : Axis) (target : Int) : Nat → State → WalkEnd
  | 0, s => { state := s, ontoRelative := false }
  | visits + 1, s =>
    match s.pointer.place with
    | none => { state := s, ontoRelative := false }
    | some p =>
      let box := s.placement p.screen
      if spanLow a box ≤ target ∧ target ≤ spanHigh a box then
        { state := setPlace (moveTo a target p) (clearPushOn a s.pointer.push) s, ontoRelative := false }
      else
        let toHigh := decide (spanHigh a box < target)
        let edge := edgeOf a toHigh box
        let atEdge := moveTo a edge p
        match neighbourAt s a (beyond toHigh edge) p with
        | none => { state := setPlace atEdge (clearPushOn a s.pointer.push) s, ontoRelative := false }
        | some n =>
          if ¬ enterable s n then
            { state := setPlace atEdge (clearPushOn a s.pointer.push) s, ontoRelative := false }
          else
            let entry := { moveTo a (beyond toHigh edge) p with screen := n }
            if screenComputer s n = screenComputer s p.screen then
              walk buttonsHeld a target visits (setPlace entry s.pointer.push s)
            else
              match screenComputer s n with
              | some c => pushAgainst buttonsHeld a toHigh (target - edge).natAbs n c atEdge entry s
              | none => { state := setPlace atEdge (clearPushOn a s.pointer.push) s, ontoRelative := false }

/-- The walk of one axis by its units; with 0 units it does nothing (R78). -/
def walkAxis (buttonsHeld : Bool) (a : Axis) (units : Int) (s : State) : WalkEnd :=
  match s.pointer.place with
  | some p =>
    if units = 0 then { state := s, ontoRelative := false } else walk buttonsHeld a (coordinate a p + units) 8 s
  | none => { state := s, ontoRelative := false }

/-- The X walk and then the Y walk, unless the X walk ended the report's walk (R81). -/
def walkBoth (buttonsHeld : Bool) (ux uy : Int) (s : State) : WalkEnd :=
  let first := walkAxis buttonsHeld .x ux s
  if first.ontoRelative then first else walkAxis buttonsHeld .y uy first.state

/-! The motion step (R75). -/

/-- What the motion step hands to the coordinate unit for the focus computer (section 5.4). -/
inductive HandOver where
  | nothing
  | position (wheel : Int)
  | noPosition (wheel : Int)
  | relative (dx dy wheel : Int)
  deriving DecidableEq, Repr

/-- The residues become these (R76). -/
def setResidues (rx ry : Int) (s : State) : State := { s with pointer := { s.pointer with rx := rx, ry := ry } }

/-- Stage 1 on both axes: the residues after it (R76). -/
def applyGain (dx dy : Int) (s : State) : State :=
  setResidues (gainResidue s.tables.modeSettings.gain dx s.pointer.rx)
    (gainResidue s.tables.modeSettings.gain dy s.pointer.ry) s

/-- The x units of stage 1. -/
def unitsX (s : State) (dx : Int) : Int := gainUnits s.tables.modeSettings.gain dx s.pointer.rx

/-- The y units of stage 1. -/
def unitsY (s : State) (dy : Int) : Int := gainUnits s.tables.modeSettings.gain dy s.pointer.ry

/-- The motion step's effect and hand-over for a focus computer f that can use the motion (R75, R77, R82, R81). -/
def useMotion (f : Computer) (buttonsHeld : Bool) (dx dy wheel : Int) (s : State) : State × HandOver :=
  match (s.settingsOf f).form with
  | .relative => (applyGain dx dy s, .relative (saturate (unitsX s dx)) (saturate (unitsY s dy)) wheel)
  | .absolute =>
    let done := walkBoth buttonsHeld (unitsX s dx) (unitsY s dy) (applyGain dx dy s)
    (done.state, if done.ontoRelative then .relative 0 0 wheel else .position wheel)

/-- The motion step (R75). -/
def motionStep (buttonsHeld : Bool) (dx dy wheel : Int) (s : State) : State × HandOver :=
  match glideTarget s with
  | none => (setResidues 0 0 s, .nothing)
  | some f =>
    match s.pointer.place with
    | none => (setResidues 0 0 s, .noPosition wheel)
    | some _ => useMotion f buttonsHeld dx dy wheel s

/-! The layout (R65 to R68). -/

/-- A placement record's size lies in its range (R66). -/
def sizeAllowed (p : Placement) : Bool :=
  decide (64 ≤ p.w) && decide (p.w ≤ 16384) && decide (64 ≤ p.h) && decide (p.h ≤ 16384)

/-- A placement record lies on the desk plane (R66). -/
def insidePlane (p : Placement) : Bool := decide (p.x0 + p.w ≤ 65536) && decide (p.y0 + p.h ≤ 65536)

/-- Two placement records share a desk unit. -/
def sharesUnit (p q : Placement) : Bool :=
  decide (p.x0 < q.x0 + q.w) && decide (q.x0 < p.x0 + p.w) && decide (p.y0 < q.y0 + q.h) &&
    decide (q.y0 < p.y0 + p.h)

/-- An enabled screen's record shares a desk unit with a lower-numbered enabled screen's. -/
def overlapsLower (layout : Vector Placement 8) (sc : Screen) : Bool :=
  eight.any (fun t => decide (t < sc) && (layout.get t).enabled && sharesUnit (layout.get t) (layout.get sc))

/-- The failing check of one enabled screen, if any (R66). -/
def screenFault (layout : Vector Placement 8) (sc : Screen) : Option Result :=
  let p := layout.get sc
  if ¬ p.enabled then none
  else if ¬ (sizeAllowed p ∧ insidePlane p) then some .badArgument
  else if overlapsLower layout sc then some .overlap
  else none

/-- The first screen of a layout with a failing check, and its result (R66). -/
def layoutFault (layout : Vector Placement 8) : Option (Screen × Result) :=
  eight.findSome? (fun sc => (screenFault layout sc).map (fun r => (sc, r)))

/-- A place kept on its screen at the same offset, clamped to the screen's new size (R67). -/
def keepOffset (old new : Placement) (p : Place) : Place :=
  { p with x := new.x0 + min (p.x - old.x0) (new.w - 1), y := new.y0 + min (p.y - old.y0) (new.h - 1) }

/-- The pointer is re-checked after a commit, with `old` the layout that was in force (R67). -/
def recheckAfterCommit (old : Vector Placement 8) (s : State) : State :=
  match s.pointer.place with
  | none => s
  | some p =>
    if isFocusScreen s p.screen then
      { s with
        pointer := { s.pointer with place := some (keepOffset (old.get p.screen) (s.placement p.screen) p) } }
    else relocate s

/-- A LAYOUT COMMIT that passes its checks (R67). -/
def commitLayout (s : State) : State :=
  recheckAfterCommit s.tables.committed
    (clearMotion { s with tables := { s.tables with committed := s.tables.staged } })

/-- LAYOUT REVERT (R68). -/
def revertLayout (s : State) : State := { s with tables := { s.tables with staged := s.tables.committed } }

end Sys2Proof.Machine
end

