-- ==== Sys2Proof/Machine/Coordinates.lean ====
section
/-! DEFINITION. The coordinate unit: absolute mapping (R93) and the pointer reports of a console pointer report
(R95 to R98). -/

namespace Sys2Proof.Machine

/-- One axis of the absolute mapping: the window's first unit, its size, the offset in the screen and the
screen's size (R93). -/
def mapAxis (w0 wsize offset size : Nat) : Nat := w0 + (2 * offset + 1) * wsize / (2 * size)

/-- The absolute pair of a place through a window (R93). -/
def mapPair (w : Window) (box : Placement) (p : Place) : Nat × Nat :=
  (mapAxis w.wx0 w.ww (p.x - box.x0) box.w, mapAxis w.wy0 w.wh (p.y - box.y0) box.h)

/-- The pointer's place mapped by the intended source of its screen, when it stands on one (R93). -/
def mappedPair (s : State) : Option (Nat × Nat) :=
  match s.pointer.place with
  | none => none
  | some p =>
    match intendedOf (s.screen p.screen) with
    | none => none
    | some j => some (mapPair (s.window j) (s.placement p.screen) p)

/-- A hand-over with a position for computer k: an absolute report is offered when one is due (R95). -/
def handPosition (k : Computer) (buttonsChanged : Bool) (wheel : Int) (s : State) : State :=
  match mappedPair s with
  | some pair =>
    if s.queueable k ∧ ((s.port k).lastPair ≠ some pair ∨ wheel ≠ 0 ∨ buttonsChanged) then
      offer k (.absolute pair.1 pair.2 (s.buttonsOf k) wheel) s
    else s
  | none => s

/-- A hand-over with no position for computer k (R96). -/
def handNoPosition (k : Computer) (buttonsChanged : Bool) (wheel : Int) (s : State) : State :=
  if wheel ≠ 0 ∨ buttonsChanged then offer k (restingReport s k wheel) s else s

/-- A relative hand-over for computer k (R97). -/
def handRelative (k : Computer) (buttonsChanged : Bool) (dx dy wheel : Int) (s : State) : State :=
  if dx ≠ 0 ∨ dy ≠ 0 ∨ wheel ≠ 0 ∨ buttonsChanged then offer k (.relative dx dy (s.buttonsOf k) wheel) s else s

/-- The computer that a hand-over is made for: the focus computer, when anything is handed over. -/
def handOverTarget (h : HandOver) (s : State) : Option Computer :=
  match h with
  | .nothing => none
  | _ => s.focusUnit.focus

/-- The coordinate unit takes a hand-over; `owed` is the computer whose buttons changed while it was the glide
target (R95 to R97). -/
def takeHandOver (h : HandOver) (owed : Option Computer) (s : State) : State :=
  match h, s.focusUnit.focus with
  | .position wheel, some k => handPosition k (decide (owed = some k)) wheel s
  | .noPosition wheel, some k => handNoPosition k (decide (owed = some k)) wheel s
  | .relative dx dy wheel, some k => handRelative k (decide (owed = some k)) dx dy wheel s
  | _, _ => s

/-- The owed computer that no hand-over served receives one report of its own form (R98). -/
def serveOwed (h : HandOver) (owed : Option Computer) (s : State) : State :=
  match owed with
  | some k => if handOverTarget h s = some k then s else offerOwed k s
  | none => s

end Sys2Proof.Machine
end

