-- ==== Sys2Proof/Machine/Video.lean ====
section
/-! DEFINITION. The video crosspoint: source requests (R140), commits (R141), frame starts (R142 to R145, R151)
and the share-out selection (R152). -/

namespace Sys2Proof.Machine

/-! Source requests (R140). -/

/-- The outcome of a source request. -/
inductive RequestOutcome where
  | noChange
  | pending
  | committed
  deriving DecidableEq, Repr

/-- The outcome of a request for a source at a screen (R140). -/
def requestOutcome (s : State) (sc : Screen) (src : Source) : RequestOutcome :=
  if intendedOf (s.screen sc) = src then .noChange
  else if (s.screen sc).sink.isSome then .pending
  else .committed

/-- A source request's effect on the screen, with the commit notice of a commit at once (R140, R141). The glide
unit is told by the block that made the request. -/
def requestSource (sc : Screen) (src : Source) (s : State) : State :=
  match requestOutcome s sc src with
  | .noChange => s
  | .pending => s.setScreen sc { s.screen sc with pending := some src }
  | .committed => engineCommit sc src (s.setScreen sc { s.screen sc with committed := src })

/-- The touched screen that a request leaves, if any (R147, R149, R172). -/
def touchedBy (s : State) (sc : Screen) (src : Source) : List Touched :=
  match requestOutcome s sc src with
  | .noChange => []
  | .pending => [{ screen := sc, asked := src, resolution := .unresolved }]
  | .committed => [{ screen := sc, asked := src, resolution := .kept }]

/-- Requests made one after the other. -/
def requestSources (reqs : List (Screen × Source)) (s : State) : State :=
  reqs.foldl (fun t q => requestSource q.1 q.2 t) s

/-- The touched screens of requests for different screens: each outcome depends on its own screen alone. -/
def touchedByAll (s : State) (reqs : List (Screen × Source)) : List Touched :=
  reqs.flatMap (fun q => touchedBy s q.1 q.2)

/-- Whether a screen is among the touched screens. -/
def isTouched (ts : List Touched) (sc : Screen) : Bool := ts.any (fun t => decide (t.screen = sc))

/-- Whether a request of the command is still pending. -/
def anyPending (ts : List Touched) : Bool := ts.any (fun t => decide (t.resolution = .unresolved))

/-! Sinks (R138, R139, R150). -/

/-- A sink attach at a screen or at X. -/
def attachSink (out : VideoOutput) (mode : VideoMode) (s : State) : State :=
  match out with
  | .screen sc => s.setScreen sc { s.screen sc with sink := some mode }
  | .shareOut => s.setShare { s.video.share with sink := some mode }

/-- A pending source is committed, with the commit notice (R139, R142, R141). -/
def commitPending (sc : Screen) (s : State) : State :=
  match (s.screen sc).pending with
  | none => s
  | some src => engineCommit sc src (s.setScreen sc { s.screen sc with committed := src, pending := none })

/-- A screen's output is blanked: no sink, no content, no border (R139). -/
def blankScreen (sc : Screen) (s : State) : State :=
  s.setScreen sc { s.screen sc with sink := none, shown := none, border := .noBorder }

/-- A sink detach at a screen or at X. -/
def detachSink (out : VideoOutput) (s : State) : State :=
  match out with
  | .screen sc =>
    if (s.screen sc).sink.isSome then
      recheckPointer (fun t => decide (t = sc)) (blankScreen sc (commitPending sc s))
    else s
  | .shareOut => s.setShare { s.video.share with sink := none, shown := none }

/-! Frame starts. -/

/-- The input's picture has another size than the sink (R143). -/
def sizeDiffers (m n : VideoMode) : Bool := decide (m.width ≠ n.width) || decide (m.height ≠ n.height)

/-- The last tests of R143 and R151, for input j on a sink. -/
def pictureOf (s : State) (j : Input) (sink : VideoMode) : Content :=
  match (s.input j).signal with
  | none => .standby .noSignal
  | some m => if sizeDiffers m sink then .standby .modeMismatch else .frame j (s.input j).frame

/-- The console is locked and BLANK_ON_LOCK is set. -/
def isPrivate (s : State) : Bool := s.focusUnit.locked && blankOnLockSet s

/-- The content that a screen shows of a committed source (R143). -/
def screenContent (s : State) (src : Source) (sink : VideoMode) : Content :=
  match src with
  | none => .standby .noSource
  | some j => if isPrivate s then .standby .privacy else pictureOf s j sink

/-- A frame start shows the same frame again (R144). -/
def isRepeat (before : Option Content) (now : Content) : Bool :=
  match before, now with
  | some (.frame j n), .frame j' n' => decide (j = j' ∧ n = n')
  | _, _ => false

/-- A frame start passes over a complete frame (R144). -/
def isSkip (before : Option Content) (now : Content) : Bool :=
  match before, now with
  | some (.frame j m), .frame j' n => decide (j = j' ∧ 1 < (n - m).toNat)
  | _, _ => false

/-- A counter that counts one when a test holds. -/
def bumpIf (b : Bool) (n : Nat) : Nat := if b then bump n else n

/-- The border of a screen with a committed source (R145). -/
def borderFor (s : State) (src : Source) : Border :=
  if ¬ bordersSet s then .noBorder
  else if s.focusUnit.locked then .locked
  else if (computerOf s src).isSome ∧ computerOf s src = s.focusUnit.focus then
    match s.recognizer with
    | .command _ _ => .command
    | _ => .focus
  else .noBorder

/-- The choice of content, counters and border at a frame start of a screen with a sink (R143 to R145). -/
def showScreen (sc : Screen) (sink : VideoMode) (s : State) : State :=
  let r := s.screen sc
  let now := screenContent s r.committed sink
  s.setScreen sc
    { r with
      shown := some now
      repeats := bumpIf (isRepeat r.shown now) r.repeats
      skips := bumpIf (isSkip r.shown now) r.skips
      border := borderFor s r.committed }

/-- A frame start of a screen; without a sink there is none (R142). -/
def startFrame (sc : Screen) (s : State) : State :=
  match (s.screen sc).sink with
  | some sink => showScreen sc sink (commitPending sc s)
  | none => s

/-- The input or NONE that X's selection resolves to (R151). -/
def resolveSelection (s : State) : Selection → Source
  | .nothing => none
  | .screen sc => (s.screen sc).committed
  | .input j => some j

/-- Whether a domain is in the share-out permitted set. -/
def domainPermitted (s : State) (d : Domain) : Bool := s.settings.shareOutPermitted.getLsbD d.val

/-- The content that X shows of a resolved source (R151). -/
def shareContent (s : State) (src : Source) (sink : VideoMode) : Content :=
  match src with
  | none => .standby .noSource
  | some j =>
    if ¬ domainPermitted s (inputDomain s j) then .standby .withheld
    else if isPrivate s then .standby .privacy
    else pictureOf s j sink

/-- A frame start of X; without a sink there is none (R151). -/
def startShareFrame (s : State) : State :=
  match s.video.share.sink with
  | some sink =>
    let r := s.video.share
    let now := shareContent s (resolveSelection s r.selection) sink
    s.setShare
      { r with
        shown := some now
        repeats := bumpIf (isRepeat r.shown now) r.repeats
        skips := bumpIf (isSkip r.shown now) r.skips }
  | none => s

/-! The share-out selection (R152). -/

/-- The answer of a change of the selection (R152). -/
def selectionAnswer (sel : Selection) (s : State) : Result := if s.video.share.selection = sel then .noChange else .ok

/-- The journal record of a new selection (R152). -/
def selectionEvent : Selection → JournalEvent
  | .nothing => .unshare
  | sel => .share sel

/-- The share-out selection becomes sel (R152). -/
def changeSelection (sel : Selection) (s : State) : State :=
  if s.video.share.selection = sel then s
  else record (selectionEvent sel) (s.setShare { s.video.share with selection := sel })

/-- The selection that SHARE makes: the screen under the pointer (R153). -/
def pointerSelection (s : State) : Option Selection := s.pointer.place.map (fun p => .screen p.screen)

end Sys2Proof.Machine
end

