-- ==== Sys2Proof/Machine/Actions.lean ====
section
/-! DEFINITION. The fourteen actions as their owners take them (section 2.7), from hotkeys, management and scheduled
entries alike: SELECT (R48, R147), presets (R149), sharing (R153, R154) and the schedule's insertion (R160, R166). -/

namespace Sys2Proof.Machine

/-- An owner's answer to an action, with what the engine uses of it (R180). -/
structure Answered where
  state    : State
  answer   : Result
  /-- The touched screens of a SELECT or an APPLY_PRESET. -/
  touched  : List Touched := []
  /-- The preset's focus was skipped (R149). -/
  skipped  : Bool := false
  /-- The slot and the due time of an inserted entry (R166). -/
  inserted : Option (ScheduleIndex × Millis) := none

/-! SELECT (R147). -/

/-- Input j is bound to k and names screen sc as its home (R147). -/
def isHomeOf (s : State) (k : Computer) (sc : Screen) (j : Input) : Bool :=
  decide ((s.window j).computer = some k) && decide ((s.window j).home = some sc)

/-- The highest-numbered input of k whose home is screen sc (R147). -/
def homeInput (s : State) (k : Computer) (sc : Screen) : Option Input :=
  sixteen.reverse.find? (isHomeOf s k sc)

/-- The home requests of SELECT k, in ascending screen order (R147). -/
def homeRequests (s : State) (k : Computer) : List (Screen × Source) :=
  eight.filterMap (fun sc => (homeInput s k sc).map (fun j => (sc, some j)))

/-- SELECT k is refused with NOT_PRESENT in DETACHED and ATTACHED (R147). -/
def selectRefused (s : State) (k : Computer) : Bool :=
  decide ((s.port k).link = .detached) || decide ((s.port k).link = .attached)

/-- The focus part of SELECT k (R48, R56). -/
def selectFocus (k : Computer) (cause : Cause) (s : State) : State :=
  if s.focusUnit.focus = some k then wakeOnFocus k (warp k s) else focusChange k cause s

/-- SELECT k (R147). -/
def doSelect (k : Computer) (cause : Cause) (s : State) : Answered :=
  if selectRefused s k then { state := s, answer := .notPresent }
  else
    let reqs := homeRequests s k
    let touched := touchedByAll s reqs
    { state := recheckPointer (isTouched touched) (selectFocus k cause (requestSources reqs s))
      answer := if anyPending touched then .accepted else .ok
      touched := touched }

/-! Presets (R149). -/

/-- A preset's record. -/
def State.preset (s : State) (p : PresetIndex) : Preset := s.tables.presets.get p

/-- The screen requests of a preset, in ascending screen order (R149 step 2). -/
def presetRequests (pr : Preset) : List (Screen × Source) :=
  eight.filterMap (fun sc => (pr.sources.get sc).map (fun src => (sc, src)))

/-- The share part of a preset (R149 step 3). -/
def presetShare (pr : Preset) (s : State) : State :=
  match pr.share with
  | some sel => changeSelection sel s
  | none => s

/-- The focus part of a preset (R149 step 4): a DETACHED computer is skipped. -/
def presetFocus (pr : Preset) (s : State) : State :=
  match pr.focus with
  | some k => doFocus k .preset s
  | none => s

/-- The preset's focus is skipped: its computer's port is DETACHED (R149). -/
def presetSkips (pr : Preset) (s : State) : Bool :=
  match pr.focus with
  | some k => decide ((s.port k).link = .detached)
  | none => false

/-- The answer of APPLY_PRESET (R149). -/
def presetAnswer (skipped : Bool) (touched : List Touched) : Result :=
  if skipped then .partly else if anyPending touched then .accepted else .ok

/-- APPLY_PRESET p (R149). -/
def doPreset (p : PresetIndex) (s : State) : Answered :=
  let pr := s.preset p
  let touched := touchedByAll s (presetRequests pr)
  { state :=
      recheckPointer (isTouched touched)
        (presetFocus pr (presetShare pr (requestSources (presetRequests pr) (record (.preset p) s))))
    answer := presetAnswer (presetSkips pr s) touched
    touched := touched
    skipped := presetSkips pr s }

/-! The scheduled action table (R158, R160, R166). -/

/-- A slot of the table. -/
def State.entry (s : State) (i : ScheduleIndex) : Option ScheduleEntry := s.schedule.get i

/-- The lowest-numbered empty slot (R160). -/
def emptyEntry (s : State) : Option ScheduleIndex := eight.find? (fun i => (s.entry i).isNone)

/-- An entry for an action due `delay` ms from now (R160). -/
def newEntry (s : State) (delay : Nat) (action : Action) (origin : Origin) : ScheduleEntry where
  due := timeFromNow s delay
  action := action
  origin := origin

/-! Sharing (R153, R154). -/

/-- A change of selection with its answer (R152). -/
def answerSelection (sel : Selection) (s : State) : Answered where
  state := changeSelection sel s
  answer := selectionAnswer sel s

/-- SHARE (R153). -/
def doShare (s : State) : Answered :=
  match pointerSelection s with
  | some sel => answerSelection sel s
  | none => { state := s, answer := .noScreen }

/-- The origin of the UNSHARE that a SHARE_FOR with this cause inserts (R154). -/
def originFor (cause : Cause) : Origin := if cause = .hotkey then .hotkey else .management

/-- SHARE_FOR t (R154). -/
def doShareFor (t : Nat) (cause : Cause) (s : State) : Answered :=
  match pointerSelection s with
  | none => { state := s, answer := .noScreen }
  | some sel =>
    match emptyEntry s with
    | none => { state := s, answer := .tableFull }
    | some i =>
      let e := newEntry s (t * 1000) .unshare (originFor cause)
      { state := changeSelection sel (s.setEntry i (some e)), answer := .ok, inserted := some (i, e.due) }

/-! All fourteen (section 2.7). -/

/-- An action is handed to the block that owns it, with its cause (R40, R162, R180). -/
def runAction (a : Action) (cause : Cause) (s : State) : Answered :=
  match a with
  | .focus k => { state := doFocus k cause s, answer := focusAnswer k s }
  | .select k => doSelect k cause s
  | .cycle => { state := doCycle cause s, answer := cycleAnswer s }
  | .wake k => { state := wakeRequest k s, answer := wakeAnswer (s.port k) }
  | .applyPreset p => doPreset p s
  | .share => doShare s
  | .shareScreen sc => answerSelection (.screen sc) s
  | .shareFor t => doShareFor t cause s
  | .unshare => answerSelection .nothing s
  | .lock => { state := doLock s, answer := lockAnswer s }
  | .unlock => { state := doUnlock s, answer := unlockAnswer s }
  | .broadcastToggle k => { state := doToggle k s, answer := toggleAnswer k s }
  | .broadcastOff => { state := setBroadcast 0#8 s, answer := broadcastOffAnswer s }
  | .holdToggle => { state := doHoldToggle s, answer := .ok }

/-- An answer that counts as a success (R41, R163). -/
def isSuccess : Result → Bool
  | .ok | .accepted | .done | .partly => true
  | _ => false

end Sys2Proof.Machine
end

