-- ==== Sys2Proof/Machine/Recognizer.lean ====
section
/-! DEFINITION. The hotkey recognizer: the leader sequence (R29 to R32), the COMMAND state (R33 to R36), chords
(R37, R38) and the firing of entries (R39 to R41). -/

namespace Sys2Proof.Machine

/-! The hotkey table. -/

/-- The occupied slots, from H0 to H31. -/
def hotkeyList (t : Vector (Option Hotkey) 32) : List Hotkey := t.toList.filterMap id

/-- The keys of an entry, for a LEADER entry. -/
def leaderKeys (h : Hotkey) : Option (List Byte) :=
  match h.trigger with
  | .leader keys => some keys
  | .chord _ _ => none

/-- An entry has this trigger. -/
def hasTrigger (t : Trigger) (h : Hotkey) : Bool := decide (h.trigger = t)

/-- A sequence is a proper prefix of another: shorter, and the same in every place it has (R25). -/
def startsProperly (short long : List Byte) : Bool :=
  decide (short.length < long.length) && decide (long.take short.length = short)

/-- A buffer is a proper prefix of a LEADER entry's keys (R34). -/
def isBegun (buffer : List Byte) (h : Hotkey) : Bool :=
  match leaderKeys h with
  | some keys => startsProperly buffer keys
  | none => false

/-- The entry with a trigger, if the table holds one. -/
def findHotkey (s : State) (t : Trigger) : Option Hotkey := (hotkeyList s.tables.hotkeys).find? (hasTrigger t)

/-! State changes. -/

/-- The recognizer's record becomes r. -/
def setRecognizer (r : Recognizer) (s : State) : State := { s with recognizer := r }

/-- The recognizer returns to IDLE; on leaving COMMAND the LED notice follows (R28, R36). -/
def returnToIdle (s : State) : State :=
  match s.recognizer with
  | .command _ _ => refreshLeds (setRecognizer .idle s)
  | _ => setRecognizer .idle s

/-- The recognizer enters COMMAND with an empty buffer, and the LED notice follows (R30). -/
def enterCommand (s : State) : State :=
  refreshLeds (setRecognizer (.command [] (timeFromNow s s.tables.modeSettings.commandWindow)) s)

/-- The leader timer's expiry when it is started now (R28). -/
def leaderExpiry (s : State) : Millis := timeFromNow s s.tables.modeSettings.leaderWindow

/-- The slot whose taps are counted, in a tap state. -/
def sequenceSlot : Recognizer → Option Slot
  | .tap1Down i _ | .tap1Up i _ | .tap2Down i _ => some i
  | .idle | .command _ _ => none

/-- The recognizer leaves a tap state when its sequence slot is emptied (R31). -/
def abandonSlot (i : Slot) (s : State) : State :=
  if sequenceSlot s.recognizer = some i then setRecognizer .idle s else s

/-! Firing (R39 to R41). -/

/-- The alert of an owner's answer (R41). -/
def alertFor (answer : Result) : AlertKind := if isSuccess answer then .accept else .refuse

/-- A matched entry fires, or asks for LOCKED while the console is locked (R39, R40, R41). -/
def fireHotkey (h : Hotkey) (s : State) : State :=
  if s.focusUnit.locked ∧ h.action ≠ .unlock then askAlert .locked s
  else
    let a := runAction h.action .hotkey s
    askAlert (alertFor a.answer) a.state

/-! Presses and releases. -/

/-- The modifiers of all entries of the held-key table (R37). -/
def heldModifiers (s : State) : ModifierSet := modifiersOf s.keys.held

/-- The CHORD entry that a press of a non-modifier completes (R37). -/
def matchedChord (s : State) (usage : Byte) : Option Hotkey :=
  if isModifier usage then none else findHotkey s (.chord (heldModifiers s) usage)

/-- A press that is no leader press, outside COMMAND (R31, R37, R38): the state, and whether it is claimed. -/
def pressOther (usage : Byte) (s : State) : State × Bool :=
  match matchedChord s usage with
  | some h => (fireHotkey h (setRecognizer .idle s), true)
  | none => (setRecognizer .idle s, false)

/-- A press of the leader key outside COMMAND (R29). -/
def pressLeader (slot : Slot) (s : State) : State :=
  match s.recognizer with
  | .tap1Up i _ =>
    if i = slot then setRecognizer (.tap2Down slot (leaderExpiry s)) s
    else setRecognizer (.tap1Down slot (leaderExpiry s)) s
  | _ => setRecognizer (.tap1Down slot (leaderExpiry s)) s

/-- A usage appended to the command buffer is matched (R34). -/
def appendUsage (buffer : List Byte) (usage : Byte) (s : State) : State :=
  let buffer' := buffer ++ [usage]
  match findHotkey s (.leader buffer') with
  | some h => returnToIdle (fireHotkey h s)
  | none =>
    if (hotkeyList s.tables.hotkeys).any (isBegun buffer') then
      setRecognizer (.command buffer' (timeFromNow s s.tables.modeSettings.commandWindow)) s
    else askAlert .refuse (returnToIdle s)

/-- A press in COMMAND (R33). -/
def pressInCommand (buffer : List Byte) (usage : Byte) (s : State) : State :=
  if isModifier usage then s
  else if usage = escapeUsage then returnToIdle s
  else appendUsage buffer usage s

/-- The recognizer takes a press: the state, and the verdict "claimed" (R28, R29, R31, R33, R37). -/
def recognizePress (slot : Slot) (usage : Byte) (s : State) : State × Bool :=
  match s.recognizer with
  | .command buffer _ => (pressInCommand buffer usage s, true)
  | _ => if usage = s.tables.modeSettings.leaderKey then (pressLeader slot s, false) else pressOther usage s

/-- The recognizer takes a release (R30). -/
def recognizeRelease (slot : Slot) (usage : Byte) (s : State) : State :=
  if usage = s.tables.modeSettings.leaderKey then
    match s.recognizer with
    | .tap1Down i _ => if i = slot then setRecognizer (.tap1Up slot (leaderExpiry s)) s else s
    | .tap2Down i _ => if i = slot then enterCommand s else s
    | _ => s
  else s

/-! Timer expiries. -/

/-- The leader timer expires (R32, R157). -/
def expireLeader (s : State) : State :=
  match s.recognizer with
  | .tap1Down _ e | .tap1Up _ e | .tap2Down _ e => if isDue s.clock e then setRecognizer .idle s else s
  | .idle | .command _ _ => s

/-- The command timer expires (R35, R157). -/
def expireCommand (s : State) : State :=
  match s.recognizer with
  | .command _ e => if isDue s.clock e then returnToIdle s else s
  | _ => s

end Sys2Proof.Machine
end

