-- ==== Sys2Proof/Machine/Console.lean ====
section
/-! DEFINITION. The console link's events: keyboard reports (R4, R5, R8 to R10), pointer reports (R6, R16 to R18),
attach and detach (R1, R2), console reset (R19) and ageing (R11). -/

namespace Sys2Proof.Machine

/-- The device of a slot. -/
def State.slotDevice (s : State) (i : Slot) : Option Device := s.console.slots.get i

/-! Presses and releases at the key ownership unit (R8 to R10, R13). -/

/-- The table holds an entry for a slot and a usage. -/
def isHeldAs (slot : Slot) (usage : Byte) (e : HeldKey) : Bool := decide (e.slot = slot) && decide (e.usage = usage)

/-- The owner set of a new press (R8, R61). -/
def pressOwners (s : State) (claimed : Bool) : ComputerSet :=
  if claimed || s.focusUnit.locked then 0#8
  else
    match s.focusUnit.focus with
    | none => 0#8
    | some f => including s.focusUnit.broadcast f &&& queueableSet s

/-- The entry of a new press (R8). -/
def newHeldKey (s : State) (slot : Slot) (usage : Byte) (claimed : Bool) : HeldKey where
  slot := slot
  usage := usage
  owners := pressOwners s claimed
  suppressed := claimed || s.focusUnit.locked
  stale := false
  pressTime := s.clock

/-- The key ownership unit takes a press (R8, R9, R13). -/
def takePress (slot : Slot) (usage : Byte) (claimed : Bool) (s : State) : State :=
  if s.keys.held.any (isHeldAs slot usage) then s
  else if s.keys.held.length < Config.heldCapacity then
    let e := newHeldKey s slot usage claimed
    wakeOnKey e.owners (refreshSnapshots e.owners (s.setHeld (s.keys.held ++ [e])))
  else { s with keys := { s.keys with overflow := bump s.keys.overflow } }

/-- The key ownership unit takes a release (R10). -/
def takeRelease (slot : Slot) (usage : Byte) (s : State) : State := releaseEntries (isHeldAs slot usage) s

/-! Keyboard reports (R4, R5). -/

/-- One transition of a keyboard report: a press or a release of a usage. -/
inductive Transition where
  | press (usage : Byte)
  | release (usage : Byte)
  deriving DecidableEq, Repr

/-- The modifier part of a report's key set (R4). -/
def reportModifiers (modifiers : ModifierSet) (fields : List Byte) : ModifierSet :=
  fields.foldl (fun m u => if isModifier u then m ||| modifierBit u else m) modifiers

/-- The non-modifier part of a report's key set, in the order of the fields (R4). -/
def reportKeys (fields : List Byte) : List Byte :=
  firstOccurrences (fields.filter (fun u => decide (2 ≤ u.toNat) && !isModifier u))

/-- A rollover report: all six fields hold 1 (R4). -/
def isRollover (fields : List Byte) : Bool := fields.all (fun u => decide (u = rolloverUsage))

/-- The usages of a modifier set, ascending. -/
def modifierUsages (m : ModifierSet) : List Byte :=
  eight.filterMap (fun i => if m.getLsbD i.val then some (byteOf (224 + i.val)) else none)

/-- A usage put into its place of an ascending list. -/
def insertUsage (u : Byte) : List Byte → List Byte
  | [] => [u]
  | v :: vs => if u.toNat ≤ v.toNat then u :: v :: vs else v :: insertUsage u vs

/-- A list of usages in ascending order. -/
def sortUsages (us : List Byte) : List Byte := us.foldr insertUsage []

/-- The transitions of a report, in their order (R5): every release ascending, then the modifier presses
ascending, then the non-modifier presses in the order of the fields. -/
def transitions (oldM newM : ModifierSet) (oldK newK : List Byte) : List Transition :=
  (sortUsages (oldK.filter (fun u => decide (u ∉ newK)) ++ modifierUsages (oldM &&& ~~~newM))).map .release ++
    (modifierUsages (newM &&& ~~~oldM)).map .press ++ (newK.filter (fun u => decide (u ∉ oldK))).map .press

/-- One transition goes through the recognizer and then the key ownership unit (R5, R28). -/
def takeTransition (slot : Slot) (t : Transition) (s : State) : State :=
  match t with
  | .press u =>
    let verdict := recognizePress slot u s
    takePress slot u verdict.2 verdict.1
  | .release u => takeRelease slot u (recognizeRelease slot u s)

/-- A keyboard report of a KEYBOARD slot that is no rollover report (R5). -/
def takeKeySet (slot : Slot) (oldM newM : ModifierSet) (oldK newK : List Byte) (s : State) : State :=
  ((transitions oldM newM oldK newK).foldl (fun t x => takeTransition slot x t) s).setSlot slot
    (some (.keyboard newM newK))

/-- A keyboard report (R3, R4, R5). -/
def takeKeyboardReport (slot : Byte) (modifiers : ModifierSet) (fields : List Byte) (s : State) : State :=
  match indexOf? 4 slot.toNat with
  | none => countConsoleError s
  | some i =>
    match s.slotDevice i with
    | some (.keyboard oldM oldK) =>
      if isRollover fields then s
      else takeKeySet i oldM (reportModifiers modifiers fields) oldK (reportKeys fields) s
    | _ => countConsoleError s

/-! Pointer reports (R6, R16 to R18). -/

/-- The owner that a button press takes (R16). -/
def pressOwner (s : State) : Option Computer := (glideTarget s).filter s.queueable

/-- The owner records after the button transitions of a report (R16, R17). -/
def buttonsAfter (s : State) (before now : ButtonSet) : Vector (Option Computer) 5 :=
  Vector.ofFn (fun i =>
    if before.getLsbD i.val && !now.getLsbD i.val then none
    else if now.getLsbD i.val && !before.getLsbD i.val then pressOwner s
    else s.keys.buttons.get i)

/-- The computers whose owned buttons differ between two states of the records. -/
def buttonsChanged (before after : Vector (Option Computer) 5) : ComputerSet :=
  setOf (fun k => decide (buttonsIn before k ≠ buttonsIn after k))

/-- The glide target whose buttons a report's transitions changed: it is owed its report at the end (R98). -/
def owedTarget (s : State) (changed : ComputerSet) : Option Computer := (glideTarget s).filter (inSet changed)

/-- The changed computers that are not the glide target (R18). -/
def otherOwners (s : State) (changed : ComputerSet) : ComputerSet :=
  match glideTarget s with
  | some k => without changed k
  | none => changed

/-- The button transitions of a report: the records change, and the owners other than the glide target receive
their reports (R16, R17, R18). -/
def takeButtons (before now : ButtonSet) (s : State) : State :=
  let after := buttonsAfter s before now
  offerOwedTo (otherOwners s (buttonsChanged s.keys.buttons after)) (s.setButtons after)

/-- The motion step with its hand-over and the owed report (R75, R95 to R98). -/
def takeMotion (owed : Option Computer) (buttonsHeld : Bool) (dx dy wheel : Int) (s : State) : State :=
  let m := motionStep buttonsHeld dx dy wheel s
  serveOwed m.2 owed (takeHandOver m.2 owed m.1)

/-- A pointer report of the POINTER slot, its fields in range (R6). -/
def takePointing (slot : Slot) (before now : ButtonSet) (dx dy wheel : Int) (s : State) : State :=
  let placed := placementStep s
  let owed := owedTarget placed (buttonsChanged placed.keys.buttons (buttonsAfter placed before now))
  (takeMotion owed (decide (now ≠ 0#5)) dx dy wheel (takeButtons before now placed)).setSlot slot (some (.pointer now))

/-- A pointer report (R3, R6). -/
def takePointerReport (slot buttons : Byte) (dx dy : BitVec 12) (wheel : Byte) (s : State) : State :=
  match indexOf? 4 slot.toNat with
  | none => countConsoleError s
  | some i =>
    match s.slotDevice i with
    | some (.pointer before) =>
      takePointing i before (readButtons buttons) (readMotion dx) (readMotion dy) (readWheel wheel) s
    | _ => countConsoleError s

/-! Attach, detach, reset (R1, R2, R19). -/

/-- The device of an occupied slot is detached (R2, R31). -/
def detachDevice (i : Slot) (d : Device) (s : State) : State :=
  let released := releaseEntries (fun e => decide (e.slot = i)) s
  let cleared :=
    match d with
    | .pointer _ => releaseButtons released
    | .keyboard _ _ => released
  abandonSlot i (cleared.setSlot i none)

/-- A slot that is occupied is emptied by a detach; an empty one stays as it is (R1). -/
def vacate (i : Slot) (s : State) : State :=
  match s.slotDevice i with
  | some d => detachDevice i d s
  | none => s

/-- Some slot holds the POINTER. -/
def hasPointer (s : State) : Bool :=
  fourSlots.any (fun i =>
    match s.slotDevice i with
    | some (.pointer _) => true
    | _ => false)

/-- An attach of a KEYBOARD at slot i (R1, R21). -/
def attachKeyboard (i : Slot) (s : State) : State := sendLeds ((vacate i s).setSlot i (some (.keyboard 0#8 [])))

/-- An attach of a POINTER at slot i, refused while another slot holds one (R1). -/
def attachPointer (i : Slot) (s : State) : State :=
  if hasPointer (vacate i s) then countConsoleError (vacate i s) else (vacate i s).setSlot i (some (.pointer 0#5))

/-- A device attach event (R1, R3): class 1 is KEYBOARD and class 2 is POINTER (section 10.6). -/
def attachDevice (slot deviceClass : Byte) (s : State) : State :=
  match indexOf? 4 slot.toNat with
  | none => countConsoleError s
  | some i =>
    if deviceClass = 1#8 then attachKeyboard i s
    else if deviceClass = 2#8 then attachPointer i s
    else countConsoleError s

/-- A device detach event (R2, R3). -/
def detachEvent (slot : Byte) (s : State) : State :=
  match indexOf? 4 slot.toNat with
  | none => countConsoleError s
  | some i =>
    match s.slotDevice i with
    | some d => detachDevice i d s
    | none => countConsoleError s

/-- The bytes that arrived cannot be taken as a console report in this state (R3): not readable, a bad slot, an
empty slot or a slot of the other class, or an attach of no class. -/
def cannotBeTaken (bytes : List Byte) (s : State) : Bool :=
  let device := (indexOf? 4 (natAt bytes 1)).map s.slotDevice
  if byteAt bytes 0 = 1#8 ∧ bytes.length = 9 then
    match device with
    | some (some (.keyboard _ _)) => false
    | _ => true
  else if byteAt bytes 0 = 2#8 ∧ bytes.length = 7 then
    match device with
    | some (some (.pointer _)) => false
    | _ => true
  else if byteAt bytes 0 = 3#8 ∧ bytes.length = 3 then
    device.isNone || decide (byteAt bytes 2 ≠ 1#8 ∧ byteAt bytes 2 ≠ 2#8)
  else if byteAt bytes 0 = 4#8 ∧ bytes.length = 2 then device.isNone
  else decide (byteAt bytes 0 ≠ 5#8 ∨ bytes.length ≠ 2)

/-- A console reset (R19). -/
def resetConsole (s : State) : State :=
  let released := releaseButtons (releaseEntries (fun _ => true) s)
  sendLeds
    { released with
      console := { released.console with slots := Vector.replicate 4 none }
      recognizer := .idle }

/-! Ageing (R11). -/

/-- An entry has reached the age limit (R11). -/
def hasAged (s : State) (e : HeldKey) : Bool :=
  decide (s.tables.modeSettings.ageLimit ≠ 0) && decide (e.owners ≠ 0#8) && !e.stale &&
    decide (1000 * s.tables.modeSettings.ageLimit ≤ (s.clock - e.pressTime).toNat)

/-- The entry of a slot and a usage ages, when it has reached the limit (R11). -/
def ageEntry (slot : Slot) (usage : Byte) (s : State) : State :=
  match s.keys.held.find? (isHeldAs slot usage) with
  | some e =>
    if hasAged s e then
      refreshSnapshots e.owners
        (s.setHeld
          (s.keys.held.map (fun x => if isHeldAs slot usage x then { x with owners := 0#8, stale := true } else x)))
    else s
  | none => s

/-- Every entry that has reached the limit ages, one after the other (R11). The rule leaves their order open; the
model takes press order. DESIGN CHOICE: log entry 22. -/
def ageAll (s : State) : State := s.keys.held.foldl (fun t e => ageEntry e.slot e.usage t) s

end Sys2Proof.Machine
end

