-- ==== Sys2Proof/Machine/Links.lean ====
section
/-! DEFINITION. The computer links' events: presence (R101, R102, R106), configure, suspend, resume and bus reset
(R103 to R105), leaving the queueable states (R107), polls (R110, R115), LED output reports (R116), remote wake
(R123, R127 to R129) and result reads (R117, R168). -/

namespace Sys2Proof.Machine

/-! Leaving the queueable states (R107). -/

/-- Steps 1 to 3 of R107 at the port record: the queue is emptied with QUEUE_FLUSHED, RESYNC and the last
absolute pair are cleared. -/
def flushPort (p : Port) : Port :=
  { p with
    queue := []
    resync := none
    lastPair := none
    sticky := { p.sticky with queueFlushed := p.sticky.queueFlushed || !p.queue.isEmpty } }

/-- Step 4 of R107: computer k leaves every owner set, its last snapshot and its button records, with no report to
it (R12, R17). -/
def forgetOwner (k : Computer) (s : State) : State :=
  { s with
    keys :=
      { s.keys with
        held := s.keys.held.map (fun e => { e with owners := without e.owners k })
        snapshots := s.keys.snapshots.set k.val emptySnapshot k.isLt
        buttons := s.keys.buttons.map (fun o => if o = some k then none else o) } }

/-- Step 5 of R107: computer k leaves the broadcast set (R60). -/
def leaveBroadcast (k : Computer) (s : State) : State := setBroadcast (without s.focusUnit.broadcast k) s

/-- Step 6 of R107: the LED state becomes all off, and the console LED value follows when k is the focus. -/
def clearLeds (k : Computer) (s : State) : State :=
  let cleared := onPort k (fun p => { p with leds := ledsOff }) s
  if s.focusUnit.focus = some k then refreshLeds cleared else cleared

/-- Step 7 of R107: a wake attempt in progress ends with NOT_PRESENT told to the engine (R130). -/
def abandonWake (k : Computer) (s : State) : State :=
  if (s.port k).attempt.isSome then engineWakeEnded k .notPresent (onPort k (fun p => { p with attempt := none }) s)
  else s

/-- The effects of leaving the queueable states, after the new link state has been taken (R107, R168, R175). -/
def leaveQueueable (k : Computer) (s : State) : State :=
  engineIssuerLost k
    (abandonWake k (clearLeds k (leaveBroadcast k (forgetOwner k (onPort k flushPort s)))))

/-- The effects of R107 when the port was queueable before. -/
def leaveIf (was : Bool) (k : Computer) (s : State) : State := if was then leaveQueueable k s else s

/-! Presence (R101, R102, R106). -/

/-- The raw level of port k's presence line becomes `present` (R101). -/
def changePresence (k : Computer) (present : Bool) (s : State) : State :=
  onPort k
    (fun p =>
      if present = p.raw then p
      else
        { p with
          raw := present
          debounce := if present = p.sensed then none else some (timeFromNow s Config.debounceMillis) })
    s

/-- A presence arrival (R102). -/
def presenceArrival (k : Computer) (s : State) : State :=
  record (.attach k .presence)
    (onPort k (fun p => { p with sensed := true, debounce := none, link := .attached }) s)

/-- A presence loss (R106). -/
def presenceLoss (k : Computer) (s : State) : State :=
  leaveIf (s.queueable k) k
    (record (.detach k)
      (onPort k
        (fun p =>
          { p with
            sensed := false, debounce := none, link := .detached, armed := false
            sticky := { p.sticky with detachedSeen := true } })
        s))

/-- The debounce timer of port k expires (R101). -/
def expireDebounce (k : Computer) (s : State) : State :=
  match (s.port k).debounce with
  | some e => if isDue s.clock e then (if (s.port k).sensed then presenceLoss k s else presenceArrival k s) else s
  | none => s

/-! Configure, suspend, resume, bus reset (R103 to R105). -/

/-- Port k's link state changes from one state to another; in any other state nothing changes. -/
def moveLink (k : Computer) (old new : LinkState) (s : State) : State :=
  if (s.port k).link = old then onPort k (fun p => { p with link := new }) s else s

/-- A resume in WAKING ends the attempt with success (R129). -/
def wakeDone (k : Computer) (a : WakeAttempt) (s : State) : State :=
  engineWakeEnded k .done
    (record (.wakeDone k a.signals) (onPort k (fun p => { p with attempt := none, link := .ready }) s))

/-- A resume event (R104, R129). -/
def resumePort (k : Computer) (s : State) : State :=
  match (s.port k).link, (s.port k).attempt with
  | .waking, some a => wakeDone k a s
  | .suspended, _ => moveLink k .suspended .ready s
  | _, _ => s

/-- The ATTACH record of a bus reset, when the port is the focus (R105). -/
def recordFocusReset (k : Computer) (s : State) : State :=
  if s.focusUnit.focus = some k then record (.attach k .busReset) s else s

/-- A bus reset (R105). -/
def resetBus (k : Computer) (s : State) : State :=
  if (s.port k).link = .detached then s
  else
    leaveIf (s.queueable k) k
      (recordFocusReset k
        (onPort k
          (fun p => { p with link := .attached, armed := false, sticky := { p.sticky with busReset := true } }) s))

/-! Polls (R110, R115). -/

/-- The pointer report that ends a RESYNC (R115). -/
def resyncReport (s : State) (k : Computer) (acc : Resync) : Report :=
  match (s.settingsOf k).form with
  | .absolute => .absolute (pairOf (s.port k)).1 (pairOf (s.port k)).2 (s.buttonsOf k) acc.wheel
  | .relative => .relative acc.dx acc.dy (s.buttonsOf k) acc.wheel

/-- The reports that the end of a RESYNC adds (R115). -/
def resyncReports (s : State) (k : Computer) (acc : Resync) : List Report :=
  .keyboard (s.snapshot k) :: if acc.pointerDropped then [resyncReport s k acc] else []

/-- A pair used while it was absent becomes the last absolute pair (R92). -/
def noteReports (rs : List Report) (p : Port) : Port := rs.foldl (fun q r => notePair r q) p

/-- RESYNC ends at port k (R115). -/
def endResync (k : Computer) (acc : Resync) (s : State) : State :=
  let added := resyncReports s k acc
  onPort k
    (fun p =>
      noteReports added
        { p with
          queue := p.queue ++ added
          resync := none
          resyncCount := bump p.resyncCount
          sticky := { p.sticky with resyncOccurred := true } })
    s

/-- The head of the queue is removed and delivered (R110). -/
def deliverHead (k : Computer) (s : State) : State :=
  match (s.port k).queue with
  | [] => s
  | r :: rest => (onPort k (fun p => { p with queue := rest }) s).send (.delivered k r)

/-- The test for the end of RESYNC that follows a poll (R110, R115). -/
def testResync (k : Computer) (s : State) : State :=
  match (s.port k).resync with
  | some acc => if (s.port k).queue.length ≤ Config.resyncEndLength then endResync k acc s else s
  | none => s

/-- A poll (R110). -/
def pollPort (k : Computer) (s : State) : State :=
  if (s.port k).link = .ready then testResync k (deliverHead k s) else s

/-! LEDs and arming (R116, R123). -/

/-- An LED output report (R116). -/
def takeLedReport (k : Computer) (leds : Leds) (s : State) : State :=
  if (s.port k).link = .ready then
    let taken := onPort k (fun p => { p with leds := leds }) s
    if s.focusUnit.focus = some k then refreshLeds taken else taken
  else s

/-- An arming or disarming feature request (R123). -/
def armPort (k : Computer) (armed : Bool) (s : State) : State :=
  if (s.port k).link = .ready then onPort k (fun p => { p with armed := armed }) s else s

/-! The wake timer (R127, R128). -/

/-- The wake signal is sent again (R127). -/
def resendWake (k : Computer) (a : WakeAttempt) (s : State) : State :=
  onPort k
    (fun p =>
      { p with attempt := some { a with signals := a.signals + 1, expiry := timeFromNow s (1000 * a.timeout) } })
    (s.send (.wakeSignal k))

/-- Port k's flush into RESYNC at a wake failure, with QUEUE_FLUSHED (R114, R128). -/
def failureFlush (p : Port) : Port :=
  { flushIntoResync false p with
    sticky := { p.sticky with queueFlushed := p.sticky.queueFlushed || !p.queue.isEmpty } }

/-- A wake attempt fails (R128). -/
def failWake (k : Computer) (a : WakeAttempt) (s : State) : State :=
  engineWakeEnded k .wakeFailed
    (onPort k failureFlush
      (record (.wakeFailed k a.signals)
        (onPort k
          (fun p =>
            { p with attempt := none, link := .suspended, sticky := { p.sticky with wakeFailed := true } })
          s)))

/-- The wake timer of port k expires (R127, R157). -/
def expireWake (k : Computer) (s : State) : State :=
  match (s.port k).link, (s.port k).attempt with
  | .waking, some a =>
    if isDue s.clock a.expiry then (if a.signals ≤ a.retryLimit then resendWake k a s else failWake k a s) else s
  | _, _ => s

/-! Management reports and result reads on a link (R117). -/

/-- A management report on a port outside the management port set (R117). -/
def takeForeign (k : Computer) (s : State) : State :=
  if (s.port k).link = .ready ∧ ¬ s.isManagement k then countForeign s else s

/-- Whether a desk match byte selects this desk (R167). -/
def deskMatches (s : State) (b : Byte) : Bool :=
  decide (b.toNat = s.settings.deskNumber) ||
    (decide (s.settings.groupNumber ≠ 255) && decide (b.toNat = s.settings.groupNumber)) || decide (b = 255#8)

/-- The desk mismatch counter counts one (R167). -/
def countMismatch (s : State) : State := { s with mismatches := bump s.mismatches }

/-- A command report whose desk match byte does not select this desk (R167). -/
def takeMismatch (k : Computer) (b : Byte) (s : State) : State :=
  if (s.port k).link = .ready then
    if s.isManagement k then (if deskMatches s b then s else countMismatch s) else countForeign s
  else s

/-- Bytes 1 to 4 of a result report, with the slot state; those of an EMPTY slot are not stated (log entry 3). -/
def slotBytes (free : Nat → Byte) : Option ResultSlot → List Byte
  | none => [free 1, free 2, free 3, free 4, 0#8]
  | some r => [r.tag, r.command, resultCode r.result, byteOf r.data.length, 1#8]

/-- Bytes 6 and 7 of a result report; the in-flight tag of an IDLE engine is not stated (log entry 3). -/
def engineBytes (free : Nat → Byte) : Option Deferred → List Byte
  | none => [0#8, free 7]
  | some d => [1#8, d.tag]

/-- Bytes 8 to 63 of a result report; those beyond the data are not stated (log entry 3). -/
def dataBytes (free : Nat → Byte) (data : List Byte) : List Byte :=
  (List.range 56).map (fun i => data.getD i (free (8 + i)))

/-- The management result report of port k (R168, section 10.6). -/
def resultReport (s : State) (k : Computer) : List Byte :=
  let free := Config.freeByte s.freeUses
  byteOf s.settings.deskNumber ::
    (slotBytes free (s.port k).slot ++ engineBytes free s.engine ++
      dataBytes free (((s.port k).slot.map ResultSlot.data).getD []))

/-- A result read (R117, R168). -/
def readResult (k : Computer) (s : State) : State :=
  if (s.port k).link = .ready then
    if s.isManagement k then
      { s with sent := s.sent ++ [.resultReport k (resultReport s k)], freeUses := s.freeUses + 1 }
    else countForeign (s.send (.readRefused k))
  else s

end Sys2Proof.Machine
end

