-- ==== Sys2Proof/Machine/Clock.lean ====
section
/-! DEFINITION. The schedule unit's firing (R161 to R163) and the advance of the millisecond counter (R157). -/

namespace Sys2Proof.Machine

/-- A refused firing writes SCHEDULE_REFUSED; a success writes no record of its own (R163). -/
def judgeFiring (e : ScheduleEntry) (answer : Result) (s : State) : State :=
  if isSuccess answer then s else record (.scheduleRefused e.action answer e.origin) s

/-- An entry is removed and its action handed to its owner with cause SCHEDULE (R162). -/
def fireEntry (i : ScheduleIndex) (e : ScheduleEntry) (s : State) : State :=
  let a := runAction e.action .schedule (s.setEntry i none)
  judgeFiring e a.answer a.state

/-- The entry of a slot fires when it is due (R161, R162). -/
def fireIfDue (i : ScheduleIndex) (s : State) : State :=
  match s.entry i with
  | some e => if isDue s.clock e.due then fireEntry i e s else s
  | none => s

/-! What comes due at an advance (R157, R161, R164). -/

/-- Whether a timer runs and its time has come (R157). -/
def isDueAt (clock : Millis) (expiry : Option Millis) : Bool := expiry.any (isDue clock)

/-- The expiry time of the leader timer, while it runs (R32). -/
def leaderTime (r : Recognizer) : Option Millis :=
  match r with
  | .tap1Down _ e | .tap1Up _ e | .tap2Down _ e => some e
  | .idle | .command _ _ => none

/-- The expiry time of the command timer, while it runs (R35). -/
def commandTime (r : Recognizer) : Option Millis :=
  match r with
  | .command _ e => some e
  | .idle | .tap1Down _ _ | .tap1Up _ _ | .tap2Down _ _ => none

/-- Whether an expiry is due at the counter's present value, by the test of its own block (R11, R157, R161). -/
def comesDue (s : State) (x : Expiry) : Bool :=
  match x with
  | .leader => isDueAt s.clock (leaderTime s.recognizer)
  | .command => isDueAt s.clock (commandTime s.recognizer)
  | .ageing slot usage => (s.keys.held.find? (isHeldAs slot usage)).any (hasAged s)
  | .debounce k => isDueAt s.clock (s.port k).debounce
  | .wake k => isDueAt s.clock ((s.port k).attempt.map WakeAttempt.expiry)
  | .firing i => isDueAt s.clock ((s.entry i).map ScheduleEntry.due)

/-- Every time that the part holds, by its place (R157). -/
def heldTimes (s : State) : List Expiry :=
  [.leader, .command] ++ s.keys.held.map (fun e => .ageing e.slot e.usage) ++ eight.map .debounce ++
    eight.map .wake ++ eight.map .firing

/-- What comes due at the counter's present value. -/
def dueNow (s : State) : List Expiry := (heldTimes s).filter (comesDue s)

/-- The block that holds a time takes it, if it is still due when its turn comes. -/
def takeExpiry (s : State) (x : Expiry) : State :=
  match x with
  | .leader => expireLeader s
  | .command => expireCommand s
  | .ageing slot usage => ageEntry slot usage s
  | .debounce k => expireDebounce k s
  | .wake k => expireWake k s
  | .firing i => fireIfDue i s

/-- Each expiry with the free rank that it draws, from the given use on (log entry 4). -/
def withRanks : Nat → List Expiry → List (Nat × Expiry)
  | _, [] => []
  | use, x :: rest => (Config.expiryRank use, x) :: withRanks (use + 1) rest

/-- A ranked expiry put in its place among ranked ones. -/
def insertRanked (x : Nat × Expiry) : List (Nat × Expiry) → List (Nat × Expiry)
  | [] => [x]
  | y :: rest => if x.1 ≤ y.1 then x :: y :: rest else y :: insertRanked x rest

/-- The expiries in the order in which they are taken: any order at all, since the ranks are free (R157, R164). -/
def inFreeOrder (use : Nat) (xs : List Expiry) : List Expiry :=
  ((withRanks use xs).foldr insertRanked []).map Prod.snd

/-- Everything that is due at the counter's present value is taken, each expiry whole before the next, in a free order
(R157, R164). DESIGN CHOICE: log entry 4. -/
def takeDue (s : State) : State :=
  (inFreeOrder s.freeUses (dueNow s)).foldl takeExpiry { s with freeUses := s.freeUses + (dueNow s).length }

/-- The counter advances by one and wraps (R157). -/
def advanceClock (s : State) : State := { s with clock := s.clock + 1#32 }

end Sys2Proof.Machine
end

