-- ==== Sys2Proof/Machine/Memory.lean ====
section
/-! DEFINITION. The external configuration memory as a canonical list of cells: the one reading and the one writing
operation, and the form that every write keeps. -/

namespace Sys2Proof.Machine

/-- The byte that an address of the memory holds: a cell's, or the blank byte when none is listed. -/
def readCell (m : List Host.Cell) (a : Nat) : Byte :=
  match m.find? (fun c => decide (c.1 = a)) with
  | some c => c.2
  | none => Config.blankByte

/-- Bytes read from an address on. -/
def readBlock (m : List Host.Cell) (start length : Nat) : List Byte :=
  (List.range length).map (fun i => readCell m (start + i))

/-- The cells of bytes that lie from an address on: blank bytes are not listed. -/
def cellsOf (start : Nat) : List Byte → List Host.Cell
  | [] => []
  | b :: bs => if b = Config.blankByte then cellsOf (start + 1) bs else (start, b) :: cellsOf (start + 1) bs

/-- Bytes are written from an address on; every other address keeps its byte. -/
def writeBlock (m : List Host.Cell) (start : Nat) (bytes : List Byte) : List Host.Cell :=
  m.filter (fun c => decide (c.1 < start)) ++ cellsOf start bytes ++
    m.filter (fun c => decide (start + bytes.length ≤ c.1))

/-- The canonical form: addresses rise strictly, and no listed byte is blank. -/
abbrev memoryWf (m : List Host.Cell) : Prop :=
  m.Pairwise (fun c d => c.1 < d.1) ∧ ∀ c ∈ m, c.2 ≠ Config.blankByte

end Sys2Proof.Machine
end

