-- ==== Sys2Proof/Machine/Image.lean ====
section
/-! DEFINITION. The image and journal unit: the checks of the configuration image (R183), the two loads (R184, R185,
R27, R69), power-on (R186), desk reset (R187) and the written section (R188). -/

namespace Sys2Proof.Machine

/-! The image's checks (R183). -/

/-- The sum of the 16-bit words of a section; a last byte alone counts as a word with high byte 0. -/
def wordSum : List Byte → Nat
  | [] => 0
  | [b] => b.toNat
  | lo :: hi :: rest => lo.toNat + 256 * hi.toNat + wordSum rest

/-- A section is valid when the sum of its words modulo 65536 is 65535 (R183). -/
def sectionValid (bytes : List Byte) : Bool := decide (wordSum bytes % 65536 = 65535)

/-- The header is good (R183). -/
def headerGood (image : List Byte) : Bool :=
  decide (read16 image 0 = 1) && decide (read16 image 2 = 10) && decide (read16 image 4 = 12) &&
    decide (read16 image 6 = 22) && decide (read16 image 8 = 670)

/-- The settings block of an image. -/
def settingsBlock (image : List Byte) : List Byte := (image.drop 10).take 12

/-- The tables section of an image. -/
def tablesSection (image : List Byte) : List Byte := (image.drop Config.tablesOffset).take Config.tablesLength

/-- The settings block, when the memory answers, the header is good and the block is valid (R183). -/
def validSettings (image : Option (List Byte)) : Option (List Byte) :=
  image.bind (fun b => if headerGood b ∧ sectionValid (settingsBlock b) then some (settingsBlock b) else none)

/-- The tables section, when the memory answers, the header is good and the section is valid (R183). -/
def validTables (image : Option (List Byte)) : Option (List Byte) :=
  image.bind (fun b => if headerGood b ∧ sectionValid (tablesSection b) then some (tablesSection b) else none)

/-! The settings block (R184). -/

/-- The diagonal of the crossing matrix. -/
def crossingDiagonal : BitVec 16 := 0x8421#16

/-- A lock level byte; above 2 it loads as OBSERVE (R184). -/
def loadLockLevel (n : Nat) : LockLevel := if n = 0 then .openLevel else if n = 1 then .operate else .observe

/-- The settings of a valid block (R184, R44). -/
def loadSettings (b : List Byte) : Settings where
  deskNumber := clampNat 0 254 (natAt b 0)
  groupNumber := natAt b 1
  lockLevel := loadLockLevel (natAt b 2)
  managementPorts := byteAt b 3
  domains := Vector.ofFn (fun k => Fin.ofNat 4 (read16 b 4 / 4 ^ k.val))
  crossing := BitVec.ofNat 16 (read16 b 6) ||| crossingDiagonal
  shareOutPermitted := (byteAt b 8).setWidth 4

/-! The tables section (R185). -/

/-- The bytes of a record of a section. -/
def recordBytes (b : List Byte) (start size index : Nat) : List Byte := (b.drop (start + size * index)).take size

/-- A hotkey entry against the other occupied slots and the leader key: the first case of R25 that applies. -/
def hotkeyConflict (others : List Hotkey) (leaderKey : Byte) (h : Hotkey) : Option Result :=
  match h.trigger with
  | .leader keys =>
    if others.any (hasTrigger h.trigger) then some .duplicate
    else if others.any (fun o => isBegun keys o || (leaderKeys o).any (fun ks => startsProperly ks keys)) then
      some .conflict
    else none
  | .chord _ key =>
    if others.any (hasTrigger h.trigger) then some .duplicate
    else if key = leaderKey then some .conflict
    else none

/-- One slot of the image is entered under the checks of R24 and R25 against the slots already entered (R27). -/
def enterHotkey (leaderKey : Byte) (entered : List (Option Hotkey)) (b : List Byte) : List (Option Hotkey) :=
  match parseHotkey b with
  | some h => entered ++ [if (hotkeyConflict (entered.filterMap id) leaderKey h).isNone then some h else none]
  | none => entered ++ [none]

/-- The hotkey table of a section (R27). -/
def loadHotkeys (leaderKey : Byte) (b : List Byte) : Vector (Option Hotkey) 32 :=
  let entered := ((List.range 32).map (recordBytes b 12 9)).foldl (enterHotkey leaderKey) []
  Vector.ofFn (fun i => entered.getD i.val none)

/-- The committed layout of a section, or the built-in layout when a check of R66 fails (R69). -/
def loadLayout (b : List Byte) : Vector Placement 8 :=
  let layout : Vector Placement 8 := Vector.ofFn (fun i => parsePlacement (recordBytes b 588 9 i.val))
  if (layoutFault layout).isNone then layout else defaultLayout

/-- The tables of a valid section (R185). -/
def loadTables (b : List Byte) : Tables :=
  let m := loadModeSettings (b.drop 1)
  { modeWord := (byteAt b 0).setWidth 6
    modeSettings := m
    hotkeys := loadHotkeys m.leaderKey b
    windows := Vector.ofFn (fun i => loadWindow (recordBytes b 300 11 i.val))
    portSettings := Vector.ofFn (fun i => loadPortSettings (recordBytes b 476 3 i.val))
    presets := Vector.ofFn (fun i => loadPreset (recordBytes b 500 11 i.val))
    committed := loadLayout b
    staged := loadLayout b }

/-- The initial screen sources of a valid section: a value outside V0 to V15 and NONE loads as NONE (R156). -/
def loadSources (b : List Byte) : Vector Source 8 :=
  Vector.ofFn (fun i => (parseSource (byteAt b (660 + i.val))).getD none)

/-! Both loads. -/

/-- The settings that an image gives (R184). -/
def settingsFrom (image : Option (List Byte)) : Settings := ((validSettings image).map loadSettings).getD defaultSettings

/-- The tables that an image gives (R185). -/
def tablesFrom (image : Option (List Byte)) : Tables := ((validTables image).map loadTables).getD defaultTables

/-- The initial screen sources that an image gives (R156). -/
def sourcesFrom (image : Option (List Byte)) : Vector Source 8 :=
  ((validTables image).map loadSources).getD defaultSources

/-- Both sections are loaded and the status flags set (R183 to R185). -/
def loadImage (image : Option (List Byte)) (s : State) : State :=
  { s with
    settings := settingsFrom image
    tables := tablesFrom image
    image :=
      { s.image with
        settingsInvalid := (validSettings image).isNone
        tablesInvalid := (validTables image).isNone } }

/-- The image as the memory holds it. -/
def imageOf (m : List Host.Cell) : List Byte := readBlock m 0 Config.imageLength

/-- The focus unit after a load: the initial focus, unlocked, no broadcast (R45). -/
def initialFocusUnit (t : Tables) : FocusUnit where
  focus := t.modeSettings.initialFocus
  broadcast := 0#8
  locked := false

/-! Power-on (R186). -/

/-- A port after power-on: its presence line keeps its level, and a line already present starts the debounce timer
at once (R100, R101). -/
def portAtPowerOn (p : Port) : Port :=
  { emptyPort with
    raw := p.raw
    debounce := if p.raw then some (BitVec.ofNat 32 Config.debounceMillis) else none }

/-- What a section with its check word holds after power was lost during its write: its check does not agree (R188). Where
the check of the bytes would agree, a free amount is turned over in the low byte of the check word. DESIGN CHOICE: log
entry 13. -/
def disagreeing (free : Byte) (bytes : List Byte) : List Byte :=
  if sectionValid bytes then bytes.modify Config.checkOffset (fun b => b ^^^ (if free = 0#8 then 1#8 else free))
  else bytes

/-- The memory after power was lost during the write of the tables section (R188): the section's check does not agree, and
every other byte stays. The section's bytes are those that the memory answers, and free without an answer. DESIGN CHOICE:
log entry 13. -/
def memoryAfterPowerLoss (use : Nat) (answers : Bool) (m : List Host.Cell) : List Host.Cell :=
  let bytes :=
    if answers then readBlock m Config.tablesOffset Config.tablesLength
    else (List.range Config.tablesLength).map (Config.freeByte use)
  writeBlock m Config.tablesOffset (disagreeing (Config.freeByte use Config.tablesLength) bytes)

/-- The memory's content as power comes on: what the memory answers, or what it held; when power was lost during a write, a
tables section whose check does not agree (R188). DESIGN CHOICE: log entry 13. -/
def memoryAtPowerOn (image : Option (List Byte)) (s : State) : List Host.Cell :=
  let held := (image.map (cellsOf 0)).getD s.image.memory
  if s.image.writing.isSome then memoryAfterPowerLoss s.freeUses image.isSome held else held

/-- The part after power-on with the image that its memory gave (R186). -/
def powerOnWith (image : Option (List Byte)) (memory : List Host.Cell) (s : State) : State :=
  loadImage image
    { pending := s.pending
      sent := s.sent
      freeUses := s.freeUses
      clock := 0#32
      settings := defaultSettings
      tables := defaultTables
      console := emptyConsole
      keys := emptyKeys
      recognizer := .idle
      focusUnit := initialFocusUnit (tablesFrom image)
      pointer := offPointer
      ports := s.ports.map portAtPowerOn
      video := emptyVideo (sourcesFrom image)
      schedule := Vector.replicate 8 none
      engine := none
      journal := emptyJournal
      image :=
        { memory := memory, writing := none, saveFailed := false, settingsInvalid := true, tablesInvalid := true }
      foreign := 0
      mismatches := 0 }

/-- Power-on (R183, R186). An interrupted write draws free bytes (log entry 13). -/
def powerOn (image : Option (List Byte)) (s : State) : State :=
  let memory := memoryAtPowerOn image s
  powerOnWith (image.map (fun _ => imageOf memory)) memory
    { s with freeUses := s.freeUses + (if s.image.writing.isSome then 1 else 0) }

/-! Desk reset (R187). -/

/-- A slot keeps its device, with an empty previous state (R20). -/
def forgetPrevious : Device → Device
  | .keyboard _ _ => .keyboard 0#8 []
  | .pointer _ => .pointer 0#5

/-- A port at a desk reset (R121, R168). -/
def portAtDeskReset (managed : Bool) (p : Port) : Port :=
  let q := if p.link.queueable then flushIntoResync true p else p
  { q with sticky := noSticky, resyncCount := 0, slot := if managed then p.slot else none }

/-- The ports at a desk reset, with the management port set just loaded (R121, R168). -/
def portsAtDeskReset (s : State) : Vector Port 8 :=
  Vector.ofFn (fun k => portAtDeskReset (s.isManagement k) (s.port k))

/-- A screen's counters at 0. -/
def clearScreenCounters (r : ScreenRecord) : ScreenRecord := { r with repeats := 0, skips := 0 }

/-- The initial source requests, in ascending screen order (R156). -/
def initialRequests (sources : Vector Source 8) : List (Screen × Source) := eight.map (fun sc => (sc, sources.get sc))

/-- The pointer record set afresh: at the centre of the lowest-numbered enterable screen of the focus, or OFF (R72). -/
def freshPointer (s : State) : State :=
  { s with
    pointer :=
      { offPointer with
        place := (s.focusUnit.focus.bind (lowestScreenOf s)).map (fun sc => centreOf sc (s.placement sc)) } }

/-- Every block but the crosspoint's sources and the pointer takes its desk-reset rule (R20, R28, R45, R121, R156,
R158, R187, R191). -/
def resetBlocks (s : State) : State :=
  { s with
    console := { s.console with slots := s.console.slots.map (Option.map forgetPrevious), errors := 0 }
    keys := emptyKeys
    recognizer := .idle
    focusUnit := initialFocusUnit s.tables
    ports := portsAtDeskReset s
    video :=
      { s.video with
        screens := s.video.screens.map clearScreenCounters
        share := { s.video.share with selection := .nothing, repeats := 0, skips := 0 } }
    schedule := Vector.replicate 8 none
    journal := emptyJournal
    foreign := 0
    mismatches := 0 }

/-- A desk reset; the operand says whether the memory answers the read (R187). -/
def deskResetState (memoryAnswers : Bool) (s : State) : State :=
  let image := if memoryAnswers then some (imageOf s.image.memory) else none
  refreshLeds
    (freshPointer (requestSources (initialRequests (sourcesFrom image)) (resetBlocks (loadImage image s))))

/-! SAVE (R188). -/

/-- The bytes of a hotkey slot in the image. An empty slot has form 0 and, for its unused keys, bytes 0 (section 10.6);
its key count, modifiers, action and argument are not stated (log entry 3). -/
def hotkeySlotBytes (free : Nat → Byte) (start : Nat) : Option Hotkey → List Byte
  | some h => hotkeyBytes h
  | none =>
    [0#8, free (start + 1), 0#8, 0#8, 0#8, free (start + 5), free (start + 6), free (start + 7), free (start + 8)]

/-- The section's content up to the check word, from the state as it stands (R188, section 10.6). -/
def sectionContent (s : State) : List Byte :=
  let free := Config.freeByte s.freeUses
  let t := s.tables
  [t.modeWord.setWidth 8] ++ modeSettingsBytes t.modeSettings ++
    (List.range 32).flatMap (fun i => hotkeySlotBytes free (12 + 9 * i) (t.hotkeys.toList.getD i none)) ++
    t.windows.toList.flatMap windowBytes ++
    t.portSettings.toList.flatMap portSettingsBytes ++
    eight.flatMap (fun p => presetBytes (free (510 + 11 * p.val)) (t.presets.get p)) ++
    t.committed.toList.flatMap placementBytes ++
    s.video.screens.toList.map (fun r => sourceByte r.committed)

/-- The check word that makes a section valid: the complement of the sum of its other words (R183). -/
def checkWord (content : List Byte) : List Byte := le16 (65535 - wordSum content % 65536)

/-- The tables section as SAVE writes it (R188). -/
def sectionToWrite (s : State) : List Byte := sectionContent s ++ checkWord (sectionContent s)

/-- The write of the tables section begins (R182, R188). -/
def beginWrite (s : State) : State :=
  { s with image := { s.image with writing := some (sectionToWrite s) }, freeUses := s.freeUses + 1 }

/-- The memory's content after a write has ended (R188). -/
def memoryAfterWrite (outcome : WriteOutcome) (written : List Byte) (m : List Host.Cell) : List Host.Cell :=
  match outcome with
  | .succeeded => writeBlock m Config.tablesOffset written
  | .failed left => writeBlock m Config.tablesOffset (left.take Config.tablesLength)

/-- The engine, if still BUSY with the SAVE, completes it (R173, R182). -/
def engineWriteEnded (outcome : WriteOutcome) (s : State) : State :=
  match s.engine with
  | some d =>
    if d.wait = .memoryWrite then completeDeferred d (if outcome = .succeeded then .done else .writeFailed) s else s
  | none => s

/-- The memory write ends (R182, R188). Without a write in flight nothing ends. -/
def endWrite (outcome : WriteOutcome) (s : State) : State :=
  match s.image.writing with
  | some written =>
    engineWriteEnded outcome
      { s with
        image :=
          { s.image with
            memory := memoryAfterWrite outcome written s.image.memory
            writing := none
            saveFailed := decide (outcome ≠ .succeeded) } }
  | none => s

end Sys2Proof.Machine
end

