-- ==== Sys2Proof/Machine/Formats.lean ====
section
/-! DEFINITION. The result data of the reads (section 10.6): READ DESK, READ PORT, READ INPUT, READ SCREEN, READ
SHARE, READ JOURNAL and the table records; and the bytes of the console notices. -/

namespace Sys2Proof.Machine

/-! READ DESK. -/

/-- The domains as the settings block holds them: two bits for each computer from C0. -/
def domainsWord (d : Vector Domain 8) : Nat := (eight.map (fun k => (d.get k).val * 4 ^ k.val)).sum

/-- Bytes 12 to 17 of READ DESK's data: plane, screen and position. -/
def placeBytes : Option Place → List Byte
  | some p => [1#8, byteOf p.screen.val] ++ le16 p.x ++ le16 p.y
  | none => [0#8, 0xFF#8] ++ le16 0 ++ le16 0

/-- The 49 bytes of READ DESK's data (R176). -/
def deskData (s : State) : List Byte :=
  [byteOf s.settings.deskNumber, byteOf s.settings.groupNumber, lockLevelByte s.settings.lockLevel,
      s.settings.managementPorts] ++
    le32 s.clock.toNat ++
    [computerByte s.focusUnit.focus, flagByte s.focusUnit.locked, flagByte s.pointer.headless, s.focusUnit.broadcast] ++
    placeBytes s.pointer.place ++
    [s.tables.modeWord.setWidth 8] ++ modeSettingsBytes s.tables.modeSettings ++
    [recognizerByte s.recognizer, byteOf s.keys.held.length, flagByte s.engine.isSome, statusByte s, 0#8,
      byteOf s.journal.records.length] ++
    le16 (domainsWord s.settings.domains) ++ le16 s.settings.crossing.toNat ++
    [s.settings.shareOutPermitted.setWidth 8] ++
    le16 s.console.errors ++ le16 s.keys.overflow ++ le16 s.foreign ++ le16 s.mismatches

/-! READ PORT. -/

/-- The 8 bytes of READ PORT's data (R176). -/
def portData (s : State) (k : Computer) : List Byte :=
  [linkByte (s.port k).link, currentByte s k, stickyByte (s.port k).sticky, byteOf (s.port k).queue.length,
      ledsByte (s.port k).leds] ++
    le16 (s.port k).resyncCount ++ [byteOf (((s.port k).attempt.map WakeAttempt.signals).getD 0)]

/-! The crosspoint's reads (R155). -/

/-- A mode in six bytes, 0 when there is none. -/
def modeBytes : Option VideoMode → List Byte
  | some m => le16 m.width.toNat ++ le16 m.height.toNat ++ le16 m.refresh.toNat
  | none => List.replicate 6 0#8

/-- The 11 bytes of READ INPUT's data. -/
def inputData (r : InputRecord) : List Byte := flagByte r.signal.isSome :: modeBytes r.signal ++ le32 r.frame.toNat

/-- Content kind, input or standby reason, and frame number: bytes 9 to 14 of READ SCREEN's and READ SHARE's data. -/
def contentBytes : Option Content → List Byte
  | none => [0#8, 0#8] ++ le32 0
  | some (.frame j n) => [1#8, byteOf j.val] ++ le32 n.toNat
  | some (.standby reason) => [2#8, reasonByte reason] ++ le32 0

/-- The byte of a pending source, 0xFF when there is none. -/
def pendingByte : Option Source → Byte
  | none => 0xFF#8
  | some src => sourceByte src

/-- The 20 bytes of READ SCREEN's data. -/
def screenData (r : ScreenRecord) : List Byte :=
  flagByte r.sink.isSome :: modeBytes r.sink ++ [sourceByte r.committed, pendingByte r.pending] ++
    contentBytes r.shown ++ [borderByte r.border] ++ le16 r.repeats ++ le16 r.skips

/-- The kind and the index of a selection, the index 0 for NONE. -/
def selectionBytes : Selection → List Byte
  | .nothing => [0#8, 0#8]
  | .screen sc => [1#8, byteOf sc.val]
  | .input j => [2#8, byteOf j.val]

/-- The 19 bytes of READ SHARE's data. Its mode bytes with an ABSENT sink, and its content bytes that no content fills, are
those that section 10.6 gives for READ SCREEN. DEDUCED: log entry 15. -/
def shareData (r : ShareRecord) : List Byte :=
  selectionBytes r.selection ++ [flagByte r.sink.isSome] ++ modeBytes r.sink ++ contentBytes r.shown ++
    le16 r.repeats ++ le16 r.skips

/-! READ JOURNAL (R189, R190). -/

/-- The code and the seven subject bytes of a journal event; unused bytes are 0 (R189). -/
def eventBytes : JournalEvent → List Byte
  | .focus previous next cause =>
    [1#8, computerByte previous, byteOf next.val, causeByte cause, 0#8, 0#8, 0#8, 0#8]
  | .wakeSent k => [2#8, byteOf k.val, 0#8, 0#8, 0#8, 0#8, 0#8, 0#8]
  | .wakeDone k n => [3#8, byteOf k.val, byteOf n, 0#8, 0#8, 0#8, 0#8, 0#8]
  | .wakeFailed k n => [4#8, byteOf k.val, byteOf n, 0#8, 0#8, 0#8, 0#8, 0#8]
  | .share sel => 5#8 :: selectionBytes sel ++ [0#8, 0#8, 0#8, 0#8, 0#8]
  | .unshare => [6#8, 0#8, 0#8, 0#8, 0#8, 0#8, 0#8, 0#8]
  | .lock => [7#8, 0#8, 0#8, 0#8, 0#8, 0#8, 0#8, 0#8]
  | .unlock => [8#8, 0#8, 0#8, 0#8, 0#8, 0#8, 0#8, 0#8]
  | .preset p => [9#8, byteOf p.val, 0#8, 0#8, 0#8, 0#8, 0#8, 0#8]
  | .detach k => [10#8, byteOf k.val, 0#8, 0#8, 0#8, 0#8, 0#8, 0#8]
  | .attach k .presence => [11#8, byteOf k.val, 0#8, 0#8, 0#8, 0#8, 0#8, 0#8]
  | .attach k .busReset => [11#8, byteOf k.val, 1#8, 0#8, 0#8, 0#8, 0#8, 0#8]
  | .scheduleRefused a answer origin =>
    [12#8, byteOf (actionCode a)] ++ le16 (actionArgument a) ++ [resultCode answer, originByte origin, 0#8, 0#8]

/-- The 12 bytes of a journal record. -/
def journalBytes (r : JournalRecord) : List Byte := le32 r.time.toNat ++ eventBytes r.event

/-- The data of READ JOURNAL: the number returned, the number still there, and the records (R190). -/
def journalData (s : State) : List Byte :=
  [byteOf (s.journal.records.take Config.journalReadLength).length,
      byteOf (s.journal.records.drop Config.journalReadLength).length] ++
    (s.journal.records.take Config.journalReadLength).flatMap journalBytes

/-- The journal after a READ JOURNAL (R190). -/
def readOut (j : Journal) : Journal where
  records := j.records.drop Config.journalReadLength
  lost := j.lost && !(j.records.drop Config.journalReadLength).isEmpty

/-! The schedule entry record (R159). -/

/-- A schedule entry record: the time remaining is the due time minus the counter, modulo 2^32. -/
def entryBytes (clock : Millis) (e : ScheduleEntry) : List Byte :=
  le32 e.due.toNat ++ le32 (e.due - clock).toNat ++ [byteOf (actionCode e.action)] ++
    le16 (actionArgument e.action) ++ [originByte e.origin]

/-! Console notices (section 10.6). -/

/-- The two bytes of a console notice; what is sent on a computer link is no console notice. -/
def noticeBytes : Sent → Option (List Byte)
  | .ledNotice leds => some [1#8, ledsByte leds]
  | .alert .accept => some [2#8, 1#8]
  | .alert .refuse => some [2#8, 2#8]
  | .alert .locked => some [2#8, 3#8]
  | .delivered _ _ | .wakeSignal _ | .resultReport _ _ | .readRefused _ => none

end Sys2Proof.Machine
end

