-- ==== Sys2Proof/Machine/Engine.lean ====
section
/-! DEFINITION. The management engine: how a command report is taken (R117, R167, R169 to R171) and what each
command does (R174, R176 to R182). -/

namespace Sys2Proof.Machine

/-! Taking a command (R169). -/

/-- The rows of R170's table. -/
inductive CommandClass where
  /-- Taken at every lock level, and while BUSY. -/
  | read
  /-- Taken at OPEN and OPERATE. -/
  | operate
  /-- Taken at OPEN. -/
  | configure
  deriving DecidableEq, Repr

/-- What R169 checks of a command before its own checks. -/
structure CommandSpec where
  /-- The command code (section 10.6). -/
  code         : Byte
  /-- The parameter lengths that the command takes are `minLength` to `maxLength`, or `otherLength`. -/
  minLength    : Nat
  maxLength    : Nat
  otherLength  : Nat
  cls          : CommandClass
  /-- ABORT is taken while BUSY too (R171). -/
  whileBusy    : Bool

/-- A command of one fixed length. -/
def fixedLength (code : Byte) (length : Nat) (cls : CommandClass) : CommandSpec where
  code := code
  minLength := length
  maxLength := length
  otherLength := length
  cls := cls
  whileBusy := decide (cls = .read)

/-- The parameter length of a report is one that the command takes, and no more than 56 (R169). -/
def lengthAllowed (c : CommandSpec) (length : Byte) : Bool :=
  decide (length.toNat ≤ Config.maxParameters) &&
    (decide (c.minLength ≤ length.toNat ∧ length.toNat ≤ c.maxLength) || decide (length.toNat = c.otherLength))

/-- A command class is taken at a lock level (R170). -/
def levelAllows : LockLevel → CommandClass → Bool
  | .openLevel, _ => true
  | .operate, .configure => false
  | .operate, _ => true
  | .observe, .read => true
  | .observe, _ => false

/-- The first check of R169 after the command code that fails, if any. -/
def refusalOf (c : CommandSpec) (r : CommandReport) (s : State) : Option Result :=
  if ¬ lengthAllowed c r.length then some .badLength
  else if ¬ levelAllows s.settings.lockLevel c.cls then some .locked
  else if s.engine.isSome ∧ ¬ c.whileBusy then some .busy
  else none

/-- What a command answers once it is carried out: a final result with its data, or a deferral (R171). -/
structure Reply where
  state  : State
  result : Result
  data   : List Byte := []
  /-- What a deferred command waits for. -/
  wait   : Option (DeferredCommand × Wait) := none
  focusSkipped : Bool := false

/-- The reply is written into the issuing port's slot, and a deferred command makes the engine BUSY (R168, R171). -/
def finish (c : CommandSpec) (r : CommandReport) (reply : Reply) : State :=
  let written :=
    writeSlot r.port { tag := r.tag, command := c.code, result := reply.result, data := reply.data } reply.state
  match reply.wait with
  | none => written
  | some (command, wait) =>
    { written with
      engine := some
        { command := command, port := r.port, tag := r.tag, wait := wait, focusSkipped := reply.focusSkipped } }

/-- The command report reaches the engine and is meant for this desk: its port is READY and in the management port set,
and the desk match byte selects the desk (R117, R167). -/
def reachesEngine (r : CommandReport) (s : State) : Bool :=
  decide ((s.port r.port).link = .ready) && s.isManagement r.port && deskMatches s r.deskMatch

/-- A command report that does not reach the engine, or is not meant for this desk (R117, R167). -/
def dropReport (r : CommandReport) (s : State) : State :=
  if (s.port r.port).link = .ready then (if s.isManagement r.port then countMismatch s else countForeign s) else s

/-- A command report is taken: the port, the desk match, the checks of R169, and then the command's body. -/
def takeCommand (c : CommandSpec) (body : State → Reply) (r : CommandReport) (s : State) : State :=
  if reachesEngine r s then
    match refusalOf c r s with
    | some refusal => finish c r { state := s, result := refusal }
    | none => finish c r (body s)
  else dropReport r s

/-- A body that only refuses with BAD_ARGUMENT (R178). -/
def refuseArgument (s : State) : Reply := { state := s, result := .badArgument }

/-- A body that answers a read, or BAD_ARGUMENT for an index out of range (R176). -/
def answerRead (data : Option (List Byte)) (s : State) : Reply :=
  match data with
  | some d => { state := s, result := .ok, data := d }
  | none => refuseArgument s

/-! Reads (R176). -/

/-- READ DESK. -/
def readDeskBody (s : State) : Reply := answerRead (some (deskData s)) s

/-- READ PORT. -/
def readPortBody (r : CommandReport) (s : State) : Reply :=
  answerRead ((indexOf? 8 (natAt r.params 0)).map (portData s)) s

/-- READ SCREEN. -/
def readScreenBody (r : CommandReport) (s : State) : Reply :=
  answerRead ((indexOf? 8 (natAt r.params 0)).map (fun sc => screenData (s.screen sc))) s

/-- READ INPUT. -/
def readInputBody (r : CommandReport) (s : State) : Reply :=
  answerRead ((indexOf? 16 (natAt r.params 0)).map (fun j => inputData (s.input j))) s

/-- READ SHARE. -/
def readShareBody (s : State) : Reply := answerRead (some (shareData s.video.share)) s

/-- READ JOURNAL (R190). -/
def readJournalBody (s : State) : Reply :=
  { state := { s with journal := readOut s.journal }, result := .ok, data := journalData s }

/-! Mode word and mode settings (R177). -/

/-- SET MODE and CLEAR MODE: the mode word becomes what `change` makes of it and the mask (R177). -/
def modeBody (change : ModeWord → ModeWord → ModeWord) (r : CommandReport) (s : State) : Reply :=
  if 64 ≤ natAt r.params 0 then refuseArgument s
  else
    let word := change s.tables.modeWord ((byteAt r.params 0).setWidth 6)
    { state := setModeWord word s, result := if word = s.tables.modeWord then .noChange else .ok }

/-- A leader key equals the key of a CHORD entry (R26). -/
def chordUses (s : State) (key : Byte) : Bool :=
  (hotkeyList s.tables.hotkeys).any (fun h =>
    match h.trigger with
    | .chord _ k => decide (k = key)
    | .leader _ => false)

/-- The recognizer's taps are forgotten when the leader key changes (R26). -/
def forgetTaps (changed : Bool) (s : State) : State :=
  if changed ∧ (sequenceSlot s.recognizer).isSome then setRecognizer .idle s else s

/-- The age limit was lowered, or changed from 0 to 1 or more (R11). -/
def limitTightened (before after : Nat) : Bool :=
  decide (after ≠ 0) && (decide (before = 0) || decide (after < before))

/-- The seven mode settings are replaced, with what follows at once (R26, R11). -/
def applyModeSettings (m : ModeSettings) (s : State) : State :=
  let old := s.tables.modeSettings
  let t :=
    forgetTaps (decide (m.leaderKey ≠ old.leaderKey)) { s with tables := { s.tables with modeSettings := m } }
  if limitTightened old.ageLimit m.ageLimit then ageAll t else t

/-- WRITE MODE SETTINGS (R177). -/
def modeSettingsBody (r : CommandReport) (s : State) : Reply :=
  match parseModeSettings r.params with
  | none => refuseArgument s
  | some m =>
    if chordUses s m.leaderKey then { state := s, result := .conflict }
    else { state := applyModeSettings m s, result := .ok }

/-! Table access (R178). -/

/-- The table's number in the parameters is `table`, and the index lies in the table. -/
def tableIndex (table size : Nat) (r : CommandReport) : Option (Fin size) :=
  if natAt r.params 0 = table then indexOf? size (natAt r.params 1) else none

/-- The record of a TABLE WRITE. -/
def writtenRecord (r : CommandReport) : List Byte := r.params.drop 2

/-- A slot of the hotkey table. -/
def State.hotkey (s : State) (i : Fin 32) : Option Hotkey := s.tables.hotkeys.get i

/-- A hotkey slot becomes h. -/
def setHotkey (i : Fin 32) (h : Option Hotkey) (s : State) : State :=
  { s with tables := { s.tables with hotkeys := s.tables.hotkeys.set i.val h i.isLt } }

/-- A table read of a slot that may be empty (R23, R159). -/
def readSlot (bytes : Option (List Byte)) (s : State) : Reply :=
  match bytes with
  | some d => { state := s, result := .ok, data := d }
  | none => { state := s, result := .notFound }

/-- TABLE READ of HOTKEY (R23). -/
def readHotkeyBody (r : CommandReport) (s : State) : Reply :=
  match tableIndex 1 32 r with
  | some i => readSlot ((s.hotkey i).map hotkeyBytes) s
  | none => refuseArgument s

/-- TABLE READ of WINDOW (R90). -/
def readWindowBody (r : CommandReport) (s : State) : Reply :=
  answerRead ((tableIndex 2 16 r).map (fun j => windowBytes (s.window j))) s

/-- TABLE READ of PORT SETTINGS (R178). -/
def readPortSettingsBody (r : CommandReport) (s : State) : Reply :=
  answerRead ((tableIndex 3 8 r).map (fun k => portSettingsBytes (s.settingsOf k))) s

/-- TABLE READ of PRESET (R148). The index byte of a share kind without an index is not stated (log entry 3). -/
def readPresetBody (r : CommandReport) (s : State) : Reply :=
  answerRead ((tableIndex 4 8 r).map (fun p => presetBytes (Config.freeByte s.freeUses 10) (s.preset p)))
    { s with freeUses := s.freeUses + 1 }

/-- TABLE READ of LAYOUT-STAGED (R65). -/
def readStagedBody (r : CommandReport) (s : State) : Reply :=
  answerRead ((tableIndex 5 8 r).map (fun sc => placementBytes (s.tables.staged.get sc))) s

/-- TABLE READ of LAYOUT-COMMITTED (R65). -/
def readCommittedBody (r : CommandReport) (s : State) : Reply :=
  answerRead ((tableIndex 6 8 r).map (fun sc => placementBytes (s.placement sc))) s

/-- TABLE READ of SCHEDULE (R159). -/
def readEntryBody (r : CommandReport) (s : State) : Reply :=
  match tableIndex 7 8 r with
  | some i => readSlot ((s.entry i).map (entryBytes s.clock)) s
  | none => refuseArgument s

/-- The occupied slots but one (R25). -/
def otherHotkeys (s : State) (i : Fin 32) : List Hotkey := hotkeyList (s.tables.hotkeys.set i.val none i.isLt)

/-- TABLE WRITE of HOTKEY (R24, R25). -/
def writeHotkeyBody (r : CommandReport) (s : State) : Reply :=
  match tableIndex 1 32 r, parseHotkey (writtenRecord r) with
  | some i, some h =>
    match hotkeyConflict (otherHotkeys s i) s.tables.modeSettings.leaderKey h with
    | some refusal => { state := s, result := refusal }
    | none => { state := setHotkey i (some h) s, result := .ok }
  | _, _ => refuseArgument s

/-- A window record becomes w. -/
def setWindow (j : Input) (w : Window) (s : State) : State :=
  { s with tables := { s.tables with windows := s.tables.windows.set j.val w j.isLt } }

/-- Input j is the intended source of a screen. -/
def showsInput (s : State) (j : Input) (sc : Screen) : Bool := decide (intendedOf (s.screen sc) = some j)

/-- A window record is rewritten: when its computer changes, the glide unit is told (R91, R84). -/
def rewriteWindow (j : Input) (w : Window) (s : State) : State :=
  if w.computer = (s.window j).computer then setWindow j w s
  else recheckPointer (showsInput s j) (setWindow j w s)

/-- TABLE WRITE of WINDOW (R90). -/
def writeWindowBody (r : CommandReport) (s : State) : Reply :=
  match tableIndex 2 16 r, parseWindow (writtenRecord r) with
  | some j, some w => { state := rewriteWindow j w s, result := .ok }
  | _, _ => refuseArgument s

/-- Port k's settings become p. -/
def setPortSettings (k : Computer) (p : PortSettings) (s : State) : State :=
  { s with tables := { s.tables with portSettings := s.tables.portSettings.set k.val p k.isLt } }

/-- TABLE WRITE of PORT SETTINGS (R178). -/
def writePortSettingsBody (r : CommandReport) (s : State) : Reply :=
  match tableIndex 3 8 r, parsePortSettings (writtenRecord r) with
  | some k, some p => { state := setPortSettings k p s, result := .ok }
  | _, _ => refuseArgument s

/-- Preset p becomes pr. -/
def setPreset (p : PresetIndex) (pr : Preset) (s : State) : State :=
  { s with tables := { s.tables with presets := s.tables.presets.set p.val pr p.isLt } }

/-- TABLE WRITE of PRESET (R148). -/
def writePresetBody (r : CommandReport) (s : State) : Reply :=
  match tableIndex 4 8 r, parsePreset (writtenRecord r) with
  | some p, some pr => { state := setPreset p pr s, result := .ok }
  | _, _ => refuseArgument s

/-- A staged placement record becomes p. -/
def setStaged (sc : Screen) (p : Placement) (s : State) : State :=
  { s with tables := { s.tables with staged := s.tables.staged.set sc.val p sc.isLt } }

/-- TABLE WRITE of LAYOUT-STAGED (R65). -/
def writeStagedBody (r : CommandReport) (s : State) : Reply :=
  match tableIndex 5 8 r with
  | some sc => { state := setStaged sc (parsePlacement (writtenRecord r)) s, result := .ok }
  | none => refuseArgument s

/-- TABLE DELETE of HOTKEY (R23). -/
def deleteHotkeyBody (r : CommandReport) (s : State) : Reply :=
  match tableIndex 1 32 r with
  | some i =>
    if (s.hotkey i).isSome then { state := setHotkey i none s, result := .ok } else { state := s, result := .notFound }
  | none => refuseArgument s

/-- TABLE DELETE of PRESET (R148). -/
def deletePresetBody (r : CommandReport) (s : State) : Reply :=
  match tableIndex 4 8 r with
  | some p =>
    if s.preset p = emptyPreset then { state := s, result := .notFound }
    else { state := setPreset p emptyPreset s, result := .ok }
  | none => refuseArgument s

/-- The answer of a search: the index found, or NOT_FOUND (R178). -/
def answerSearch (found : Option Nat) (s : State) : Reply :=
  match found with
  | some i => { state := s, result := .ok, data := [byteOf i] }
  | none => { state := s, result := .notFound }

/-- A hotkey slot holds the trigger looked for. -/
def slotHasTrigger (t : Trigger) (h : Option Hotkey) : Bool := h.any (hasTrigger t)

/-- TABLE SEARCH of HOTKEY: bytes 1 to 6 of the parameters are bytes 0 to 5 of an entry record (R23, section 10.6). -/
def searchHotkeyBody (r : CommandReport) (s : State) : Reply :=
  if natAt r.params 0 = 1 then
    match parseTrigger (r.params.drop 1) with
    | some t => answerSearch (s.tables.hotkeys.toList.findIdx? (slotHasTrigger t)) s
    | none => answerSearch none s
  else refuseArgument s

/-- TABLE SEARCH of WINDOW (R90). -/
def searchWindowBody (r : CommandReport) (s : State) : Reply :=
  if natAt r.params 0 = 2 then
    match parseComputer (byteAt r.params 1) with
    | some c => answerSearch (s.tables.windows.toList.findIdx? (fun w => decide (w.computer = c))) s
    | none => answerSearch none s
  else refuseArgument s

/-! Layout (R179). -/

/-- LAYOUT COMMIT (R66, R67). -/
def layoutCommitBody (s : State) : Reply :=
  match layoutFault s.tables.staged with
  | some (sc, refusal) => { state := s, result := refusal, data := [byteOf sc.val] }
  | none => { state := commitLayout s, result := .ok }

/-- LAYOUT REVERT (R68). -/
def layoutRevertBody (s : State) : Reply := { state := revertLayout s, result := .ok }

/-! ACT (R180). -/

/-- The deferral of an ACT, when something remains to wait for (R171, R180). -/
def actWait (a : Action) (ans : Answered) : Option (DeferredCommand × Wait) :=
  match a with
  | .select _ => if anyPending ans.touched then some (.select, .screens ans.touched) else none
  | .applyPreset _ => if anyPending ans.touched then some (.applyPreset, .screens ans.touched) else none
  | .wake k => if ans.answer = .accepted then some (.wake, .wakeOf k) else none
  | _ => none

/-- The data of an inserted entry: its index and its due time (section 10.6). -/
def insertedData : Option (ScheduleIndex × Millis) → List Byte
  | some (i, due) => byteOf i.val :: le32 due.toNat
  | none => []

/-- The reply of an ACT that its owner has answered; a deferred one writes ACCEPTED (R171, R180). -/
def actReply (a : Action) (ans : Answered) : Reply where
  state := ans.state
  result := if (actWait a ans).isSome then .accepted else ans.answer
  data := insertedData ans.inserted
  wait := actWait a ans
  focusSkipped := ans.skipped

/-- ACT with the action of this number (R180). -/
def actBody (code : Nat) (r : CommandReport) (s : State) : Reply :=
  if natAt r.params 0 = code then
    match parseAction code (read16 r.params 1) with
    | some a => actReply a (runAction a .management s)
    | none => refuseArgument s
  else refuseArgument s

/-! SET SCREEN, SET BROADCAST, SCHEDULE, CANCEL (R181, R59, R160, R165). -/

/-- The result of SET SCREEN by the outcome of its request (R181). -/
def setScreenResult : RequestOutcome → Result
  | .noChange => .noChange
  | .committed => .done
  | .pending => .accepted

/-- SET SCREEN (R181). -/
def setScreenBody (r : CommandReport) (s : State) : Reply :=
  match indexOf? 8 (natAt r.params 0), parseSource (byteAt r.params 1) with
  | some sc, some src =>
    { state := recheckPointer (isTouched (touchedBy s sc src)) (requestSource sc src s)
      result := setScreenResult (requestOutcome s sc src)
      wait :=
        if requestOutcome s sc src = .pending then some (.setScreen, .screens (touchedBy s sc src)) else none }
  | _, _ => refuseArgument s

/-- SET BROADCAST (R59). -/
def setBroadcastBody (r : CommandReport) (s : State) : Reply :=
  let kept := allowedMembers s (byteAt r.params 0)
  { state := setBroadcast kept s, result := if kept = byteAt r.params 0 then .ok else .partly, data := [kept] }

/-- SCHEDULE (R160). -/
def scheduleBody (r : CommandReport) (s : State) : Reply :=
  if 1 ≤ read32 r.params 0 ∧ read32 r.params 0 ≤ 86400000 then
    match parseAction (natAt r.params 4) (read16 r.params 5) with
    | none => refuseArgument s
    | some a =>
      match emptyEntry s with
      | none => { state := s, result := .tableFull }
      | some i =>
        let e := newEntry s (read32 r.params 0) a .management
        { state := s.setEntry i (some e), result := .ok, data := insertedData (some (i, e.due)) }
  else refuseArgument s

/-- The due time that a CANCEL expects, when it carries one (R165). -/
def expectedDue (r : CommandReport) : Option Millis :=
  if r.length.toNat = 5 then some (BitVec.ofNat 32 (read32 r.params 1)) else none

/-- The data of a cancelled entry: its action and argument (section 10.6). -/
def cancelledData (e : ScheduleEntry) : List Byte := byteOf (actionCode e.action) :: le16 (actionArgument e.action)

/-- CANCEL (R165). -/
def cancelBody (r : CommandReport) (s : State) : Reply :=
  match indexOf? 8 (natAt r.params 0) with
  | none => refuseArgument s
  | some i =>
    match s.entry i with
    | none => { state := s, result := .notFound }
    | some e =>
      if (expectedDue r).all (fun t => decide (t = e.due)) then
        { state := s.setEntry i none, result := .ok, data := cancelledData e }
      else { state := s, result := .notFound }

/-! Conditions and counters (R119, R191). -/

/-- CLEAR PORT CONDITIONS (R119). -/
def clearConditionsBody (r : CommandReport) (s : State) : Reply :=
  { state :=
      { s with
        ports := Vector.ofFn (fun k =>
          if inSet (byteAt r.params 0) k then { s.port k with sticky := noSticky } else s.port k) }
    result := .ok }

/-- Every saturating counter of the part becomes 0 (R191). -/
def clearAllCounters (s : State) : State :=
  { s with
    console := { s.console with errors := 0 }
    keys := { s.keys with overflow := 0 }
    foreign := 0
    mismatches := 0
    ports := s.ports.map (fun p => { p with resyncCount := 0 })
    video :=
      { s.video with
        screens := s.video.screens.map clearScreenCounters
        share := { s.video.share with repeats := 0, skips := 0 } } }

/-- CLEAR COUNTERS (R191). -/
def clearCountersBody (s : State) : Reply := { state := clearAllCounters s, result := .ok }

/-! Resets, SAVE, ABORT (R181, R182, R174). -/

/-- CONSOLE RESET (R19, R181). -/
def consoleResetBody (s : State) : Reply := { state := resetConsole s, result := .ok }

/-- DESK RESET (R181, R187). -/
def deskResetBody (memoryAnswers : Bool) (s : State) : Reply :=
  if saveActive s then { state := s, result := .busy } else { state := deskResetState memoryAnswers s, result := .ok }

/-- SAVE (R182). -/
def saveBody (s : State) : Reply :=
  if saveActive s then { state := s, result := .busy }
  else { state := beginWrite s, result := .accepted, wait := some (.save, .memoryWrite) }

/-- ABORT (R174). -/
def abortBody (s : State) : Reply :=
  match s.engine with
  | none => { state := s, result := .noChange }
  | some d =>
    { state := completeDeferred d .aborted s, result := .ok, data := [d.tag, deferredCode d.command] }

end Sys2Proof.Machine
end

