-- ==== Sys2Proof/Machine/ActCommands.lean ====
section
/-! DEFINITION. ACT, action by action (R180). -/

namespace Sys2Proof.Machine

/-- What R169 checks of ACT (section 10.6). -/
def actSpec : CommandSpec := fixedLength 0x28#8 3 .operate

/-- ACT_FOCUS (R180, R47). -/
def execActFocus (r : CommandReport) (s : State) : Host.Outcome State Fault Refusal :=
  .next (takeCommand actSpec (actBody 1 r) r s)

/-- ACT_SELECT (R180, R147). -/
def execActSelect (r : CommandReport) (s : State) : Host.Outcome State Fault Refusal :=
  .next (takeCommand actSpec (actBody 2 r) r s)

/-- ACT_CYCLE (R180, R49). -/
def execActCycle (r : CommandReport) (s : State) : Host.Outcome State Fault Refusal :=
  .next (takeCommand actSpec (actBody 3 r) r s)

/-- ACT_WAKE (R180, R131). -/
def execActWake (r : CommandReport) (s : State) : Host.Outcome State Fault Refusal :=
  .next (takeCommand actSpec (actBody 4 r) r s)

/-- ACT_APPLY_PRESET (R180, R149). -/
def execActApplyPreset (r : CommandReport) (s : State) : Host.Outcome State Fault Refusal :=
  .next (takeCommand actSpec (actBody 5 r) r s)

/-- ACT_SHARE (R180, R153). -/
def execActShare (r : CommandReport) (s : State) : Host.Outcome State Fault Refusal :=
  .next (takeCommand actSpec (actBody 6 r) r s)

/-- ACT_SHARE_SCREEN (R180, R153). -/
def execActShareScreen (r : CommandReport) (s : State) : Host.Outcome State Fault Refusal :=
  .next (takeCommand actSpec (actBody 7 r) r s)

/-- ACT_SHARE_FOR (R180, R154). -/
def execActShareFor (r : CommandReport) (s : State) : Host.Outcome State Fault Refusal :=
  .next (takeCommand actSpec (actBody 8 r) r s)

/-- ACT_UNSHARE (R180, R153). -/
def execActUnshare (r : CommandReport) (s : State) : Host.Outcome State Fault Refusal :=
  .next (takeCommand actSpec (actBody 9 r) r s)

/-- ACT_LOCK (R180, R62). -/
def execActLock (r : CommandReport) (s : State) : Host.Outcome State Fault Refusal :=
  .next (takeCommand actSpec (actBody 10 r) r s)

/-- ACT_UNLOCK (R180, R63). -/
def execActUnlock (r : CommandReport) (s : State) : Host.Outcome State Fault Refusal :=
  .next (takeCommand actSpec (actBody 11 r) r s)

/-- ACT_BROADCAST_TOGGLE (R180, R58). -/
def execActBroadcastToggle (r : CommandReport) (s : State) : Host.Outcome State Fault Refusal :=
  .next (takeCommand actSpec (actBody 12 r) r s)

/-- ACT_BROADCAST_OFF (R180, R59). -/
def execActBroadcastOff (r : CommandReport) (s : State) : Host.Outcome State Fault Refusal :=
  .next (takeCommand actSpec (actBody 13 r) r s)

/-- ACT_HOLD_TOGGLE (R180, R87). -/
def execActHoldToggle (r : CommandReport) (s : State) : Host.Outcome State Fault Refusal :=
  .next (takeCommand actSpec (actBody 14 r) r s)

end Sys2Proof.Machine
end

