-- ==== Sys2Proof/Machine/ConsoleCommands.lean ====
section
/-! DEFINITION. The events of the console link and the timers of the console side. -/

namespace Sys2Proof.Machine

/-- CONSOLE_KEYBOARD_REPORT (R3 to R5). -/
def execConsoleKeyboardReport (slot : Byte) (modifiers : ModifierSet) (fields : Vector Byte 6) (s : State) : Host.Outcome State Fault Refusal :=
  .next (takeKeyboardReport slot modifiers fields.toList s)

/-- CONSOLE_POINTER_REPORT (R3, R6). -/
def execConsolePointerReport (slot : Byte) (buttons : Byte) (dx : BitVec 12) (dy : BitVec 12) (wheel : Byte) (s : State) : Host.Outcome State Fault Refusal :=
  .next (takePointerReport slot buttons dx dy wheel s)

/-- CONSOLE_REPORT_DISCARDED: bytes that cannot be taken are discarded and counted (R3). -/
def execConsoleReportDiscarded (bytes : List Byte) (s : State) : Host.Outcome State Fault Refusal :=
  .next (if cannotBeTaken bytes s then countConsoleError s else s)

/-- DEVICE_ATTACH (R1, R3). -/
def execDeviceAttach (slot : Byte) (deviceClass : Byte) (s : State) : Host.Outcome State Fault Refusal :=
  .next (attachDevice slot deviceClass s)

/-- DEVICE_DETACH (R2, R3). -/
def execDeviceDetach (slot : Byte) (s : State) : Host.Outcome State Fault Refusal := .next (detachEvent slot s)

/-- CONSOLE_LINK_RESTART: a console reset (R19). -/
def execConsoleLinkRestart (s : State) : Host.Outcome State Fault Refusal := .next (resetConsole s)

/-- HELD_KEY_AGEING of the entry of a slot and a usage (R11). -/
def execHeldKeyAgeing (slot : Slot) (usage : Byte) (s : State) : Host.Outcome State Fault Refusal :=
  .next (ageEntry slot usage s)

/-- LEADER_TIMER_EXPIRY (R32). -/
def execLeaderTimerExpiry (s : State) : Host.Outcome State Fault Refusal := .next (expireLeader s)

/-- COMMAND_TIMER_EXPIRY (R35). -/
def execCommandTimerExpiry (s : State) : Host.Outcome State Fault Refusal := .next (expireCommand s)

end Sys2Proof.Machine
end

