-- ==== Sys2Proof/Machine/ControlCommands.lean ====
section
/-! DEFINITION. The commands that set screens and the broadcast set, keep the schedule, clear conditions and counters, reset, save and abort. -/

namespace Sys2Proof.Machine

/-- What R169 checks of SET SCREEN (section 10.6). -/
def setScreenSpec : CommandSpec := fixedLength 0x29#8 2 .operate

/-- What R169 checks of SET BROADCAST (section 10.6). -/
def setBroadcastSpec : CommandSpec := fixedLength 0x2A#8 1 .operate

/-- What R169 checks of SCHEDULE (section 10.6). -/
def scheduleSpec : CommandSpec := fixedLength 0x30#8 7 .operate

/-- What R169 checks of CANCEL: one parameter byte, or five with the due time (section 10.6). -/
def cancelSpec : CommandSpec := { fixedLength 0x31#8 1 .operate with otherLength := 5 }

/-- What R169 checks of CLEAR PORT CONDITIONS (section 10.6). -/
def clearPortConditionsSpec : CommandSpec := fixedLength 0x38#8 1 .operate

/-- What R169 checks of CLEAR COUNTERS (section 10.6). -/
def clearCountersSpec : CommandSpec := fixedLength 0x39#8 0 .operate

/-- What R169 checks of CONSOLE RESET (section 10.6). -/
def consoleResetSpec : CommandSpec := fixedLength 0x40#8 0 .operate

/-- What R169 checks of DESK RESET (section 10.6). -/
def deskResetSpec : CommandSpec := fixedLength 0x41#8 0 .operate

/-- What R169 checks of SAVE (section 10.6). -/
def saveSpec : CommandSpec := fixedLength 0x48#8 0 .configure

/-- What R169 checks of ABORT, which is taken while BUSY too (section 10.6). -/
def abortSpec : CommandSpec := { fixedLength 0x4F#8 0 .operate with whileBusy := true }

/-- SET_SCREEN (R181). -/
def execSetScreen (r : CommandReport) (s : State) : Host.Outcome State Fault Refusal :=
  .next (takeCommand setScreenSpec (setScreenBody r) r s)

/-- SET_BROADCAST (R59). -/
def execSetBroadcast (r : CommandReport) (s : State) : Host.Outcome State Fault Refusal :=
  .next (takeCommand setBroadcastSpec (setBroadcastBody r) r s)

/-- SCHEDULE (R160). -/
def execSchedule (r : CommandReport) (s : State) : Host.Outcome State Fault Refusal :=
  .next (takeCommand scheduleSpec (scheduleBody r) r s)

/-- CANCEL (R165). -/
def execCancel (r : CommandReport) (s : State) : Host.Outcome State Fault Refusal :=
  .next (takeCommand cancelSpec (cancelBody r) r s)

/-- CLEAR_PORT_CONDITIONS (R119). -/
def execClearPortConditions (r : CommandReport) (s : State) : Host.Outcome State Fault Refusal :=
  .next (takeCommand clearPortConditionsSpec (clearConditionsBody r) r s)

/-- CLEAR_COUNTERS (R191). -/
def execClearCounters (r : CommandReport) (s : State) : Host.Outcome State Fault Refusal :=
  .next (takeCommand clearCountersSpec clearCountersBody r s)

/-- CONSOLE_RESET (R19, R181). -/
def execConsoleReset (r : CommandReport) (s : State) : Host.Outcome State Fault Refusal :=
  .next (takeCommand consoleResetSpec consoleResetBody r s)

/-- DESK_RESET (R181, R187). -/
def execDeskReset (r : CommandReport) (memoryAnswers : Bool) (s : State) : Host.Outcome State Fault Refusal :=
  .next (takeCommand deskResetSpec (deskResetBody memoryAnswers) r s)

/-- SAVE (R182, R188). -/
def execSave (r : CommandReport) (s : State) : Host.Outcome State Fault Refusal :=
  .next (takeCommand saveSpec saveBody r s)

/-- ABORT (R174). -/
def execAbort (r : CommandReport) (s : State) : Host.Outcome State Fault Refusal :=
  .next (takeCommand abortSpec abortBody r s)

end Sys2Proof.Machine
end

