-- ==== Sys2Proof/Machine/LinkCommands.lean ====
section
/-! DEFINITION. The events of the computer links and the timers of the ports. -/

namespace Sys2Proof.Machine

/-- PRESENCE_LINE_CHANGE (R101). -/
def execPresenceLineChange (port : Computer) (present : Bool) (s : State) : Host.Outcome State Fault Refusal :=
  .next (changePresence port present s)

/-- PRESENCE_DEBOUNCE_EXPIRY: an arrival or a loss (R101, R102, R106). -/
def execPresenceDebounceExpiry (port : Computer) (s : State) : Host.Outcome State Fault Refusal :=
  .next (expireDebounce port s)

/-- CONFIGURE: ATTACHED to READY (R103). -/
def execConfigure (port : Computer) (s : State) : Host.Outcome State Fault Refusal :=
  .next (moveLink port .attached .ready s)

/-- SUSPEND: READY to SUSPENDED (R104). -/
def execSuspend (port : Computer) (s : State) : Host.Outcome State Fault Refusal :=
  .next (moveLink port .ready .suspended s)

/-- RESUME: SUSPENDED to READY, or the end of a wake attempt (R104, R129). -/
def execResume (port : Computer) (s : State) : Host.Outcome State Fault Refusal := .next (resumePort port s)

/-- BUS_RESET (R105). -/
def execBusReset (port : Computer) (s : State) : Host.Outcome State Fault Refusal := .next (resetBus port s)

/-- POLL (R110, R115). -/
def execPoll (port : Computer) (s : State) : Host.Outcome State Fault Refusal := .next (pollPort port s)

/-- LED_OUTPUT_REPORT (R116). -/
def execLedOutputReport (port : Computer) (leds : Leds) (s : State) : Host.Outcome State Fault Refusal :=
  .next (takeLedReport port leds s)

/-- MANAGEMENT_RESULT_READ (R117, R168). -/
def execManagementResultRead (port : Computer) (s : State) : Host.Outcome State Fault Refusal :=
  .next (readResult port s)

/-- FOREIGN_MANAGEMENT_REPORT: discarded and counted (R117, R120). -/
def execForeignManagementReport (port : Computer) (s : State) : Host.Outcome State Fault Refusal :=
  .next (takeForeign port s)

/-- DESK_MISMATCH: discarded and counted (R167). -/
def execDeskMismatch (port : Computer) (deskMatch : Byte) (s : State) : Host.Outcome State Fault Refusal :=
  .next (takeMismatch port deskMatch s)

/-- ARM_REMOTE_WAKE (R123). -/
def execArmRemoteWake (port : Computer) (s : State) : Host.Outcome State Fault Refusal := .next (armPort port true s)

/-- DISARM_REMOTE_WAKE (R123). -/
def execDisarmRemoteWake (port : Computer) (s : State) : Host.Outcome State Fault Refusal :=
  .next (armPort port false s)

/-- WAKE_TIMER_EXPIRY: the signal again, or a failure (R127, R128). -/
def execWakeTimerExpiry (port : Computer) (s : State) : Host.Outcome State Fault Refusal := .next (expireWake port s)

end Sys2Proof.Machine
end

