-- ==== Sys2Proof/Machine/ModeCommands.lean ====
section
/-! DEFINITION. The commands of the mode word and the mode settings (R177), and of the layout (R179). -/

namespace Sys2Proof.Machine

/-- What R169 checks of SET MODE (section 10.6). -/
def setModeSpec : CommandSpec := fixedLength 0x10#8 1 .configure

/-- What R169 checks of CLEAR MODE (section 10.6). -/
def clearModeSpec : CommandSpec := fixedLength 0x11#8 1 .configure

/-- What R169 checks of WRITE MODE SETTINGS (section 10.6). -/
def writeModeSettingsSpec : CommandSpec := fixedLength 0x12#8 11 .configure

/-- What R169 checks of LAYOUT COMMIT (section 10.6). -/
def layoutCommitSpec : CommandSpec := fixedLength 0x20#8 0 .configure

/-- What R169 checks of LAYOUT REVERT (section 10.6). -/
def layoutRevertSpec : CommandSpec := fixedLength 0x21#8 0 .configure

/-- The mode word with the bits of a mask set (R177). -/
def setBits (word mask : ModeWord) : ModeWord := word ||| mask

/-- The mode word with the bits of a mask cleared (R177). -/
def clearBits (word mask : ModeWord) : ModeWord := word &&& ~~~mask

/-- SET_MODE (R177). -/
def execSetMode (r : CommandReport) (s : State) : Host.Outcome State Fault Refusal :=
  .next (takeCommand setModeSpec (modeBody setBits r) r s)

/-- CLEAR_MODE (R177). -/
def execClearMode (r : CommandReport) (s : State) : Host.Outcome State Fault Refusal :=
  .next (takeCommand clearModeSpec (modeBody clearBits r) r s)

/-- WRITE_MODE_SETTINGS (R177, R26, R11). -/
def execWriteModeSettings (r : CommandReport) (s : State) : Host.Outcome State Fault Refusal :=
  .next (takeCommand writeModeSettingsSpec (modeSettingsBody r) r s)

/-- LAYOUT_COMMIT (R66, R67). -/
def execLayoutCommit (r : CommandReport) (s : State) : Host.Outcome State Fault Refusal :=
  .next (takeCommand layoutCommitSpec layoutCommitBody r s)

/-- LAYOUT_REVERT (R68). -/
def execLayoutRevert (r : CommandReport) (s : State) : Host.Outcome State Fault Refusal :=
  .next (takeCommand layoutRevertSpec layoutRevertBody r s)

end Sys2Proof.Machine
end

