-- ==== Sys2Proof/Machine/PowerCommands.lean ====
section
/-! DEFINITION. Power-on and the millisecond tick. -/

namespace Sys2Proof.Machine

/-- POWER_ON: the image is loaded and every block takes its initial state (R183, R186). -/
def execPowerOn (image : Option (List Byte)) (s : State) : Host.Outcome State Fault Refusal := .next (powerOn image s)

/-- MILLISECOND_TICK: the counter advances by one, and what is due at its new value is taken (R157, R161). -/
def execMillisecondTick (s : State) : Host.Outcome State Fault Refusal := .next (takeDue (advanceClock s))

end Sys2Proof.Machine
end

