-- ==== Sys2Proof/Machine/ReadCommands.lean ====
section
/-! DEFINITION. The commands that read (R155, R176, R190), and a command code that names no command (R169). -/

namespace Sys2Proof.Machine

/-- What R169 checks of READ DESK (section 10.6). -/
def readDeskSpec : CommandSpec := fixedLength 0x01#8 0 .read

/-- What R169 checks of READ PORT (section 10.6). -/
def readPortSpec : CommandSpec := fixedLength 0x02#8 1 .read

/-- What R169 checks of READ SCREEN (section 10.6). -/
def readScreenSpec : CommandSpec := fixedLength 0x03#8 1 .read

/-- What R169 checks of READ INPUT (section 10.6). -/
def readInputSpec : CommandSpec := fixedLength 0x04#8 1 .read

/-- What R169 checks of READ SHARE (section 10.6). -/
def readShareSpec : CommandSpec := fixedLength 0x05#8 0 .read

/-- What R169 checks of READ JOURNAL (section 10.6). -/
def readJournalSpec : CommandSpec := fixedLength 0x06#8 0 .read

/-- The codes of section 10.6's command table. -/
def commandCodes : List Byte :=
  [0x01#8, 0x02#8, 0x03#8, 0x04#8, 0x05#8, 0x06#8, 0x10#8, 0x11#8, 0x12#8, 0x18#8, 0x19#8, 0x1A#8, 0x1B#8, 0x20#8,
    0x21#8, 0x28#8, 0x29#8, 0x2A#8, 0x30#8, 0x31#8, 0x38#8, 0x39#8, 0x40#8, 0x41#8, 0x48#8, 0x4F#8]

/-- A command report with a code that names no command answers BAD_COMMAND (R169); a report whose code names one is
that command's own. -/
def takeBadCommand (code : Byte) (r : CommandReport) (s : State) : State :=
  if reachesEngine r s then
    if code ∈ commandCodes then s
    else writeSlot r.port { tag := r.tag, command := code, result := .badCommand, data := [] } s
  else dropReport r s

/-- READ_DESK (R176). -/
def execReadDesk (r : CommandReport) (s : State) : Host.Outcome State Fault Refusal :=
  .next (takeCommand readDeskSpec readDeskBody r s)

/-- READ_PORT (R176). -/
def execReadPort (r : CommandReport) (s : State) : Host.Outcome State Fault Refusal :=
  .next (takeCommand readPortSpec (readPortBody r) r s)

/-- READ_SCREEN (R155, R176). -/
def execReadScreen (r : CommandReport) (s : State) : Host.Outcome State Fault Refusal :=
  .next (takeCommand readScreenSpec (readScreenBody r) r s)

/-- READ_INPUT (R155, R176). -/
def execReadInput (r : CommandReport) (s : State) : Host.Outcome State Fault Refusal :=
  .next (takeCommand readInputSpec (readInputBody r) r s)

/-- READ_SHARE (R155, R176). -/
def execReadShare (r : CommandReport) (s : State) : Host.Outcome State Fault Refusal :=
  .next (takeCommand readShareSpec readShareBody r s)

/-- READ_JOURNAL (R190). -/
def execReadJournal (r : CommandReport) (s : State) : Host.Outcome State Fault Refusal :=
  .next (takeCommand readJournalSpec readJournalBody r s)

/-- BAD_COMMAND (R169). -/
def execBadCommand (r : CommandReport) (code : Byte) (s : State) : Host.Outcome State Fault Refusal :=
  .next (takeBadCommand code r s)

end Sys2Proof.Machine
end

