-- ==== Sys2Proof/Machine/TableCommands.lean ====
section
/-! DEFINITION. The table access commands (R178), table by table. -/

namespace Sys2Proof.Machine

/-- What R169 checks of TABLE READ (section 10.6). -/
def tableReadSpec : CommandSpec := fixedLength 0x18#8 2 .read

/-- What R169 checks of TABLE WRITE, by the record size of the table (section 10.6). -/
def tableWriteSpec (recordSize : Nat) : CommandSpec := fixedLength 0x19#8 (2 + recordSize) .configure

/-- What R169 checks of TABLE DELETE (section 10.6). -/
def tableDeleteSpec : CommandSpec := fixedLength 0x1A#8 2 .configure

/-- What R169 checks of TABLE SEARCH, by the parameter length that the table asks for (section 10.6). -/
def tableSearchSpec (length : Nat) : CommandSpec := fixedLength 0x1B#8 length .read

/-- What R169 checks of a table access command whose table number names no table: a TABLE WRITE is then taken with any
length from 2 on, and the others with the length that every table has (section 10.6). -/
def unknownTableSpec : TableAccess → CommandSpec
  | .read => tableReadSpec
  | .write => { fixedLength 0x19#8 2 .configure with maxLength := Config.maxParameters }
  | .delete => tableDeleteSpec
  | .search => tableSearchSpec 1

/-- TABLE_NUMBER_UNKNOWN: BAD_ARGUMENT (R178). -/
def execTableNumberUnknown (access : TableAccess) (r : CommandReport) (s : State) : Host.Outcome State Fault Refusal :=
  .next (takeCommand (unknownTableSpec access) refuseArgument r s)

/-- TABLE_READ_HOTKEY (R23). -/
def execTableReadHotkey (r : CommandReport) (s : State) : Host.Outcome State Fault Refusal :=
  .next (takeCommand tableReadSpec (readHotkeyBody r) r s)

/-- TABLE_READ_WINDOW (R90). -/
def execTableReadWindow (r : CommandReport) (s : State) : Host.Outcome State Fault Refusal :=
  .next (takeCommand tableReadSpec (readWindowBody r) r s)

/-- TABLE_READ_PORT_SETTINGS (R178). -/
def execTableReadPortSettings (r : CommandReport) (s : State) : Host.Outcome State Fault Refusal :=
  .next (takeCommand tableReadSpec (readPortSettingsBody r) r s)

/-- TABLE_READ_PRESET (R148). -/
def execTableReadPreset (r : CommandReport) (s : State) : Host.Outcome State Fault Refusal :=
  .next (takeCommand tableReadSpec (readPresetBody r) r s)

/-- TABLE_READ_LAYOUT_STAGED (R65). -/
def execTableReadLayoutStaged (r : CommandReport) (s : State) : Host.Outcome State Fault Refusal :=
  .next (takeCommand tableReadSpec (readStagedBody r) r s)

/-- TABLE_READ_LAYOUT_COMMITTED (R65). -/
def execTableReadLayoutCommitted (r : CommandReport) (s : State) : Host.Outcome State Fault Refusal :=
  .next (takeCommand tableReadSpec (readCommittedBody r) r s)

/-- TABLE_READ_SCHEDULE (R159). -/
def execTableReadSchedule (r : CommandReport) (s : State) : Host.Outcome State Fault Refusal :=
  .next (takeCommand tableReadSpec (readEntryBody r) r s)

/-- TABLE_WRITE_HOTKEY (R25). -/
def execTableWriteHotkey (r : CommandReport) (s : State) : Host.Outcome State Fault Refusal :=
  .next (takeCommand (tableWriteSpec 9) (writeHotkeyBody r) r s)

/-- TABLE_WRITE_WINDOW (R90). -/
def execTableWriteWindow (r : CommandReport) (s : State) : Host.Outcome State Fault Refusal :=
  .next (takeCommand (tableWriteSpec 11) (writeWindowBody r) r s)

/-- TABLE_WRITE_PORT_SETTINGS (R178). -/
def execTableWritePortSettings (r : CommandReport) (s : State) : Host.Outcome State Fault Refusal :=
  .next (takeCommand (tableWriteSpec 3) (writePortSettingsBody r) r s)

/-- TABLE_WRITE_PRESET (R148). -/
def execTableWritePreset (r : CommandReport) (s : State) : Host.Outcome State Fault Refusal :=
  .next (takeCommand (tableWriteSpec 11) (writePresetBody r) r s)

/-- TABLE_WRITE_LAYOUT_STAGED (R65). -/
def execTableWriteLayoutStaged (r : CommandReport) (s : State) : Host.Outcome State Fault Refusal :=
  .next (takeCommand (tableWriteSpec 9) (writeStagedBody r) r s)

/-- TABLE_WRITE_LAYOUT_COMMITTED: the table takes no writes (R65). -/
def execTableWriteLayoutCommitted (r : CommandReport) (s : State) : Host.Outcome State Fault Refusal :=
  .next (takeCommand (tableWriteSpec 9) refuseArgument r s)

/-- TABLE_WRITE_SCHEDULE: the table takes no writes (R159). -/
def execTableWriteSchedule (r : CommandReport) (s : State) : Host.Outcome State Fault Refusal :=
  .next (takeCommand (tableWriteSpec 12) refuseArgument r s)

/-- TABLE_DELETE_HOTKEY (R23). -/
def execTableDeleteHotkey (r : CommandReport) (s : State) : Host.Outcome State Fault Refusal :=
  .next (takeCommand tableDeleteSpec (deleteHotkeyBody r) r s)

/-- TABLE_DELETE_WINDOW: the table takes no deletes (R90). -/
def execTableDeleteWindow (r : CommandReport) (s : State) : Host.Outcome State Fault Refusal :=
  .next (takeCommand tableDeleteSpec refuseArgument r s)

/-- TABLE_DELETE_PORT_SETTINGS: the table takes no deletes (R178). -/
def execTableDeletePortSettings (r : CommandReport) (s : State) : Host.Outcome State Fault Refusal :=
  .next (takeCommand tableDeleteSpec refuseArgument r s)

/-- TABLE_DELETE_PRESET (R148). -/
def execTableDeletePreset (r : CommandReport) (s : State) : Host.Outcome State Fault Refusal :=
  .next (takeCommand tableDeleteSpec (deletePresetBody r) r s)

/-- TABLE_DELETE_LAYOUT_STAGED: the table takes no deletes (R65). -/
def execTableDeleteLayoutStaged (r : CommandReport) (s : State) : Host.Outcome State Fault Refusal :=
  .next (takeCommand tableDeleteSpec refuseArgument r s)

/-- TABLE_DELETE_LAYOUT_COMMITTED: the table takes no deletes (R65). -/
def execTableDeleteLayoutCommitted (r : CommandReport) (s : State) : Host.Outcome State Fault Refusal :=
  .next (takeCommand tableDeleteSpec refuseArgument r s)

/-- TABLE_DELETE_SCHEDULE: the table takes no deletes (R159). -/
def execTableDeleteSchedule (r : CommandReport) (s : State) : Host.Outcome State Fault Refusal :=
  .next (takeCommand tableDeleteSpec refuseArgument r s)

/-- TABLE_SEARCH_HOTKEY (R23). -/
def execTableSearchHotkey (r : CommandReport) (s : State) : Host.Outcome State Fault Refusal :=
  .next (takeCommand (tableSearchSpec 7) (searchHotkeyBody r) r s)

/-- TABLE_SEARCH_WINDOW (R90). -/
def execTableSearchWindow (r : CommandReport) (s : State) : Host.Outcome State Fault Refusal :=
  .next (takeCommand (tableSearchSpec 2) (searchWindowBody r) r s)

/-- TABLE_SEARCH_PORT_SETTINGS: the table takes no searches (R178). -/
def execTableSearchPortSettings (r : CommandReport) (s : State) : Host.Outcome State Fault Refusal :=
  .next (takeCommand (tableSearchSpec 1) refuseArgument r s)

/-- TABLE_SEARCH_PRESET: the table takes no searches (R148). -/
def execTableSearchPreset (r : CommandReport) (s : State) : Host.Outcome State Fault Refusal :=
  .next (takeCommand (tableSearchSpec 1) refuseArgument r s)

/-- TABLE_SEARCH_LAYOUT_STAGED: the table takes no searches (R65). -/
def execTableSearchLayoutStaged (r : CommandReport) (s : State) : Host.Outcome State Fault Refusal :=
  .next (takeCommand (tableSearchSpec 1) refuseArgument r s)

/-- TABLE_SEARCH_LAYOUT_COMMITTED: the table takes no searches (R65). -/
def execTableSearchLayoutCommitted (r : CommandReport) (s : State) : Host.Outcome State Fault Refusal :=
  .next (takeCommand (tableSearchSpec 1) refuseArgument r s)

/-- TABLE_SEARCH_SCHEDULE: the table takes no searches (R159). -/
def execTableSearchSchedule (r : CommandReport) (s : State) : Host.Outcome State Fault Refusal :=
  .next (takeCommand (tableSearchSpec 1) refuseArgument r s)

end Sys2Proof.Machine
end

