-- ==== Sys2Proof/Machine/VideoCommands.lean ====
section
/-! DEFINITION. The events of the video inputs and outputs, the firing of a scheduled entry and the end of a memory write. -/

namespace Sys2Proof.Machine

/-- A signal is found on an input (R136). -/
def findSignal (j : Input) (mode : VideoMode) (s : State) : State :=
  s.setInput j { s.input j with signal := some mode }

/-- The signal of an input is lost (R136). -/
def loseSignal (j : Input) (s : State) : State := s.setInput j { s.input j with signal := none }

/-- A complete frame of an ACTIVE input gives it its next frame number; without a signal there is none (R136). -/
def countFrame (j : Input) (s : State) : State :=
  if (s.input j).signal.isSome then s.setInput j { s.input j with frame := (s.input j).frame + 1#32 } else s

/-- SIGNAL_FOUND (R136). -/
def execSignalFound (input : Input) (mode : VideoMode) (s : State) : Host.Outcome State Fault Refusal :=
  .next (findSignal input mode s)

/-- SIGNAL_LOST (R136). -/
def execSignalLost (input : Input) (s : State) : Host.Outcome State Fault Refusal := .next (loseSignal input s)

/-- FRAME_COMPLETE (R136). -/
def execFrameComplete (input : Input) (s : State) : Host.Outcome State Fault Refusal := .next (countFrame input s)

/-- SINK_ATTACH (R138, R150). -/
def execSinkAttach (output : VideoOutput) (mode : VideoMode) (s : State) : Host.Outcome State Fault Refusal :=
  .next (attachSink output mode s)

/-- SINK_DETACH (R139, R150). -/
def execSinkDetach (output : VideoOutput) (s : State) : Host.Outcome State Fault Refusal :=
  .next (detachSink output s)

/-- FRAME_START (R142 to R145). -/
def execFrameStart (screen : Screen) (s : State) : Host.Outcome State Fault Refusal := .next (startFrame screen s)

/-- SHARE_OUT_FRAME_START (R151). -/
def execShareOutFrameStart (s : State) : Host.Outcome State Fault Refusal := .next (startShareFrame s)

/-- SCHEDULED_ENTRY_FIRE (R161 to R163). -/
def execScheduledEntryFire (index : ScheduleIndex) (s : State) : Host.Outcome State Fault Refusal :=
  .next (fireIfDue index s)

/-- MEMORY_WRITE_COMPLETE (R182, R188). -/
def execMemoryWriteComplete (outcome : WriteOutcome) (s : State) : Host.Outcome State Fault Refusal :=
  .next (endWrite outcome s)

end Sys2Proof.Machine
end

