-- ==== Sys2Proof/Machine/Dispatch.lean ====
section
/-! DEFINITION. One arm for each command: the direct call of its meaning. -/

namespace Sys2Proof.Machine

def exec (i : Instr) (s : State) : Host.Outcome State Fault Refusal :=
  match i with
  | .powerOn image => Sys2Proof.Machine.execPowerOn image s
  | .millisecondTick => Sys2Proof.Machine.execMillisecondTick s
  | .consoleKeyboardReport slot modifiers fields => Sys2Proof.Machine.execConsoleKeyboardReport slot modifiers fields s
  | .consolePointerReport slot buttons dx dy wheel => Sys2Proof.Machine.execConsolePointerReport slot buttons dx dy wheel s
  | .consoleReportDiscarded bytes => Sys2Proof.Machine.execConsoleReportDiscarded bytes s
  | .deviceAttach slot deviceClass => Sys2Proof.Machine.execDeviceAttach slot deviceClass s
  | .deviceDetach slot => Sys2Proof.Machine.execDeviceDetach slot s
  | .consoleLinkRestart => Sys2Proof.Machine.execConsoleLinkRestart s
  | .heldKeyAgeing slot usage => Sys2Proof.Machine.execHeldKeyAgeing slot usage s
  | .leaderTimerExpiry => Sys2Proof.Machine.execLeaderTimerExpiry s
  | .commandTimerExpiry => Sys2Proof.Machine.execCommandTimerExpiry s
  | .presenceLineChange port present => Sys2Proof.Machine.execPresenceLineChange port present s
  | .presenceDebounceExpiry port => Sys2Proof.Machine.execPresenceDebounceExpiry port s
  | .configure port => Sys2Proof.Machine.execConfigure port s
  | .suspend port => Sys2Proof.Machine.execSuspend port s
  | .resume port => Sys2Proof.Machine.execResume port s
  | .busReset port => Sys2Proof.Machine.execBusReset port s
  | .poll port => Sys2Proof.Machine.execPoll port s
  | .ledOutputReport port leds => Sys2Proof.Machine.execLedOutputReport port leds s
  | .managementResultRead port => Sys2Proof.Machine.execManagementResultRead port s
  | .foreignManagementReport port => Sys2Proof.Machine.execForeignManagementReport port s
  | .deskMismatch port deskMatch => Sys2Proof.Machine.execDeskMismatch port deskMatch s
  | .badCommand r code => Sys2Proof.Machine.execBadCommand r code s
  | .armRemoteWake port => Sys2Proof.Machine.execArmRemoteWake port s
  | .disarmRemoteWake port => Sys2Proof.Machine.execDisarmRemoteWake port s
  | .wakeTimerExpiry port => Sys2Proof.Machine.execWakeTimerExpiry port s
  | .signalFound input mode => Sys2Proof.Machine.execSignalFound input mode s
  | .signalLost input => Sys2Proof.Machine.execSignalLost input s
  | .frameComplete input => Sys2Proof.Machine.execFrameComplete input s
  | .sinkAttach output mode => Sys2Proof.Machine.execSinkAttach output mode s
  | .sinkDetach output => Sys2Proof.Machine.execSinkDetach output s
  | .frameStart screen => Sys2Proof.Machine.execFrameStart screen s
  | .shareOutFrameStart => Sys2Proof.Machine.execShareOutFrameStart s
  | .scheduledEntryFire index => Sys2Proof.Machine.execScheduledEntryFire index s
  | .memoryWriteComplete outcome => Sys2Proof.Machine.execMemoryWriteComplete outcome s
  | .readDesk r => Sys2Proof.Machine.execReadDesk r s
  | .readPort r => Sys2Proof.Machine.execReadPort r s
  | .readScreen r => Sys2Proof.Machine.execReadScreen r s
  | .readInput r => Sys2Proof.Machine.execReadInput r s
  | .readShare r => Sys2Proof.Machine.execReadShare r s
  | .readJournal r => Sys2Proof.Machine.execReadJournal r s
  | .setMode r => Sys2Proof.Machine.execSetMode r s
  | .clearMode r => Sys2Proof.Machine.execClearMode r s
  | .writeModeSettings r => Sys2Proof.Machine.execWriteModeSettings r s
  | .tableNumberUnknown access r => Sys2Proof.Machine.execTableNumberUnknown access r s
  | .tableReadHotkey r => Sys2Proof.Machine.execTableReadHotkey r s
  | .tableReadWindow r => Sys2Proof.Machine.execTableReadWindow r s
  | .tableReadPortSettings r => Sys2Proof.Machine.execTableReadPortSettings r s
  | .tableReadPreset r => Sys2Proof.Machine.execTableReadPreset r s
  | .tableReadLayoutStaged r => Sys2Proof.Machine.execTableReadLayoutStaged r s
  | .tableReadLayoutCommitted r => Sys2Proof.Machine.execTableReadLayoutCommitted r s
  | .tableReadSchedule r => Sys2Proof.Machine.execTableReadSchedule r s
  | .tableWriteHotkey r => Sys2Proof.Machine.execTableWriteHotkey r s
  | .tableWriteWindow r => Sys2Proof.Machine.execTableWriteWindow r s
  | .tableWritePortSettings r => Sys2Proof.Machine.execTableWritePortSettings r s
  | .tableWritePreset r => Sys2Proof.Machine.execTableWritePreset r s
  | .tableWriteLayoutStaged r => Sys2Proof.Machine.execTableWriteLayoutStaged r s
  | .tableWriteLayoutCommitted r => Sys2Proof.Machine.execTableWriteLayoutCommitted r s
  | .tableWriteSchedule r => Sys2Proof.Machine.execTableWriteSchedule r s
  | .tableDeleteHotkey r => Sys2Proof.Machine.execTableDeleteHotkey r s
  | .tableDeleteWindow r => Sys2Proof.Machine.execTableDeleteWindow r s
  | .tableDeletePortSettings r => Sys2Proof.Machine.execTableDeletePortSettings r s
  | .tableDeletePreset r => Sys2Proof.Machine.execTableDeletePreset r s
  | .tableDeleteLayoutStaged r => Sys2Proof.Machine.execTableDeleteLayoutStaged r s
  | .tableDeleteLayoutCommitted r => Sys2Proof.Machine.execTableDeleteLayoutCommitted r s
  | .tableDeleteSchedule r => Sys2Proof.Machine.execTableDeleteSchedule r s
  | .tableSearchHotkey r => Sys2Proof.Machine.execTableSearchHotkey r s
  | .tableSearchWindow r => Sys2Proof.Machine.execTableSearchWindow r s
  | .tableSearchPortSettings r => Sys2Proof.Machine.execTableSearchPortSettings r s
  | .tableSearchPreset r => Sys2Proof.Machine.execTableSearchPreset r s
  | .tableSearchLayoutStaged r => Sys2Proof.Machine.execTableSearchLayoutStaged r s
  | .tableSearchLayoutCommitted r => Sys2Proof.Machine.execTableSearchLayoutCommitted r s
  | .tableSearchSchedule r => Sys2Proof.Machine.execTableSearchSchedule r s
  | .layoutCommit r => Sys2Proof.Machine.execLayoutCommit r s
  | .layoutRevert r => Sys2Proof.Machine.execLayoutRevert r s
  | .actFocus r => Sys2Proof.Machine.execActFocus r s
  | .actSelect r => Sys2Proof.Machine.execActSelect r s
  | .actCycle r => Sys2Proof.Machine.execActCycle r s
  | .actWake r => Sys2Proof.Machine.execActWake r s
  | .actApplyPreset r => Sys2Proof.Machine.execActApplyPreset r s
  | .actShare r => Sys2Proof.Machine.execActShare r s
  | .actShareScreen r => Sys2Proof.Machine.execActShareScreen r s
  | .actShareFor r => Sys2Proof.Machine.execActShareFor r s
  | .actUnshare r => Sys2Proof.Machine.execActUnshare r s
  | .actLock r => Sys2Proof.Machine.execActLock r s
  | .actUnlock r => Sys2Proof.Machine.execActUnlock r s
  | .actBroadcastToggle r => Sys2Proof.Machine.execActBroadcastToggle r s
  | .actBroadcastOff r => Sys2Proof.Machine.execActBroadcastOff r s
  | .actHoldToggle r => Sys2Proof.Machine.execActHoldToggle r s
  | .setScreen r => Sys2Proof.Machine.execSetScreen r s
  | .setBroadcast r => Sys2Proof.Machine.execSetBroadcast r s
  | .schedule r => Sys2Proof.Machine.execSchedule r s
  | .cancel r => Sys2Proof.Machine.execCancel r s
  | .clearPortConditions r => Sys2Proof.Machine.execClearPortConditions r s
  | .clearCounters r => Sys2Proof.Machine.execClearCounters r s
  | .consoleReset r => Sys2Proof.Machine.execConsoleReset r s
  | .deskReset r memoryAnswers => Sys2Proof.Machine.execDeskReset r memoryAnswers s
  | .save r => Sys2Proof.Machine.execSave r s
  | .abort r => Sys2Proof.Machine.execAbort r s

end Sys2Proof.Machine
end

