-- ==== Sys2Proof/WellFormed.lean ====
section
/-! DEFINITION. The well-formed commands: operands that the row's event or report can carry. -/

namespace Sys2Proof

/-- The parameters of a command report are at most the 56 bytes that follow its first four (section 10.6). -/
def CommandReport.wellFormed (r : CommandReport) : Bool := decide (r.params.length ≤ Config.maxParameters)

/-- The report's first parameter byte, 0 when there is none. -/
def CommandReport.first (r : CommandReport) : Nat := (r.params.getD 0 0#8).toNat

/-- A command report whose first parameter is the number that makes it the row's: a table's number (R178) or an
action's (R180), as section 10.6 numbers them. -/
def CommandReport.names (r : CommandReport) (number : Nat) : Bool := r.wellFormed && decide (r.first = number)

/-- The number of a table access command names no table (R178). -/
def CommandReport.namesNoTable (r : CommandReport) : Bool :=
  r.wellFormed && !(decide (1 ≤ r.first) && decide (r.first ≤ 7))

/-- A command code of section 10.6. -/
def isCommandCode (code : Byte) : Bool :=
  [0x01#8, 0x02#8, 0x03#8, 0x04#8, 0x05#8, 0x06#8, 0x10#8, 0x11#8, 0x12#8, 0x18#8, 0x19#8, 0x1A#8, 0x1B#8, 0x20#8,
    0x21#8, 0x28#8, 0x29#8, 0x2A#8, 0x30#8, 0x31#8, 0x38#8, 0x39#8, 0x40#8, 0x41#8, 0x48#8, 0x4F#8].contains code

/-- An image is no longer than the configuration image (section 10.6). -/
def imageFits : Option (List Byte) → Bool
  | some bytes => decide (bytes.length ≤ Config.imageLength)
  | none => true

/-- What a failed write leaves lies in the tables section (R188). -/
def WriteOutcome.fits : WriteOutcome → Bool
  | .succeeded => true
  | .failed left => decide (left.length ≤ Config.tablesLength)

/-- A usage that a held-key entry can have: a key of a key set (R4). -/
def isKeyUsage (usage : Byte) : Bool := decide (2 ≤ usage.toNat)

/-- Whether a command's operands can be the row's. An ill-formed command still has its meaning: log entry 6. -/
def Instr.wellFormed : Instr → Bool
  | .powerOn image => imageFits image
  | .heldKeyAgeing _ usage => isKeyUsage usage
  | .badCommand r code => r.wellFormed && !isCommandCode code
  | .memoryWriteComplete outcome => outcome.fits
  | .tableNumberUnknown _ r => r.namesNoTable
  | .tableReadHotkey r | .tableWriteHotkey r | .tableDeleteHotkey r | .tableSearchHotkey r => r.names 1
  | .tableReadWindow r | .tableWriteWindow r | .tableDeleteWindow r | .tableSearchWindow r => r.names 2
  | .tableReadPortSettings r | .tableWritePortSettings r | .tableDeletePortSettings r
  | .tableSearchPortSettings r => r.names 3
  | .tableReadPreset r | .tableWritePreset r | .tableDeletePreset r | .tableSearchPreset r => r.names 4
  | .tableReadLayoutStaged r | .tableWriteLayoutStaged r | .tableDeleteLayoutStaged r
  | .tableSearchLayoutStaged r => r.names 5
  | .tableReadLayoutCommitted r | .tableWriteLayoutCommitted r | .tableDeleteLayoutCommitted r
  | .tableSearchLayoutCommitted r => r.names 6
  | .tableReadSchedule r | .tableWriteSchedule r | .tableDeleteSchedule r | .tableSearchSchedule r => r.names 7
  | .actFocus r => r.names 1
  | .actSelect r => r.names 2
  | .actCycle r => r.names 3
  | .actWake r => r.names 4
  | .actApplyPreset r => r.names 5
  | .actShare r => r.names 6
  | .actShareScreen r => r.names 7
  | .actShareFor r => r.names 8
  | .actUnshare r => r.names 9
  | .actLock r => r.names 10
  | .actUnlock r => r.names 11
  | .actBroadcastToggle r => r.names 12
  | .actBroadcastOff r => r.names 13
  | .actHoldToggle r => r.names 14
  | .readDesk r | .readPort r | .readScreen r | .readInput r | .readShare r | .readJournal r | .setMode r
  | .clearMode r | .writeModeSettings r | .layoutCommit r | .layoutRevert r | .setScreen r | .setBroadcast r
  | .schedule r | .cancel r | .clearPortConditions r | .clearCounters r | .consoleReset r | .deskReset r _ | .save r
  | .abort r => r.wellFormed
  | .millisecondTick | .consoleKeyboardReport _ _ _ | .consolePointerReport _ _ _ _ _ | .consoleReportDiscarded _
  | .deviceAttach _ _ | .deviceDetach _ | .consoleLinkRestart | .leaderTimerExpiry | .commandTimerExpiry
  | .presenceLineChange _ _ | .presenceDebounceExpiry _ | .configure _ | .suspend _ | .resume _ | .busReset _
  | .poll _ | .ledOutputReport _ _ | .managementResultRead _ | .foreignManagementReport _ | .deskMismatch _ _
  | .armRemoteWake _ | .disarmRemoteWake _ | .wakeTimerExpiry _ | .signalFound _ _ | .signalLost _
  | .frameComplete _ | .sinkAttach _ _ | .sinkDetach _ | .frameStart _ | .shareOutFrameStart
  | .scheduledEntryFire _ => true

end Sys2Proof
end

