-- ==== Sys2Proof/Safety.lean ====
section
/-! DEFINITION. What counts as a good state of the part, in the terms that statements use: one invariant for each kind
of state that the rules keep so, and the two forms in which a command report's outcome is stated. -/

namespace Sys2Proof.Safety

open Sys2Proof.Machine

/-! Command reports. -/

/-- A command report that reaches the engine, is meant for this desk and passes R169's checks: a READY port of the
management port set (R117), the desk match (R167), the parameter length, the lock level (R170) and the engine IDLE or
the command one taken while BUSY (R171). -/
abbrev Admitted (length : Nat) (cls : CommandClass) (whileBusy : Bool) (r : CommandReport) (s : State) : Prop :=
  (s.port r.port).link = .ready ∧ inSet s.settings.managementPorts r.port = true ∧
    deskMatches s r.deskMatch = true ∧ r.length.toNat = length ∧ levelAllows s.settings.lockLevel cls = true ∧
    (s.engine = none ∨ whileBusy = true)

/-- The state with a result in the issuing port's slot and nothing else changed (R168). -/
def answered (r : CommandReport) (code : Byte) (result : Result) (data : List Byte) (s : State) : State :=
  s.setPort r.port
    { s.port r.port with slot := some { tag := r.tag, command := code, result := result, data := data } }

/-- The state in which a command report has been deferred: ACCEPTED in the slot and the engine BUSY (R171). -/
def deferred (r : CommandReport) (command : DeferredCommand) (wait : Wait) (skipped : Bool) (s : State) : State :=
  { answered r (deferredCode command) .accepted [] s with
    engine := some { command := command, port := r.port, tag := r.tag, wait := wait, focusSkipped := skipped } }

/-- The command report of a management row and what R169 checks of it; none for the other rows. -/
def commandOf : Instr → Option (CommandReport × CommandSpec)
  | .readDesk r => some (r, readDeskSpec)
  | .readPort r => some (r, readPortSpec)
  | .readScreen r => some (r, readScreenSpec)
  | .readInput r => some (r, readInputSpec)
  | .readShare r => some (r, readShareSpec)
  | .readJournal r => some (r, readJournalSpec)
  | .setMode r => some (r, setModeSpec)
  | .clearMode r => some (r, clearModeSpec)
  | .writeModeSettings r => some (r, writeModeSettingsSpec)
  | .tableNumberUnknown access r => some (r, unknownTableSpec access)
  | .tableReadHotkey r | .tableReadWindow r | .tableReadPortSettings r | .tableReadPreset r
  | .tableReadLayoutStaged r | .tableReadLayoutCommitted r | .tableReadSchedule r => some (r, tableReadSpec)
  | .tableWriteHotkey r | .tableWriteLayoutStaged r | .tableWriteLayoutCommitted r => some (r, tableWriteSpec 9)
  | .tableWriteWindow r | .tableWritePreset r => some (r, tableWriteSpec 11)
  | .tableWritePortSettings r => some (r, tableWriteSpec 3)
  | .tableWriteSchedule r => some (r, tableWriteSpec 12)
  | .tableDeleteHotkey r | .tableDeleteWindow r | .tableDeletePortSettings r | .tableDeletePreset r
  | .tableDeleteLayoutStaged r | .tableDeleteLayoutCommitted r | .tableDeleteSchedule r => some (r, tableDeleteSpec)
  | .tableSearchHotkey r => some (r, tableSearchSpec 7)
  | .tableSearchWindow r => some (r, tableSearchSpec 2)
  | .tableSearchPortSettings r | .tableSearchPreset r | .tableSearchLayoutStaged r | .tableSearchLayoutCommitted r
  | .tableSearchSchedule r => some (r, tableSearchSpec 1)
  | .layoutCommit r => some (r, layoutCommitSpec)
  | .layoutRevert r => some (r, layoutRevertSpec)
  | .actFocus r | .actSelect r | .actCycle r | .actWake r | .actApplyPreset r | .actShare r | .actShareScreen r
  | .actShareFor r | .actUnshare r | .actLock r | .actUnlock r | .actBroadcastToggle r | .actBroadcastOff r
  | .actHoldToggle r => some (r, actSpec)
  | .setScreen r => some (r, setScreenSpec)
  | .setBroadcast r => some (r, setBroadcastSpec)
  | .schedule r => some (r, scheduleSpec)
  | .cancel r => some (r, cancelSpec)
  | .clearPortConditions r => some (r, clearPortConditionsSpec)
  | .clearCounters r => some (r, clearCountersSpec)
  | .consoleReset r => some (r, consoleResetSpec)
  | .deskReset r _ => some (r, deskResetSpec)
  | .save r => some (r, saveSpec)
  | .abort r => some (r, abortSpec)
  | .powerOn _ | .millisecondTick | .consoleKeyboardReport _ _ _ | .consolePointerReport _ _ _ _ _
  | .consoleReportDiscarded _ | .deviceAttach _ _ | .deviceDetach _ | .consoleLinkRestart | .heldKeyAgeing _ _
  | .leaderTimerExpiry | .commandTimerExpiry | .presenceLineChange _ _ | .presenceDebounceExpiry _ | .configure _
  | .suspend _ | .resume _ | .busReset _ | .poll _ | .ledOutputReport _ _ | .managementResultRead _
  | .foreignManagementReport _ | .deskMismatch _ _ | .badCommand _ _ | .armRemoteWake _ | .disarmRemoteWake _
  | .wakeTimerExpiry _ | .signalFound _ _ | .signalLost _ | .frameComplete _ | .sinkAttach _ _ | .sinkDetach _
  | .frameStart _ | .shareOutFrameStart | .scheduledEntryFire _ | .memoryWriteComplete _ => none

/-! Leaving the queueable states. -/

/-- What leaving the queueable states leaves, where `left` is what becomes of port k's record (R107): computer k has no owner
set, no button, an empty last snapshot and no broadcast membership, and the other computers keep theirs; the LED notice is
sent when k is the focus and the value of R21 differs; and a deferred WAKE that waits for k's attempt ends with
NOT_PRESENT in its issuer's slot, where else no other port changes (R12, R17, R60, R130, R132, R168, R175). -/
def LeftQueueable (k : Computer) (left : Port) (s t : State) : Prop :=
  t.port k = left ∧
    (∀ j, j ≠ k →
      ((∃ d, s.engine = some d ∧ d.wait = .wakeOf k ∧ (s.port k).attempt.isSome = true ∧ d.port = j ∧
          s.isManagement j = true ∧
          t.port j =
            { s.port j with
              slot :=
                some { tag := d.tag, command := deferredCode d.command, result := .notPresent, data := [] } }) ∨
        ((∀ d, s.engine = some d → d.wait = .wakeOf k → (s.port k).attempt.isSome = true → d.port = j →
            s.isManagement j = false) ∧
          t.port j = s.port j))) ∧
    t.keys.held = s.keys.held.map (fun e => { e with owners := without e.owners k }) ∧
    t.keys.snapshots.get k = emptySnapshot ∧
    (∀ j, j ≠ k → t.keys.snapshots.get j = s.keys.snapshots.get j) ∧
    (∀ b, t.keys.buttons.get b = if s.keys.buttons.get b = some k then none else s.keys.buttons.get b) ∧
    t.keys.overflow = s.keys.overflow ∧
    t.focusUnit = { s.focusUnit with broadcast := without s.focusUnit.broadcast k } ∧
    t.engine =
      (match s.engine with
       | some d =>
        if d.port = k ∨ (d.wait = .wakeOf k ∧ (s.port k).attempt.isSome = true) then none else some d
       | none => none) ∧
    (s.focusUnit.focus = some k → ledValue t ≠ s.console.ledSent →
      t.sent = s.sent ++ [.ledNotice (ledValue t)] ∧ t.console = { s.console with ledSent := ledValue t }) ∧
    (s.focusUnit.focus ≠ some k ∨ ledValue t = s.console.ledSent → t.sent = s.sent ∧ t.console = s.console) ∧
    t =
      { s with
        sent := t.sent, console := t.console, keys := t.keys, focusUnit := t.focusUnit, ports := t.ports,
        engine := t.engine, journal := t.journal }

/-! The terms in which several statements say what a rule does. -/

/-- What a commit of a source at a screen does at the engine and in the result slots: a deferred command that waits for
the screen has it resolved, kept when the source is the one it asked for and lost otherwise, and ends with SUPERSEDED,
PARTIAL or DONE once every touched screen is resolved; nothing happens when no command waits for the screen (R141, R172). -/
structure CommitTold (sc : Screen) (src : Source) (s t : State) : Prop where
  unconcerned : (∀ d ∈ s.engine, ∀ ts, d.wait = .screens ts →
      ∀ x ∈ ts, ¬ (x.screen = sc ∧ x.resolution = .unresolved)) → t.engine = s.engine ∧ t.ports = s.ports
  waits : ∀ d ts after, s.engine = some d → d.wait = .screens ts →
    (∃ x ∈ ts, x.screen = sc ∧ x.resolution = .unresolved) →
    after =
      ts.map (fun x =>
        if x.screen = sc ∧ x.resolution = .unresolved then
          { x with resolution := if src = x.asked then .kept else .lost }
        else x) →
    ((∃ x ∈ after, x.resolution = .unresolved) →
      t.engine = some { d with wait := .screens after } ∧ t.ports = s.ports) ∧
    ((∀ x ∈ after, x.resolution ≠ .unresolved) →
      t.engine = none ∧ (∀ k, k ≠ d.port → t.port k = s.port k) ∧
        (s.isManagement d.port = true →
          t.port d.port =
            { s.port d.port with
              slot :=
                some
                  { tag := d.tag, command := deferredCode d.command
                    result :=
                      if ∃ x ∈ after, x.resolution = .lost then .superseded
                      else if d.focusSkipped = true then .partly
                      else .done
                    data := [] } }))

/-- The pointer at the centre of a screen, with residues and push record cleared (R72, R73). -/
def centred (sc : Screen) (u : State) : State :=
  { u with
    pointer := { u.pointer with place := some (centreOf sc (u.placement sc)), rx := 0, ry := 0, push := none } }

/-- What a relocation makes of a state with focus f: the pointer on the focus computer's lowest-numbered enterable screen;
else on the lowest-numbered one of the focus domain, with a focus change of cause RELOCATE; else OFF (R85). -/
def Relocated (f : Computer) (u t : State) : Prop :=
  (∀ sc, lowestScreenOf u f = some sc → t = centred sc u) ∧
    (∀ sc c, lowestScreenOf u f = none → lowestScreenNear u f = some sc → screenComputer u sc = some c →
      t = focusChange c .relocate (centred sc u)) ∧
    (lowestScreenOf u f = none → lowestScreenNear u f = none →
      t = { u with pointer := { u.pointer with place := none, rx := 0, ry := 0, push := none } })

/-- The state after an alert is asked for: sent when LOCK_TONES, bit 5 of the mode word, is set (R22, R41). -/
def alerted (kind : AlertKind) (s : State) : State :=
  if s.tables.modeWord.getLsbD 5 = true then { s with sent := s.sent ++ [.alert kind] } else s

/-- The state after a matched hotkey: while the console is locked, any action but UNLOCK is not handed on and the LOCKED
alert is asked for; otherwise the action's owner takes it, and its answer gives ACCEPT or REFUSE (R39 to R41). -/
def fired (h : Hotkey) (s : State) : State :=
  if s.focusUnit.locked = true ∧ h.action ≠ .unlock then alerted .locked s
  else
    let a := runAction h.action .hotkey s
    alerted
      (if a.answer = .ok ∨ a.answer = .accepted ∨ a.answer = .done ∨ a.answer = .partly then .accept else .refuse)
      a.state

/-- The hotkey table's entry with a trigger: the lowest-numbered slot that holds it. -/
def HasEntry (s : State) (t : Trigger) (h : Hotkey) : Prop :=
  ∃ n, s.hotkey n = some h ∧ h.trigger = t ∧ ∀ m, m < n → ∀ g, s.hotkey m = some g → g.trigger ≠ t

/-- No slot of the hotkey table holds the trigger. -/
def HasNoEntry (s : State) (t : Trigger) : Prop := ∀ n g, s.hotkey n = some g → g.trigger ≠ t

/-- A claimed press as the key ownership unit enters it: suppressed and with no owner, or counted as an overflow when the
table is full; and the report's key set as its slot's previous state (R5, R8, R9). -/
def claimedPress (i : Slot) (u : Byte) (modifiers : ModifierSet) (keys : List Byte) (s : State) : State :=
  { s with
    console := { s.console with slots := s.console.slots.set i.val (some (.keyboard modifiers keys)) i.isLt }
    keys :=
      if s.keys.held.length < 24 then
        { s.keys with
          held :=
            s.keys.held ++
              [{ slot := i, usage := u, owners := 0#8, suppressed := true, stale := false, pressTime := s.clock }] }
      else { s.keys with overflow := min (s.keys.overflow + 1) 65535 } }

/-- A press that the recognizer does not claim goes to the key ownership unit, with the report's key set as its slot's
previous state (R5, R8). -/
def plainPress (i : Slot) (u : Byte) (modifiers : ModifierSet) (keys : List Byte) (s : State) : State :=
  (takePress i u false s).setSlot i (some (.keyboard modifiers keys))

/-- The button owner records after a pointer report: a release clears its record, a press takes the glide target when its
port is queueable, and the others stay (R16, R17). -/
def ButtonsTaken (before now : ButtonSet) (target : Option Computer) (s : State)
    (owners : Vector (Option Computer) 5) : Prop :=
  ∀ b : Fin 5, owners.get b =
    if before.getLsbD b.val = true ∧ now.getLsbD b.val = false then none
    else if now.getLsbD b.val = true ∧ before.getLsbD b.val = false then target.filter s.queueable
    else s.keys.buttons.get b

/-- A pointer report with no new position and no motion, in the form of the port: its last absolute pair, or the middle
while that is absent, or zero motion (R18, R92, R96). -/
def quietReport (s : State) (k : Computer) (buttons : ButtonSet) (wheel : Int) : Report :=
  match (s.settingsOf k).form with
  | .absolute =>
    .absolute ((s.port k).lastPair.getD (16384, 16384)).1 ((s.port k).lastPair.getD (16384, 16384)).2 buttons wheel
  | .relative => .relative 0 0 buttons wheel

/-- A pointer report's effect beside the glide target's own report: the slot's previous state, the owner records, the
pointer record given, and the report of R18 for each computer other than the target whose buttons changed (R6, R18). -/
def PointerReportFrame (i : Slot) (now : ButtonSet) (owners : Vector (Option Computer) 5) (target : Option Computer)
    (pointer : Pointer) (s t : State) : Prop :=
  t =
      { s with
        console := { s.console with slots := s.console.slots.set i.val (some (.pointer now)) i.isLt }
        keys := { s.keys with buttons := owners }
        pointer := pointer
        ports := t.ports } ∧
    ∀ k, target ≠ some k →
      t.port k =
        if buttonsIn s.keys.buttons k = buttonsIn owners k then s.port k
        else offerTo (quietReport s k (buttonsIn owners k) 0) (s.port k)

/-- The state after a hand-over of a place for computer k with no button change: an absolute report is offered when the
place's pair differs from the last one or the wheel is not 0 (R93, R95). -/
def handedOn (k : Computer) (wheel : Int) (p : Place) (t : State) : State :=
  match intendedOf (t.screen p.screen) with
  | none => t
  | some j =>
    let pair := mapPair (t.window j) (t.placement p.screen) p
    if t.queueable k = true ∧ ((t.port k).lastPair ≠ some pair ∨ wheel ≠ 0) then
      offer k (.absolute pair.1 pair.2 (t.buttonsOf k) wheel) t
    else t

/-! Invariants. -/

/-- The lists and counters stay within their figures: the held-key table (R7), the journal (R189) and the saturating
counters (R191). -/
structure Bounded (s : State) : Prop where
  held        : s.keys.held.length ≤ 24
  journal     : s.journal.records.length ≤ 32
  errors      : s.console.errors ≤ 65535
  overflow    : s.keys.overflow ≤ 65535
  foreign     : s.foreign ≤ 65535
  mismatches  : s.mismatches ≤ 65535
  resync      : ∀ k, (s.port k).resyncCount ≤ 65535
  repeats     : ∀ sc, (s.screen sc).repeats ≤ 65535
  skips       : ∀ sc, (s.screen sc).skips ≤ 65535
  shareRepeat : s.video.share.repeats ≤ 65535
  shareSkip   : s.video.share.skips ≤ 65535

/-- The sensed presence is absent exactly in DETACHED (R102). -/
def PresenceAgrees (p : Port) : Prop := p.sensed = false ↔ p.link = .detached

/-- What holds of one port record: the queue holds at most 8 reports; a port that is not queueable holds none, no RESYNC
and no last absolute pair; the sensed presence agrees with the link (R102, R107, R108). -/
structure PortSettled (p : Port) : Prop where
  presence : PresenceAgrees p
  length : p.queue.length ≤ 8
  queue  : p.link.queueable = false → p.queue = []
  resync : p.link.queueable = false → p.resync = none
  pair   : p.link.queueable = false → p.lastPair = none

/-- Every port record is settled. -/
def PortsSettled (s : State) : Prop := ∀ k, PortSettled (s.port k)

/-- What holds of a wake attempt: it exists exactly while the link is WAKING, the port is armed then, and the signals
sent are at least one and at most its retry limit plus one (R122); the sensed presence agrees with the link (R102). -/
structure WakeSettled (p : Port) : Prop where
  presence : PresenceAgrees p
  attempt : p.link = .waking ↔ p.attempt.isSome = true
  armed   : p.link = .waking → p.armed = true
  signals : ∀ a ∈ p.attempt, 1 ≤ a.signals ∧ a.signals ≤ a.retryLimit + 1

/-- Every port's wake state is settled. -/
def WakesSettled (s : State) : Prop := ∀ k, WakeSettled (s.port k)

/-- A port outside the management port set has an EMPTY result slot (R168). -/
def SlotsManaged (s : State) : Prop := ∀ k, s.isManagement k = false → (s.port k).slot = none

/-- The broadcast set keeps to the focus domain, to queueable ports, and away from the focus (R58). -/
def BroadcastFenced (s : State) : Prop :=
  ∀ k, inSet s.focusUnit.broadcast k = true →
    s.focusUnit.focus ≠ some k ∧ s.focusUnit.focus.map s.domainOf = some (s.domainOf k) ∧ s.queueable k = true

/-- Held keys and buttons never reach two domains: every owner is queueable, a suppressed or stale entry has none, the
owners of one entry share one domain, the broadcast set is fenced, and the sensed presence agrees with the link (R7, R8,
R58, R102, R107). -/
structure OwnersFenced (s : State) : Prop where
  presence   : ∀ k, PresenceAgrees (s.port k)
  queueable  : ∀ e ∈ s.keys.held, ∀ k, inSet e.owners k = true → s.queueable k = true
  suppressed : ∀ e ∈ s.keys.held, e.suppressed = true ∨ e.stale = true → e.owners = 0#8
  oneDomain  : ∀ e ∈ s.keys.held, ∀ j k, inSet e.owners j = true → inSet e.owners k = true →
    s.domainOf j = s.domainOf k
  buttons    : ∀ b k, s.keys.buttons.get b = some k → s.queueable k = true
  broadcast  : BroadcastFenced s

/-- The held-key table never holds two entries with the same slot and usage (R7). -/
def HeldDistinct (held : List HeldKey) : Prop := held.Pairwise (fun a b => ¬ (a.slot = b.slot ∧ a.usage = b.usage))

/-- The table has no double entries, and every computer's last snapshot is the one that the table gives (R7, R12, R15). -/
structure SnapshotsCurrent (s : State) : Prop where
  distinct : HeldDistinct s.keys.held
  current  : ∀ k, s.keys.snapshots.get k = s.snapshot k

/-- The console LED notice last sent carries the value of R21. -/
def LedsCurrent (s : State) : Prop := s.console.ledSent = ledValue s

/-- What holds of one screen record: a pending source only with a sink, no content without a sink, no border without
content (R137). -/
structure ScreenSettled (r : ScreenRecord) : Prop where
  pending : r.sink = none → r.pending = none
  shown   : r.sink = none → r.shown = none
  border  : r.shown = none → r.border = .noBorder

/-- Every screen record is settled, and X shows nothing without a sink (R137, R150). -/
def ScreensSettled (s : State) : Prop :=
  (∀ sc, ScreenSettled (s.screen sc)) ∧ (s.video.share.sink = none → s.video.share.shown = none)

/-- While the pointer is ON its screen is an enterable screen of the focus computer, and a headless focus has it OFF
(R72). -/
def PointerOnFocus (s : State) : Prop :=
  (∀ p ∈ s.pointer.place, isFocusScreen s p.screen = true) ∧ (s.pointer.headless = true → s.pointer.place = none)

/-- A place inside an enabled placement. -/
def inside (box : Placement) (p : Place) : Prop :=
  box.enabled = true ∧ box.x0 ≤ p.x ∧ p.x < box.x0 + box.w ∧ box.y0 ≤ p.y ∧ p.y < box.y0 + box.h

/-- The committed layout passes the checks of R66, and the pointer's position lies inside its screen's rectangle
(R66, R72). -/
def PointerInside (s : State) : Prop :=
  layoutFault s.tables.committed = none ∧ ∀ p ∈ s.pointer.place, inside (s.placement p.screen) p

/-- Every window lies inside the absolute space (R89). -/
def WindowsInside (s : State) : Prop :=
  ∀ j, 1 ≤ (s.window j).ww ∧ (s.window j).wx0 + (s.window j).ww ≤ 32768 ∧ 1 ≤ (s.window j).wh ∧
    (s.window j).wy0 + (s.window j).wh ≤ 32768

/-- No two occupied hotkey slots have one trigger, no LEADER sequence is a proper prefix of another, and no CHORD key is
the leader key (R23, R25, R26). -/
structure HotkeysSound (s : State) : Prop where
  distinct : ∀ i j, i ≠ j → ∀ h ∈ s.hotkey i, ∀ g ∈ s.hotkey j, h.trigger ≠ g.trigger
  begun    : ∀ i j, ∀ h ∈ s.hotkey i, ∀ g ∈ s.hotkey j, ∀ keys, h.trigger = .leader keys → isBegun keys g = false
  chords   : ∀ i, ∀ h ∈ s.hotkey i, ∀ m key, h.trigger = .chord m key → key ≠ s.tables.modeSettings.leaderKey

/-- The configuration memory is in its canonical form. -/
def MemoryCanonical (s : State) : Prop := memoryWf s.image.memory

/-- Nothing that a block could show of a domain reaches X against the settings: X's content is no frame of an input whose
domain is not permitted (R151). -/
def ShareOutPermits (s : State) (shown : Option Content) : Prop :=
  ∀ j n, shown = some (.frame j n) → domainPermitted s (inputDomain s j) = true

end Sys2Proof.Safety
end

