-- ==== Sys2Proof/Certificates/Slice0/Obligations.lean ====
section
/-! DEFINITION. The statements for the provers: what each command does, and what every step keeps. -/

open Sys2Proof Sys2Proof.Machine Sys2Proof.Safety

/-! The queue, power-on and time. -/

/-- A step carries out the command at the front of the queue with the queue's rest, and an empty queue idles. The queue
is the model's own (log entry 1). -/
def Obligations.StepTakesFrontCommand : Prop :=
  (∀ (c : Instr) (rest : List Instr) (s : State),
      step { s with pending := c :: rest } = exec c { s with pending := rest }) ∧
    ∀ s : State, s.pending = [] → step s = .next s

/-- Every command completes in every state, with no fault and no refusal, and leaves the waiting commands, the model's
own queue (log entry 1), alone. -/
def Obligations.CommandsCompleteAndKeepQueue : Prop :=
  ∀ (c : Instr) (s : State), ∃ t, exec c s = .next t ∧ t.pending = s.pending

/-- POWER_ON: both sections are loaded from what the memory gave, the flags describe that load, and every block takes
its state of R186's table. After power was lost during a write of the tables section the check of that section does not
agree, and the tables take the defaults (R188); what the section then holds, and otherwise that the memory's content is the
operand's, is log entry 13. A presence line keeps its level and the model's own fields stay (log entry 14). -/
def Obligations.PowerOnStartsEveryBlock : Prop :=
  ∀ (image : Option (List Byte)) (s : State), ∃ t, exec (.powerOn image) s = .next t ∧
    (∀ bytes, image = some bytes → ∀ a,
      s.image.writing = none ∨ a ≠ 690 ∨ sectionValid ((List.range 670).map (fun i => byteAt bytes (22 + i))) = false →
      readCell t.image.memory a = byteAt bytes a) ∧
    (image = none → s.image.writing = none → t.image.memory = s.image.memory) ∧
    (image = none → ∀ a, a < 22 ∨ 692 ≤ a → readCell t.image.memory a = readCell s.image.memory a) ∧
    (s.image.writing ≠ none →
      sectionValid (readBlock t.image.memory 22 670) = false ∧ t.tables = tablesFrom none ∧
        t.image.tablesInvalid = true ∧ ∀ sc, t.screen sc = emptyScreen ((sourcesFrom none).get sc)) ∧
    t.settings = settingsFrom (image.map (fun _ => imageOf t.image.memory)) ∧
    t.tables = tablesFrom (image.map (fun _ => imageOf t.image.memory)) ∧
    t.image.settingsInvalid = (validSettings (image.map (fun _ => imageOf t.image.memory))).isNone ∧
    t.image.tablesInvalid = (validTables (image.map (fun _ => imageOf t.image.memory))).isNone ∧
    t.image.writing = none ∧ t.image.saveFailed = false ∧ t.clock = 0#32 ∧
    (∀ k, t.port k =
      { emptyPort with
        raw := (s.port k).raw, debounce := if (s.port k).raw = true then some 32#32 else none }) ∧
    t.console = emptyConsole ∧ t.keys = emptyKeys ∧ t.recognizer = .idle ∧
    t.focusUnit = { focus := t.tables.modeSettings.initialFocus, broadcast := 0#8, locked := false } ∧
    t.pointer = offPointer ∧ (∀ j, t.input j = emptyInput) ∧
    (∀ sc, t.screen sc =
      emptyScreen ((sourcesFrom (image.map (fun _ => imageOf t.image.memory))).get sc)) ∧
    t.video.share = emptyShare ∧ (∀ i, t.entry i = none) ∧ t.engine = none ∧ t.journal = emptyJournal ∧
    t.foreign = 0 ∧ t.mismatches = 0 ∧ t.pending = s.pending ∧ t.sent = s.sent ∧
    t.freeUses = if s.image.writing = none then s.freeUses else s.freeUses + 1

/-- The reset state is the state after a power-on with a blank memory, and it is good in every sense of Safety.lean.
That the reset memory is blank is log entry 2, and that the reset state is this one is log entry 20. -/
def Obligations.ResetIsBlankPowerOnAndGood : Prop :=
  exec (.powerOn (some [])) State.reset = .next State.reset ∧
    Bounded State.reset ∧ PortsSettled State.reset ∧ WakesSettled State.reset ∧ SlotsManaged State.reset ∧
    OwnersFenced State.reset ∧
    SnapshotsCurrent State.reset ∧ LedsCurrent State.reset ∧ ScreensSettled State.reset ∧
    PointerOnFocus State.reset ∧ PointerInside State.reset ∧ WindowsInside State.reset ∧
    HotkeysSound State.reset ∧ MemoryCanonical State.reset

/-- MILLISECOND_TICK: the counter advances by one modulo 2^32, and what is due at its new value is taken, each expiry once
and whole before the next, in an order that the rules leave free (R157, R161, R164; log entry 4); when nothing is due at
the new value nothing else changes; and after a tick no scheduled entry is due, so that a read's time remaining is 1 or
more (R159). The count of free values drawn is the model's own (log entry 3). -/
def Obligations.TickAdvancesClock : Prop :=
  (∀ s u : State, u = { s with clock := s.clock + 1#32 } → ∃ (order : List Expiry) (t : State),
    order.Perm (dueNow u) ∧ exec .millisecondTick s = .next t ∧ t.clock = s.clock + 1#32 ∧
      t = order.foldl takeExpiry { u with freeUses := s.freeUses + order.length }) ∧
  (∀ s u : State, u = { s with clock := s.clock + 1#32 } →
    (∀ i e, u.recognizer = .tap1Down i e ∨ u.recognizer = .tap1Up i e ∨ u.recognizer = .tap2Down i e →
      (u.clock - e).toInt < 0) →
    (∀ buffer e, u.recognizer = .command buffer e → (u.clock - e).toInt < 0) →
    (∀ e ∈ u.keys.held, hasAged u e = false) →
    (∀ k, ∀ e ∈ (u.port k).debounce, (u.clock - e).toInt < 0) →
    (∀ k, ∀ a ∈ (u.port k).attempt, (u.clock - a.expiry).toInt < 0) →
    (∀ i, ∀ e ∈ u.entry i, (u.clock - e.due).toInt < 0) →
    exec .millisecondTick s = .next u) ∧
  ∀ s t : State, (∀ i, ∀ e ∈ s.entry i, ∀ n, e.action = .shareFor n → 1 ≤ n ∧ n ≤ 3600) →
    exec .millisecondTick s = .next t → ∀ i, ∀ e ∈ t.entry i, (t.clock - e.due).toInt < 0

/-- Only the tick and power-on move the counter (R157), and only power-on and DESK RESET change the settings block's
values: the lock level, the domains, the crossing matrix and the management port set (R43, R170, R184). -/
def Obligations.ClockAndSettingsStand : Prop :=
  ∀ (c : Instr) (s t : State), exec c s = .next t → (∀ image, c ≠ .powerOn image) →
    (c ≠ .millisecondTick → t.clock = s.clock) ∧ ((∀ r b, c ≠ .deskReset r b) → t.settings = s.settings)

/-! The console link. -/

/-- What arrives on the console link and cannot be taken is discarded and counted (R3): a report for a slot that is not
of its class, bytes of no kind, or bytes of one of the five kinds with another length (the lengths are log entry 16). A rollover report
changes nothing and is not counted (R4). -/
def Obligations.UntakenConsoleReports : Prop :=
  ∀ (slot : Byte) (s t : State),
    t = { s with console := { s.console with errors := min (s.console.errors + 1) 65535 } } →
    (∀ m fields, (∀ i oldM oldK, indexOf? 4 slot.toNat = some i → s.slotDevice i ≠ some (.keyboard oldM oldK)) →
      exec (.consoleKeyboardReport slot m fields) s = .next t) ∧
    (∀ b dx dy w, (∀ i old, indexOf? 4 slot.toNat = some i → s.slotDevice i ≠ some (.pointer old)) →
      exec (.consolePointerReport slot b dx dy w) s = .next t) ∧
    (∀ bytes : List Byte,
      (byteAt bytes 0).toNat = 0 ∨ 5 < (byteAt bytes 0).toNat ∨ (byteAt bytes 0 = 1#8 ∧ bytes.length ≠ 9) ∨
        (byteAt bytes 0 = 2#8 ∧ bytes.length ≠ 7) ∨ (byteAt bytes 0 = 3#8 ∧ bytes.length ≠ 3) ∨
        (byteAt bytes 0 = 4#8 ∧ bytes.length ≠ 2) ∨ (byteAt bytes 0 = 5#8 ∧ bytes.length ≠ 2) →
      exec (.consoleReportDiscarded bytes) s = .next t) ∧
    (∀ m i oldM oldK, indexOf? 4 slot.toNat = some i → s.slotDevice i = some (.keyboard oldM oldK) →
      exec (.consoleKeyboardReport slot m (Vector.replicate 6 1#8)) s = .next s)

/-- CONSOLE_KEYBOARD_REPORT: whatever the report's transitions lead to, its key set becomes the slot's previous state
(R5), the other slots stay, and no transition touches the counter, the settings, the memory or the error counters. -/
def Obligations.KeyboardReportBecomesPreviousState : Prop :=
  ∀ (slot : Byte) (i : Slot) (modifiers oldM : ModifierSet) (fields : Vector Byte 6) (oldK : List Byte) (s : State),
    indexOf? 4 slot.toNat = some i → s.slotDevice i = some (.keyboard oldM oldK) → isRollover fields.toList = false →
    ∃ t, exec (.consoleKeyboardReport slot modifiers fields) s = .next t ∧
      t.slotDevice i = some (.keyboard (reportModifiers modifiers fields.toList) (reportKeys fields.toList)) ∧
      (∀ j, j ≠ i → t.slotDevice j = s.slotDevice j) ∧ t.console.errors = s.console.errors ∧ t.clock = s.clock ∧
      t.settings = s.settings ∧ t.image = s.image ∧ t.foreign = s.foreign ∧ t.mismatches = s.mismatches

/-- A key pressed alone on an idle, unlocked desk is entered for the focus computer, which receives the snapshot (R5, R8,
R14, R15); when its port is SUSPENDED, armed and set to wake on a key, the wake request follows (R13, R125), and
otherwise nothing else changes. Let go alone, the key leaves the table and the computer receives the empty snapshot (R10). -/
def Obligations.PlainKeyReachesFocus : Prop :=
  ∀ (slot : Byte) (i : Slot) (f : Computer) (u : Byte) (time : Millis) (s : State),
    indexOf? 4 slot.toNat = some i → 2 ≤ u.toNat → isModifier u = false → u ≠ s.tables.modeSettings.leaderKey →
    s.queueable f = true → (s.port f).resync = none → (s.port f).queue.length < 8 →
    (s.recognizer = .idle → (∀ h ∈ hotkeyList s.tables.hotkeys, h.trigger ≠ .chord 0#8 u) →
      s.focusUnit.locked = false → s.focusUnit.focus = some f → s.focusUnit.broadcast = 0#8 →
      s.slotDevice i = some (.keyboard 0#8 []) → s.keys.held = [] → s.keys.snapshots.get f = emptySnapshot →
      ∀ t : State,
        t =
          { s with
            console := { s.console with slots := s.console.slots.set i.val (some (.keyboard 0#8 [u])) i.isLt }
            keys :=
              { s.keys with
                held :=
                  [{ slot := i, usage := u, owners := single f, suppressed := false, stale := false,
                     pressTime := s.clock }]
                snapshots :=
                  s.keys.snapshots.set f.val
                    { modifiers := 0#8, fields := #v[u, 0#8, 0#8, 0#8, 0#8, 0#8] } f.isLt }
            ports :=
              s.ports.set f.val
                { s.port f with
                  queue :=
                    (s.port f).queue ++
                      [.keyboard { modifiers := 0#8, fields := #v[u, 0#8, 0#8, 0#8, 0#8, 0#8] }] } f.isLt } →
        exec (.consoleKeyboardReport slot 0#8 #v[u, 0#8, 0#8, 0#8, 0#8, 0#8]) s =
          .next
            (if (s.port f).link = .suspended ∧ (s.port f).armed = true ∧ (s.settingsOf f).wakeOnKey = true then
              record (.wakeSent f)
                { t.setPort f
                    { t.port f with
                      link := .waking
                      attempt :=
                        some
                          { signals := 1, retryLimit := (s.settingsOf f).retries
                            timeout := (s.settingsOf f).timeout
                            expiry := s.clock + BitVec.ofNat 32 (1000 * (s.settingsOf f).timeout) } } with
                  sent := s.sent ++ [.wakeSignal f] }
             else t)) ∧
    (s.slotDevice i = some (.keyboard 0#8 [u]) →
      s.keys.held =
        [{ slot := i, usage := u, owners := single f, suppressed := false, stale := false, pressTime := time }] →
      s.keys.snapshots.get f = { modifiers := 0#8, fields := #v[u, 0#8, 0#8, 0#8, 0#8, 0#8] } →
      exec (.consoleKeyboardReport slot 0#8 (Vector.replicate 6 0#8)) s =
        .next
          { s with
            console := { s.console with slots := s.console.slots.set i.val (some (.keyboard 0#8 [])) i.isLt }
            keys := { s.keys with held := [], snapshots := s.keys.snapshots.set f.val emptySnapshot f.isLt }
            ports :=
              s.ports.set f.val
                { s.port f with queue := (s.port f).queue ++ [.keyboard emptySnapshot] } f.isLt })

/-- The recognizer at keyboard reports of one press or one release. Leader taps on one slot go through the tap states into
COMMAND and claim nothing (R29, R30); both timers return it to IDLE when due (R32, R35, R36; not due: log entry 5). In
COMMAND every press is claimed: a modifier changes nothing, Escape ends the state, any other usage fires its entry, waits
for more, or asks for REFUSE (R33, R34). Outside COMMAND a chord of the held modifiers fires and claims its key, and any
other press goes on (R31, R37, R38). A match while locked is R39's, the alerts R41's. That a LEADER entry fires before
IDLE is entered is log entry 7. -/
def Obligations.RecognizerSteps : Prop :=
  (∀ (i : Slot) (e : Millis) (s : State),
    let key := s.tables.modeSettings.leaderKey
    let window := s.clock + BitVec.ofNat 32 s.tables.modeSettings.leaderWindow
    (s.recognizer = .idle → recognizePress i key s = ({ s with recognizer := .tap1Down i window }, false)) ∧
    (s.recognizer = .tap1Down i e → recognizeRelease i key s = { s with recognizer := .tap1Up i window }) ∧
    (s.recognizer = .tap1Up i e → recognizePress i key s = ({ s with recognizer := .tap2Down i window }, false)) ∧
    (s.recognizer = .tap2Down i e →
      recognizeRelease i key s =
        refreshLeds
          { s with
            recognizer := .command [] (s.clock + BitVec.ofNat 32 s.tables.modeSettings.commandWindow) })) ∧
  (∀ (i : Slot) (e : Millis) (s : State),
    s.recognizer = .tap1Down i e ∨ s.recognizer = .tap1Up i e ∨ s.recognizer = .tap2Down i e →
    exec .leaderTimerExpiry s = .next (if 0 ≤ (s.clock - e).toInt then { s with recognizer := .idle } else s)) ∧
  (∀ (buffer : List Byte) (e : Millis) (s : State), s.recognizer = .command buffer e →
    exec .commandTimerExpiry s =
      .next (if 0 ≤ (s.clock - e).toInt then refreshLeds { s with recognizer := .idle } else s)) ∧
  (∀ s : State,
    (s.recognizer = .idle → exec .leaderTimerExpiry s = .next s) ∧
    ((∀ buffer e, s.recognizer ≠ .command buffer e) → exec .commandTimerExpiry s = .next s)) ∧
  ∀ (slot : Byte) (i : Slot) (m : ModifierSet) (u : Byte) (s : State),
    indexOf? 4 slot.toNat = some i → 2 ≤ u.toNat →
    (s.slotDevice i = some (.keyboard m []) → isModifier u = false →
      (u = s.tables.modeSettings.leaderKey →
        (s.recognizer = .idle ∨
            (∃ j e, j ≠ i ∧
              (s.recognizer = .tap1Down j e ∨ s.recognizer = .tap1Up j e ∨ s.recognizer = .tap2Down j e)) →
          exec (.consoleKeyboardReport slot m #v[u, 0#8, 0#8, 0#8, 0#8, 0#8]) s =
            .next
              (plainPress i u m [u]
                { s with
                  recognizer :=
                    .tap1Down i (s.clock + BitVec.ofNat 32 s.tables.modeSettings.leaderWindow) })) ∧
        ∀ e, s.recognizer = .tap1Up i e →
          exec (.consoleKeyboardReport slot m #v[u, 0#8, 0#8, 0#8, 0#8, 0#8]) s =
            .next
              (plainPress i u m [u]
                { s with
                  recognizer :=
                    .tap2Down i (s.clock + BitVec.ofNat 32 s.tables.modeSettings.leaderWindow) })) ∧
      (u ≠ s.tables.modeSettings.leaderKey → (∀ buffer e, s.recognizer ≠ .command buffer e) →
        (HasNoEntry s (.chord (modifiersOf s.keys.held) u) →
          exec (.consoleKeyboardReport slot m #v[u, 0#8, 0#8, 0#8, 0#8, 0#8]) s =
            .next (plainPress i u m [u] { s with recognizer := .idle })) ∧
        ∀ h, HasEntry s (.chord (modifiersOf s.keys.held) u) h →
          (∀ e ∈ s.keys.held, ¬ (e.slot = i ∧ e.usage = u)) →
          exec (.consoleKeyboardReport slot m #v[u, 0#8, 0#8, 0#8, 0#8, 0#8]) s =
            .next (claimedPress i u m [u] (fired h { s with recognizer := .idle }))) ∧
      ∀ buffer e, s.recognizer = .command buffer e → (∀ x ∈ s.keys.held, ¬ (x.slot = i ∧ x.usage = u)) →
        (u = 41#8 →
          exec (.consoleKeyboardReport slot m #v[u, 0#8, 0#8, 0#8, 0#8, 0#8]) s =
            .next (claimedPress i u m [u] (refreshLeds { s with recognizer := .idle }))) ∧
        (u ≠ 41#8 →
          (∀ h, HasEntry s (.leader (buffer ++ [u])) h →
            exec (.consoleKeyboardReport slot m #v[u, 0#8, 0#8, 0#8, 0#8, 0#8]) s =
              .next (claimedPress i u m [u] (refreshLeds { fired h s with recognizer := .idle }))) ∧
          (HasNoEntry s (.leader (buffer ++ [u])) →
            ((∃ n h more, s.hotkey n = some h ∧ more ≠ [] ∧ h.trigger = .leader (buffer ++ [u] ++ more)) →
              exec (.consoleKeyboardReport slot m #v[u, 0#8, 0#8, 0#8, 0#8, 0#8]) s =
                .next
                  (claimedPress i u m [u]
                    { s with
                      recognizer :=
                        .command (buffer ++ [u])
                          (s.clock + BitVec.ofNat 32 s.tables.modeSettings.commandWindow) })) ∧
            ((∀ n h more, s.hotkey n = some h → h.trigger ≠ .leader (buffer ++ [u] ++ more)) →
              exec (.consoleKeyboardReport slot m #v[u, 0#8, 0#8, 0#8, 0#8, 0#8]) s =
                .next (claimedPress i u m [u] (alerted .refuse (refreshLeds { s with recognizer := .idle }))))))) ∧
    (∀ buffer e, s.recognizer = .command buffer e → s.slotDevice i = some (.keyboard 0#8 []) → isModifier u = true →
      (∀ x ∈ s.keys.held, ¬ (x.slot = i ∧ x.usage = u)) →
      exec (.consoleKeyboardReport slot (modifierBit u) (Vector.replicate 6 0#8)) s =
        .next (claimedPress i u (modifierBit u) [] s)) ∧
    (s.slotDevice i = some (.keyboard m [u]) → isModifier u = false → u = s.tables.modeSettings.leaderKey →
      ∀ e,
        (s.recognizer = .tap1Down i e →
          exec (.consoleKeyboardReport slot m (Vector.replicate 6 0#8)) s =
            .next
              ((takeRelease i u
                { s with
                  recognizer :=
                    .tap1Up i (s.clock + BitVec.ofNat 32 s.tables.modeSettings.leaderWindow) }).setSlot i
                (some (.keyboard m [])))) ∧
        (s.recognizer = .tap2Down i e →
          exec (.consoleKeyboardReport slot m (Vector.replicate 6 0#8)) s =
            .next
              ((takeRelease i u
                (refreshLeds
                  { s with
                    recognizer :=
                      .command [] (s.clock + BitVec.ofNat 32 s.tables.modeSettings.commandWindow) })).setSlot i
                (some (.keyboard m [])))))

/-- DEVICE_ATTACH of a keyboard or of the one POINTER to an empty slot fills it with an empty previous state, a keyboard
with the LED notice; to an occupied slot it first does all that a DEVICE_DETACH does (R1, R21). An attach of a second
POINTER, of no class or to no slot is counted and fills no slot (R1, R3). -/
def Obligations.DeviceAttachFillsSlot : Prop :=
  ∀ (slot : Byte) (i : Slot) (s : State), indexOf? 4 slot.toNat = some i →
    (s.slotDevice i = none →
      exec (.deviceAttach slot 1#8) s =
        .next
          { s with
            sent := s.sent ++ [.ledNotice (ledValue s)]
            console :=
              { s.console with
                slots := s.console.slots.set i.val (some (.keyboard 0#8 [])) i.isLt, ledSent := ledValue s } } ∧
      (hasPointer s = false →
        exec (.deviceAttach slot 2#8) s =
          .next
            { s with
              console := { s.console with slots := s.console.slots.set i.val (some (.pointer 0#5)) i.isLt } }) ∧
      (hasPointer s = true → exec (.deviceAttach slot 2#8) s = .next (countConsoleError s))) ∧
    (s.slotDevice i ≠ none → ∃ t, exec (.deviceDetach slot) s = .next t ∧
      exec (.deviceAttach slot 1#8) s =
        .next
          { t with
            sent := t.sent ++ [.ledNotice (ledValue t)]
            console :=
              { t.console with
                slots := t.console.slots.set i.val (some (.keyboard 0#8 [])) i.isLt, ledSent := ledValue t } } ∧
      (hasPointer t = false →
        exec (.deviceAttach slot 2#8) s =
          .next
            { t with
              console := { t.console with slots := t.console.slots.set i.val (some (.pointer 0#5)) i.isLt } }) ∧
      (hasPointer t = true → exec (.deviceAttach slot 2#8) s = .next (countConsoleError t))) ∧
    (∀ c : Byte, c ≠ 1#8 → c ≠ 2#8 → exec (.deviceAttach slot c) s = .next (countConsoleError s)) ∧
    ∀ (other c : Byte), 4 ≤ other.toNat → exec (.deviceAttach other c) s = .next (countConsoleError s)

/-- DEVICE_DETACH empties the slot, takes its held keys as released and, for the POINTER, clears every button record; the
other entries and slots stay, and only queues, RESYNC and last pairs of the ports change (R2, R12, R17, R31). An empty
slot or no slot is counted (R2, R3). -/
def Obligations.DeviceDetachReleases : Prop :=
  (∀ (slot : Byte) (i : Slot) (d : Device) (s : State),
    indexOf? 4 slot.toNat = some i → s.slotDevice i = some d →
    ∃ t, exec (.deviceDetach slot) s = .next t ∧ t.slotDevice i = none ∧
      (∀ j, j ≠ i → t.slotDevice j = s.slotDevice j) ∧
      t.keys.held = s.keys.held.filter (fun e => decide (e.slot ≠ i)) ∧
      t.keys.buttons = (match d with | .pointer _ => Vector.replicate 5 none | .keyboard _ _ => s.keys.buttons) ∧
      t.keys.overflow = s.keys.overflow ∧ t.console.errors = s.console.errors ∧
      t.recognizer = (if sequenceSlot s.recognizer = some i then .idle else s.recognizer) ∧
      (∀ k, t.port k =
        { s.port k with
          queue := (t.port k).queue, resync := (t.port k).resync, lastPair := (t.port k).lastPair }) ∧
      t = { s with console := t.console, keys := t.keys, recognizer := t.recognizer, ports := t.ports }) ∧
  ∀ (slot : Byte) (s : State), (∀ i, indexOf? 4 slot.toNat = some i → s.slotDevice i = none) →
    exec (.deviceDetach slot) s = .next (countConsoleError s)

/-- CONSOLE_LINK_RESTART and CONSOLE RESET empty the held-key table, the button records and the slots, return the
recognizer to IDLE and send the LED notice; focus, lock, broadcast set, mode word, pointer and the overflow counter are
kept (R19). That one notice is sent from COMMAND too is log entry 8. -/
def Obligations.ConsoleResetReleasesEverything : Prop :=
  (∀ s : State, ∃ t, exec .consoleLinkRestart s = .next t ∧ t = resetConsole s) ∧
  (∀ (r : CommandReport) (s : State), Admitted 0 .operate false r s →
    exec (.consoleReset r) s = .next (answered r 0x40#8 .ok [] (resetConsole s))) ∧
  ∀ s t : State, t = resetConsole s →
    t.keys.held = [] ∧ (∀ b, t.keys.buttons.get b = none) ∧ t.keys.overflow = s.keys.overflow ∧
      (∀ i, t.slotDevice i = none) ∧ t.recognizer = .idle ∧ t.console.errors = s.console.errors ∧
      t.sent = s.sent ++ [.ledNotice (ledValue t)] ∧ t.console.ledSent = ledValue t ∧
      (∀ k, t.port k =
        { s.port k with
          queue := (t.port k).queue, resync := (t.port k).resync, lastPair := (t.port k).lastPair }) ∧
      t =
        { s with
          sent := t.sent, console := t.console, keys := t.keys, recognizer := .idle, ports := t.ports }

/-- HELD_KEY_AGEING: an entry that has reached the limit loses its owners and is marked stale, each owner's snapshot is
made afresh, of the owners' ports only queue and RESYNC change, and nothing else of the part changes (R11); an entry
that has not, or none, changes nothing (log entry 5). -/
def Obligations.AgeingReleasesOwners : Prop :=
  ∀ (slot : Slot) (usage : Byte) (s : State),
    (∀ e, s.keys.held.find? (isHeldAs slot usage) = some e → hasAged s e = true →
      ∃ t, exec (.heldKeyAgeing slot usage) s = .next t ∧
        t.keys.held =
          s.keys.held.map
            (fun x => if x.slot = slot ∧ x.usage = usage then { x with owners := 0#8, stale := true } else x) ∧
        (∀ k, inSet e.owners k = true → t.keys.snapshots.get k = t.snapshot k ∧
          t.port k = { s.port k with queue := (t.port k).queue, resync := (t.port k).resync }) ∧
        (∀ k, inSet e.owners k = false →
          t.keys.snapshots.get k = s.keys.snapshots.get k ∧ t.port k = s.port k) ∧
        t.keys.buttons = s.keys.buttons ∧ t.keys.overflow = s.keys.overflow ∧
        t = { s with keys := t.keys, ports := t.ports }) ∧
    ((∀ e, s.keys.held.find? (isHeldAs slot usage) = some e → hasAged s e = false) →
      exec (.heldKeyAgeing slot usage) s = .next s)

/-! The pointer. -/

/-- Stage 1: the units and the new residue of an axis add up to the scaled motion, the residue stays within ±15 with the
sign of the scaled motion, and the units within ±32625 (R76). -/
def Obligations.GainSplitsMotion : Prop :=
  ∀ (gain : Nat) (motion residue : Int), 1 ≤ gain → gain ≤ 255 → -2047 ≤ motion → motion ≤ 2047 →
    -15 ≤ residue → residue ≤ 15 →
    motion * gain + residue = 16 * gainUnits gain motion residue + gainResidue gain motion residue ∧
      -15 ≤ gainResidue gain motion residue ∧ gainResidue gain motion residue ≤ 15 ∧
      -32625 ≤ gainUnits gain motion residue ∧ gainUnits gain motion residue ≤ 32625 ∧
      (0 ≤ motion * gain + residue → 0 ≤ gainResidue gain motion residue) ∧
      (motion * gain + residue ≤ 0 → gainResidue gain motion residue ≤ 0)

/-- Absolute mapping: a place inside its screen is mapped into the window of the input, by the formula of R93 (R94). -/
def Obligations.MappingStaysInWindow : Prop :=
  ∀ (w : Window) (box : Placement) (p : Place), inside box p → 1 ≤ w.ww → 1 ≤ w.wh →
    (mapPair w box p).1 = w.wx0 + ((2 * (p.x - box.x0) + 1) * w.ww) / (2 * box.w) ∧
      (mapPair w box p).2 = w.wy0 + ((2 * (p.y - box.y0) + 1) * w.wh) / (2 * box.h) ∧
      w.wx0 ≤ (mapPair w box p).1 ∧ (mapPair w box p).1 < w.wx0 + w.ww ∧
      w.wy0 ≤ (mapPair w box p).2 ∧ (mapPair w box p).2 < w.wy0 + w.wh

/-- CONSOLE_POINTER_REPORT where the pointer does not walk. For a RELATIVE focus the clamped units, the wheel or a change
of its buttons give one relative report, and the desk pointer stays (R76, R77, R97, R98); locked, headless or with no
focus, motion and wheel are discarded and the residues cleared (R75); with the pointer OFF and no screen for it, the wheel
or a button change gives one report with no new position (R96). Button records follow R16 and R17, and the owners beside
the glide target receive R18's report. A pointer that is OFF is placed before the report is taken, at the centre of the
focus computer's screen, headless no more, or else on its domain's with a focus change (R51, R74). -/
def Obligations.PointerReportWithoutWalk : Prop :=
  ∀ (slot : Byte) (i : Slot) (buttons wheel : Byte) (dx dy : BitVec 12) (s : State),
    indexOf? 4 slot.toNat = some i →
    (∀ p : Place, s.slotDevice i = some (.pointer (readButtons buttons)) → s.pointer.place = some p →
      (∀ f, s.focusUnit.locked = false → s.pointer.headless = false → s.focusUnit.focus = some f →
        (s.settingsOf f).form = .relative →
        ∀ ux uy : Int, ux = gainUnits s.tables.modeSettings.gain (readMotion dx) s.pointer.rx →
          uy = gainUnits s.tables.modeSettings.gain (readMotion dy) s.pointer.ry →
        ∀ t : State,
          t =
            { s with
              pointer :=
                { s.pointer with
                  rx := gainResidue s.tables.modeSettings.gain (readMotion dx) s.pointer.rx
                  ry := gainResidue s.tables.modeSettings.gain (readMotion dy) s.pointer.ry } } →
          exec (.consolePointerReport slot buttons dx dy wheel) s =
            .next
              (if ux = 0 ∧ uy = 0 ∧ readWheel wheel = 0 then t
               else
                offer f
                  (.relative (max (-127) (min 127 ux)) (max (-127) (min 127 uy)) (s.buttonsOf f)
                    (readWheel wheel))
                  t)) ∧
      (s.focusUnit.locked = true →
        exec (.consolePointerReport slot buttons dx dy wheel) s =
          .next { s with pointer := { s.pointer with rx := 0, ry := 0 } })) ∧
    (∀ (before : ButtonSet) (owners : Vector (Option Computer) 5) (target : Option Computer),
      s.slotDevice i = some (.pointer before) →
      target =
        (if s.focusUnit.locked = true ∨ s.pointer.headless = true then none else s.focusUnit.focus) →
      ButtonsTaken before (readButtons buttons) target s owners →
      (s.pointer.place = none → ∀ f, s.focusUnit.focus = some f →
        lowestScreenOf s f = none ∧ (s.pointer.headless = true ∨ lowestScreenNear s f = none)) →
      (target = none →
        ∃ t, exec (.consolePointerReport slot buttons dx dy wheel) s = .next t ∧
          PointerReportFrame i (readButtons buttons) owners none { s.pointer with rx := 0, ry := 0 } s t) ∧
      (∀ f, target = some f → s.pointer.place = none →
        ∃ t, exec (.consolePointerReport slot buttons dx dy wheel) s = .next t ∧
          PointerReportFrame i (readButtons buttons) owners (some f) { s.pointer with rx := 0, ry := 0 } s t ∧
          t.port f =
            if readWheel wheel = 0 ∧ buttonsIn s.keys.buttons f = buttonsIn owners f then s.port f
            else offerTo (quietReport s f (buttonsIn owners f) (readWheel wheel)) (s.port f)) ∧
      (∀ f p, target = some f → s.pointer.place = some p → (s.settingsOf f).form = .relative →
        ∀ ux uy : Int, ux = gainUnits s.tables.modeSettings.gain (readMotion dx) s.pointer.rx →
          uy = gainUnits s.tables.modeSettings.gain (readMotion dy) s.pointer.ry →
        ∃ t, exec (.consolePointerReport slot buttons dx dy wheel) s = .next t ∧
          PointerReportFrame i (readButtons buttons) owners (some f)
            { s.pointer with
              rx := gainResidue s.tables.modeSettings.gain (readMotion dx) s.pointer.rx
              ry := gainResidue s.tables.modeSettings.gain (readMotion dy) s.pointer.ry } s t ∧
          t.port f =
            if ux = 0 ∧ uy = 0 ∧ readWheel wheel = 0 ∧ buttonsIn s.keys.buttons f = buttonsIn owners f then
              s.port f
            else
              offerTo
                (.relative (max (-127) (min 127 ux)) (max (-127) (min 127 uy)) (buttonsIn owners f)
                  (readWheel wheel))
                (s.port f))) ∧
    ∀ (before : ButtonSet) (f : Computer), s.slotDevice i = some (.pointer before) → s.pointer.place = none →
      s.focusUnit.focus = some f →
      (∀ sc, lowestScreenOf s f = some sc →
        exec (.consolePointerReport slot buttons dx dy wheel) s =
          exec (.consolePointerReport slot buttons dx dy wheel)
            { s with
              pointer :=
                { place := some (centreOf sc (s.placement sc)), rx := 0, ry := 0, headless := false, push := none } }) ∧
      ∀ sc c, lowestScreenOf s f = none → s.pointer.headless = false → lowestScreenNear s f = some sc →
        screenComputer s sc = some c →
        exec (.consolePointerReport slot buttons dx dy wheel) s =
          exec (.consolePointerReport slot buttons dx dy wheel) (focusChange c .relocate (centred sc s))

/-- CONSOLE_POINTER_REPORT for an ABSOLUTE focus. Inside the pointer's screen the pointer moves to both targets, a push on
a moved axis is cleared, and an absolute report is offered when its pair differs from the last one, the wheel is not 0 or
the focus's buttons changed (R76, R78, R82, R93, R95, R98). Beyond it, here on one axis with no button change: the pointer
stops at a wall and at a blocked crossing (R79, R80), enters a screen of the same computer (R79), pushes against another
computer's screen, and crosses onto it with a focus change once the push reaches the edge resistance, the new focus
then receiving the report (R81, R82). -/
def Obligations.AbsolutePointerReport : Prop :=
  (∀ (slot : Byte) (i : Slot) (buttons wheel : Byte) (dx dy : BitVec 12) (p : Place) (f : Computer) (j : Input)
      (ux uy : Int) (s t : State),
    indexOf? 4 slot.toNat = some i → s.slotDevice i = some (.pointer (readButtons buttons)) →
    s.pointer.place = some p → s.focusUnit.locked = false → s.pointer.headless = false →
    s.focusUnit.focus = some f → (s.settingsOf f).form = .absolute → intendedOf (s.screen p.screen) = some j →
    ux = gainUnits s.tables.modeSettings.gain (readMotion dx) s.pointer.rx →
    uy = gainUnits s.tables.modeSettings.gain (readMotion dy) s.pointer.ry →
    (s.placement p.screen).x0 ≤ p.x + ux → p.x + ux ≤ (s.placement p.screen).x0 + (s.placement p.screen).w - 1 →
    (s.placement p.screen).y0 ≤ p.y + uy → p.y + uy ≤ (s.placement p.screen).y0 + (s.placement p.screen).h - 1 →
    t =
      { s with
        pointer :=
          { s.pointer with
            place := some { p with x := (p.x + ux).toNat, y := (p.y + uy).toNat }
            rx := gainResidue s.tables.modeSettings.gain (readMotion dx) s.pointer.rx
            ry := gainResidue s.tables.modeSettings.gain (readMotion dy) s.pointer.ry
            push :=
              s.pointer.push.filter
                (fun q => (decide (ux = 0) || decide (q.direction.axis ≠ .x)) &&
                  (decide (uy = 0) || decide (q.direction.axis ≠ .y))) } } →
    exec (.consolePointerReport slot buttons dx dy wheel) s =
      .next
        (let pair :=
          mapPair (s.window j) (s.placement p.screen) { p with x := (p.x + ux).toNat, y := (p.y + uy).toNat }
         if s.queueable f = true ∧ ((s.port f).lastPair ≠ some pair ∨ readWheel wheel ≠ 0) then
          offer f (.absolute pair.1 pair.2 (s.buttonsOf f) (readWheel wheel)) t
         else t)) ∧
  (∀ (slot : Byte) (i : Slot) (buttons wheel : Byte) (dx dy : BitVec 12) (p : Place) (f : Computer) (j : Input)
      (ux uy : Int) (before : ButtonSet) (owners : Vector (Option Computer) 5) (pair : Nat × Nat) (s : State),
    indexOf? 4 slot.toNat = some i → s.slotDevice i = some (.pointer before) →
    s.pointer.place = some p → s.focusUnit.locked = false → s.pointer.headless = false →
    s.focusUnit.focus = some f → (s.settingsOf f).form = .absolute → intendedOf (s.screen p.screen) = some j →
    ButtonsTaken before (readButtons buttons) (some f) s owners →
    ux = gainUnits s.tables.modeSettings.gain (readMotion dx) s.pointer.rx →
    uy = gainUnits s.tables.modeSettings.gain (readMotion dy) s.pointer.ry →
    (s.placement p.screen).x0 ≤ p.x + ux → p.x + ux ≤ (s.placement p.screen).x0 + (s.placement p.screen).w - 1 →
    (s.placement p.screen).y0 ≤ p.y + uy → p.y + uy ≤ (s.placement p.screen).y0 + (s.placement p.screen).h - 1 →
    pair = mapPair (s.window j) (s.placement p.screen) { p with x := (p.x + ux).toNat, y := (p.y + uy).toNat } →
    ∃ t, exec (.consolePointerReport slot buttons dx dy wheel) s = .next t ∧
      PointerReportFrame i (readButtons buttons) owners (some f)
        { s.pointer with
          place := some { p with x := (p.x + ux).toNat, y := (p.y + uy).toNat }
          rx := gainResidue s.tables.modeSettings.gain (readMotion dx) s.pointer.rx
          ry := gainResidue s.tables.modeSettings.gain (readMotion dy) s.pointer.ry
          push :=
            s.pointer.push.filter
              (fun q => (decide (ux = 0) || decide (q.direction.axis ≠ .x)) &&
                (decide (uy = 0) || decide (q.direction.axis ≠ .y))) } s t ∧
      t.port f =
        if s.queueable f = true ∧
            ((s.port f).lastPair ≠ some pair ∨ readWheel wheel ≠ 0 ∨
              buttonsIn s.keys.buttons f ≠ buttonsIn owners f) then
          offerTo (.absolute pair.1 pair.2 (buttonsIn owners f) (readWheel wheel)) (s.port f)
        else s.port f) ∧
  ∀ (slot : Byte) (i : Slot) (buttons wheel : Byte) (dx dy : BitVec 12) (p : Place) (f : Computer) (a : Axis)
      (toHigh : Bool) (v target edge : Int) (box : Placement) (atEdge : Place) (halted : Option Push → State)
      (s : State),
    indexOf? 4 slot.toNat = some i → s.slotDevice i = some (.pointer (readButtons buttons)) →
    s.pointer.place = some p → s.focusUnit.locked = false → s.pointer.headless = false →
    s.focusUnit.focus = some f → (s.settingsOf f).form = .absolute →
    gainUnits s.tables.modeSettings.gain (readMotion dx) s.pointer.rx = (if a = .x then v else 0) →
    gainUnits s.tables.modeSettings.gain (readMotion dy) s.pointer.ry = (if a = .x then 0 else v) →
    target = coordinate a p + v → box = s.placement p.screen →
    (if toHigh = true then spanHigh a box < target ∧ edge = spanHigh a box
     else target < spanLow a box ∧ edge = spanLow a box) →
    spanLow a box ≤ coordinate a p → coordinate a p ≤ spanHigh a box →
    atEdge = moveTo a edge p →
    (∀ push, halted push =
      { s with
        pointer :=
          { s.pointer with
            place := some atEdge
            rx := gainResidue s.tables.modeSettings.gain (readMotion dx) s.pointer.rx
            ry := gainResidue s.tables.modeSettings.gain (readMotion dy) s.pointer.ry
            push := push } }) →
    ((∀ n, neighbourAt s a (beyond toHigh edge) p = some n → enterable s n = false) →
      exec (.consolePointerReport slot buttons dx dy wheel) s =
        .next
          (handedOn f (readWheel wheel) atEdge
            (halted (s.pointer.push.filter (fun q => decide (q.direction.axis ≠ a)))))) ∧
    ∀ n c, neighbourAt s a (beyond toHigh edge) p = some n → enterable s n = true → screenComputer s n = some c →
      (screenComputer s p.screen = some c → spanLow a (s.placement n) ≤ target →
        target ≤ spanHigh a (s.placement n) →
        exec (.consolePointerReport slot buttons dx dy wheel) s =
          .next
            (handedOn f (readWheel wheel) { moveTo a target p with screen := n }
              { halted (s.pointer.push.filter (fun q => decide (q.direction.axis ≠ a))) with
                pointer :=
                  { (halted (s.pointer.push.filter (fun q => decide (q.direction.axis ≠ a)))).pointer with
                    place := some { moveTo a target p with screen := n } } })) ∧
      (screenComputer s p.screen ≠ some c → ∀ (blocked : Prop) (amount : Nat),
        (blocked ↔
          s.tables.modeWord.getLsbD 0 = false ∨ s.tables.modeWord.getLsbD 1 = true ∨ readButtons buttons ≠ 0#5 ∨
            (s.domainOf f ≠ s.domainOf c ∧
              s.settings.crossing.getLsbD (4 * (s.domainOf f).val + (s.domainOf c).val) = false)) →
        amount =
          min 1023
            ((match s.pointer.push with
              | some q => if q.neighbour = n ∧ q.direction = directionOf a toHigh then q.amount else 0
              | none => 0) + (target - edge).natAbs) →
        (blocked →
          exec (.consolePointerReport slot buttons dx dy wheel) s =
            .next
              (handedOn f (readWheel wheel) atEdge
                (halted (s.pointer.push.filter (fun q => decide (q.direction.axis ≠ a)))))) ∧
        (¬ blocked → amount < s.tables.modeSettings.edgeResistance →
          exec (.consolePointerReport slot buttons dx dy wheel) s =
            .next
              (handedOn f (readWheel wheel) atEdge
                (halted
                  (some { neighbour := n, direction := directionOf a toHigh, amount := amount })))) ∧
        (¬ blocked → s.tables.modeSettings.edgeResistance ≤ amount → ∀ (entry : Place) (t : State),
          entry = { moveTo a (beyond toHigh edge) p with screen := n } →
          t =
            focusChange c .glide
              { s with pointer := { s.pointer with place := some entry, rx := 0, ry := 0, push := none } } →
          exec (.consolePointerReport slot buttons dx dy wheel) s =
            .next
              (match (s.settingsOf c).form with
               | .absolute => handedOn c (readWheel wheel) entry t
               | .relative =>
                if readWheel wheel = 0 then t
                else offer c (.relative 0 0 (s.buttonsOf c) (readWheel wheel)) t)))

/-! The computer links. -/

/-- PRESENCE_LINE_CHANGE starts the 32 ms debounce when the raw level comes to differ from the sensed presence and stops
it when it returns (R101); PRESENCE_DEBOUNCE_EXPIRY of a due timer takes the arrival: ATTACHED and an ATTACH record
(R102). A timer that is not due, or none, changes nothing (log entry 5). -/
def Obligations.PresenceLineIsDebounced : Prop :=
  ∀ (k : Computer) (s : State),
    (∀ present : Bool, present ≠ (s.port k).raw →
      exec (.presenceLineChange k present) s =
        .next
          (s.setPort k
            { s.port k with
              raw := present
              debounce := if present = (s.port k).sensed then none else some (s.clock + 32#32) })) ∧
    exec (.presenceLineChange k (s.port k).raw) s = .next s ∧
    ((s.port k).debounce = none → exec (.presenceDebounceExpiry k) s = .next s) ∧
    ∀ e, (s.port k).debounce = some e →
      (¬ 0 ≤ (s.clock - e).toInt → exec (.presenceDebounceExpiry k) s = .next s) ∧
      (0 ≤ (s.clock - e).toInt → (s.port k).sensed = false →
        exec (.presenceDebounceExpiry k) s =
          .next
            (record (.attach k .presence)
              (s.setPort k { s.port k with sensed := true, debounce := none, link := .attached })))

/-- BUS_RESET of a queueable port takes it to ATTACHED with BUS_RESET set, and PRESENCE_DEBOUNCE_EXPIRY of a loss takes
it to DETACHED with DETACHED_SEEN set and a DETACH record; both have every effect of R107, with the LED notice of R21
and NOT_PRESENT for a deferred WAKE that waits for the port (R105, R106, R130, R132). A bus reset in DETACHED changes
nothing, and in ATTACHED only the conditions and the arming, with the ATTACH record of the focus port (R105); a loss in
ATTACHED gives the record and the conditions and nothing of R107 (R106). -/
def Obligations.PortLeavesQueueable : Prop :=
  ∀ (k : Computer) (s : State),
    (s.queueable k = true →
      ∃ t, exec (.busReset k) s = .next t ∧
        LeftQueueable k
          { s.port k with
            link := .attached, queue := [], resync := none, lastPair := none, leds := ledsOff, attempt := none
            slot := none, armed := false
            sticky :=
              { (s.port k).sticky with
                busReset := true
                queueFlushed := (s.port k).sticky.queueFlushed || !(s.port k).queue.isEmpty } } s t ∧
        t.journal = if s.focusUnit.focus = some k then (record (.attach k .busReset) s).journal else s.journal) ∧
    ((s.port k).link = .detached → exec (.busReset k) s = .next s) ∧
    ((s.port k).link = .attached → ∀ t : State,
      t = s.setPort k { s.port k with armed := false, sticky := { (s.port k).sticky with busReset := true } } →
      exec (.busReset k) s =
        .next (if s.focusUnit.focus = some k then record (.attach k .busReset) t else t)) ∧
    ∀ e, (s.port k).debounce = some e → 0 ≤ (s.clock - e).toInt → (s.port k).sensed = true →
      (s.queueable k = true →
        ∃ t, exec (.presenceDebounceExpiry k) s = .next t ∧
          LeftQueueable k
            { s.port k with
              link := .detached, sensed := false, debounce := none, queue := [], resync := none
              lastPair := none, leds := ledsOff, attempt := none, slot := none, armed := false
              sticky :=
                { (s.port k).sticky with
                  detachedSeen := true
                  queueFlushed := (s.port k).sticky.queueFlushed || !(s.port k).queue.isEmpty } } s t ∧
          t.journal = (record (.detach k) s).journal) ∧
      ((s.port k).link = .attached →
        exec (.presenceDebounceExpiry k) s =
          .next
            (record (.detach k)
              (s.setPort k
                { s.port k with
                  sensed := false, debounce := none, link := .detached, armed := false
                  sticky := { (s.port k).sticky with detachedSeen := true } })))

/-- CONFIGURE, SUSPEND and RESUME move the link between ATTACHED, READY and SUSPENDED and change nothing else, ARM and
DISARM set the arming in READY, and an LED output report in READY replaces the port's LED state, with the console notice
of R21 for the focus; in the states that the rules leave out each changes nothing (R103, R104, R116, R123). -/
def Obligations.LinkEvents : Prop :=
  ∀ (k : Computer) (leds : Leds) (s : State),
    ((s.port k).link = .attached →
      exec (.configure k) s = .next (s.setPort k { s.port k with link := .ready })) ∧
    ((s.port k).link ≠ .attached → exec (.configure k) s = .next s) ∧
    ((s.port k).link = .ready →
      exec (.suspend k) s = .next (s.setPort k { s.port k with link := .suspended }) ∧
        exec (.armRemoteWake k) s = .next (s.setPort k { s.port k with armed := true }) ∧
        exec (.disarmRemoteWake k) s = .next (s.setPort k { s.port k with armed := false }) ∧
        (s.focusUnit.focus ≠ some k →
          exec (.ledOutputReport k leds) s = .next (s.setPort k { s.port k with leds := leds })) ∧
        (s.focusUnit.focus = some k →
          exec (.ledOutputReport k leds) s =
            .next (refreshLeds (s.setPort k { s.port k with leds := leds })))) ∧
    ((s.port k).link ≠ .ready →
      exec (.suspend k) s = .next s ∧ exec (.armRemoteWake k) s = .next s ∧
        exec (.disarmRemoteWake k) s = .next s ∧ exec (.ledOutputReport k leds) s = .next s) ∧
    ((s.port k).link = .suspended →
      exec (.resume k) s = .next (s.setPort k { s.port k with link := .ready })) ∧
    ((s.port k).link ≠ .suspended → (s.port k).link ≠ .waking → exec (.resume k) s = .next s)

/-- POLL in READY delivers the head of the queue, if there is one; with RESYNC set and four reports or fewer left it adds
the current snapshot and, when pointer reports were dropped, one pointer report of the port's form: the accumulated motion,
or the last absolute pair (the middle while it is absent), with the owned buttons and the accumulated wheel. It then clears
RESYNC, counts the episode and sets RESYNC_OCCURRED (R92, R110, R115). In any other state it changes nothing. -/
def Obligations.PollDelivers : Prop :=
  ∀ (k : Computer) (s : State),
    ((s.port k).link ≠ .ready → exec (.poll k) s = .next s) ∧
    ((s.port k).link = .ready → (s.port k).resync = none → (s.port k).queue = [] → exec (.poll k) s = .next s) ∧
    (∀ head rest, (s.port k).link = .ready → (s.port k).queue = head :: rest →
      (s.port k).resync = none ∨ 4 < rest.length →
      exec (.poll k) s =
        .next
          { s.setPort k { s.port k with queue := rest } with sent := s.sent ++ [.delivered k head] }) ∧
    (∀ head rest acc, (s.port k).link = .ready → (s.port k).queue = head :: rest → (s.port k).resync = some acc →
      rest.length ≤ 4 → acc.pointerDropped = false →
      exec (.poll k) s =
        .next
          { s.setPort k
              { s.port k with
                queue := rest ++ [.keyboard (s.snapshot k)]
                resync := none
                resyncCount := min ((s.port k).resyncCount + 1) 65535
                sticky := { (s.port k).sticky with resyncOccurred := true } } with
            sent := s.sent ++ [.delivered k head] }) ∧
    ∀ (rest : List Report) (sentNow : List Sent) (acc : Resync) (done : Port) (pair : Nat × Nat),
      (s.port k).link = .ready → (s.port k).resync = some acc → rest.length ≤ 4 →
      ((s.port k).queue = [] ∧ rest = [] ∧ sentNow = []) ∨
        (∃ head, (s.port k).queue = head :: rest ∧ sentNow = [.delivered k head]) →
      done =
        { s.port k with
          resync := none
          resyncCount := min ((s.port k).resyncCount + 1) 65535
          sticky := { (s.port k).sticky with resyncOccurred := true } } →
      pair = (s.port k).lastPair.getD (16384, 16384) →
      (acc.pointerDropped = false →
        exec (.poll k) s =
          .next
            { s.setPort k { done with queue := rest ++ [.keyboard (s.snapshot k)] } with
              sent := s.sent ++ sentNow }) ∧
      (acc.pointerDropped = true → (s.settingsOf k).form = .relative →
        exec (.poll k) s =
          .next
            { s.setPort k
                { done with
                  queue :=
                    rest ++
                      [.keyboard (s.snapshot k), .relative acc.dx acc.dy (s.buttonsOf k) acc.wheel] } with
              sent := s.sent ++ sentNow }) ∧
      (acc.pointerDropped = true → (s.settingsOf k).form = .absolute →
        exec (.poll k) s =
          .next
            { s.setPort k
                { done with
                  lastPair := some pair
                  queue :=
                    rest ++
                      [.keyboard (s.snapshot k), .absolute pair.1 pair.2 (s.buttonsOf k) acc.wheel] } with
              sent := s.sent ++ sentNow })

/-- A result read in READY answers with the report of the slot on a management port, and is refused and counted on
another (R117, R168); a management report on a port outside the set, a report for another desk and one with no command's
code are counted or answered and do nothing more (R117, R120, R167, R169). What an EMPTY slot's report holds is log
entry 3. -/
def Obligations.ReportsBesideTheEngine : Prop :=
  ∀ (k : Computer) (b : Byte) (s : State),
    ((s.port k).link ≠ .ready →
      exec (.managementResultRead k) s = .next s ∧ exec (.foreignManagementReport k) s = .next s ∧
        exec (.deskMismatch k b) s = .next s) ∧
    ((s.port k).link = .ready → s.isManagement k = true →
      exec (.managementResultRead k) s =
        .next
          { s with sent := s.sent ++ [.resultReport k (resultReport s k)], freeUses := s.freeUses + 1 } ∧
      (deskMatches s b = false →
        exec (.deskMismatch k b) s = .next { s with mismatches := min (s.mismatches + 1) 65535 })) ∧
    ((s.port k).link = .ready → s.isManagement k = false →
      exec (.managementResultRead k) s =
        .next { s with sent := s.sent ++ [.readRefused k], foreign := min (s.foreign + 1) 65535 } ∧
      exec (.foreignManagementReport k) s = .next { s with foreign := min (s.foreign + 1) 65535 }) ∧
    ∀ (r : CommandReport) (code : Byte), reachesEngine r s = true → isCommandCode code = false →
      exec (.badCommand r code) s = .next (answered r code .badCommand [] s)

/-- A wake attempt goes on or ends: WAKE_TIMER_EXPIRY of a due timer sends the signal again while the signals sent are
not above the retry limit, and otherwise fails the attempt into SUSPENDED with a flush into RESYNC (R127, R128); RESUME
in WAKING ends it in READY with a WAKE_DONE record (R129). At either end a WAKE that the engine waits with is completed
with DONE or WAKE_FAILED in its slot, and an engine that waits for anything else is left alone (R132, R173). That a
timer not due changes nothing is log entry 5. -/
def Obligations.WakeAttemptRunsAndEnds : Prop :=
  ∀ (k : Computer) (a : WakeAttempt) (s : State), (s.port k).link = .waking → (s.port k).attempt = some a →
    (¬ 0 ≤ (s.clock - a.expiry).toInt → exec (.wakeTimerExpiry k) s = .next s) ∧
    (0 ≤ (s.clock - a.expiry).toInt → a.signals ≤ a.retryLimit →
      exec (.wakeTimerExpiry k) s =
        .next
          { s.setPort k
              { s.port k with
                attempt :=
                  some
                    { a with
                      signals := a.signals + 1
                      expiry := s.clock + BitVec.ofNat 32 (1000 * a.timeout) } } with
            sent := s.sent ++ [.wakeSignal k] }) ∧
    (0 ≤ (s.clock - a.expiry).toInt → a.retryLimit < a.signals → s.engine = none →
      exec (.wakeTimerExpiry k) s =
        .next
          (record (.wakeFailed k a.signals)
            (s.setPort k
              { s.port k with
                attempt := none
                link := .suspended
                queue := []
                resync :=
                  some
                    { ((s.port k).resync.getD zeroResync) with
                      pointerDropped :=
                        ((s.port k).resync.getD zeroResync).pointerDropped ||
                          (s.port k).queue.any isPointerReport }
                sticky :=
                  { (s.port k).sticky with
                    wakeFailed := true
                    queueFlushed := (s.port k).sticky.queueFlushed || !(s.port k).queue.isEmpty } }))) ∧
    (s.engine = none →
      exec (.resume k) s =
        .next
          (record (.wakeDone k a.signals)
            (s.setPort k { s.port k with attempt := none, link := .ready }))) ∧
    ∀ (c : Instr) (outcome : Result) (u : State),
      (c = .resume k ∧ outcome = .done ∧
          u =
            record (.wakeDone k a.signals)
              (s.setPort k { s.port k with attempt := none, link := .ready })) ∨
        (c = .wakeTimerExpiry k ∧ 0 ≤ (s.clock - a.expiry).toInt ∧ a.retryLimit < a.signals ∧
          outcome = .wakeFailed ∧
          u =
            record (.wakeFailed k a.signals)
              (s.setPort k
                { s.port k with
                  attempt := none
                  link := .suspended
                  queue := []
                  resync :=
                    some
                      { ((s.port k).resync.getD zeroResync) with
                        pointerDropped :=
                          ((s.port k).resync.getD zeroResync).pointerDropped ||
                            (s.port k).queue.any isPointerReport }
                  sticky :=
                    { (s.port k).sticky with
                      wakeFailed := true
                      queueFlushed := (s.port k).sticky.queueFlushed || !(s.port k).queue.isEmpty } })) →
      ∀ d : Deferred, s.engine = some d →
        (d.wait ≠ .wakeOf k → exec c s = .next u) ∧
        (d.wait = .wakeOf k → s.isManagement d.port = true →
          exec c s =
            .next
              { u.setPort d.port
                  { u.port d.port with
                    slot :=
                      some { tag := d.tag, command := deferredCode d.command, result := outcome, data := [] } } with
                engine := none }) ∧
        (d.wait = .wakeOf k → s.isManagement d.port = false → exec c s = .next { u with engine := none })

/-! The video crosspoint. -/

/-- SIGNAL_FOUND, SIGNAL_LOST and FRAME_COMPLETE change the input's record as R136 says and nothing else, the frame number
wraps with its 32 bits and is reset by none of them; after power-on every input is NO_SIGNAL with frame number 0, and a
desk reset keeps every input record. -/
def Obligations.InputEvents : Prop :=
  (∀ (j : Input) (m : VideoMode) (s : State),
    exec (.signalFound j m) s =
      .next
        { s with
          video :=
            { s.video with
              inputs := s.video.inputs.set j.val { signal := some m, frame := (s.input j).frame } j.isLt } } ∧
    exec (.signalLost j) s =
      .next
        { s with
          video :=
            { s.video with
              inputs := s.video.inputs.set j.val { signal := none, frame := (s.input j).frame } j.isLt } } ∧
    ((s.input j).signal = none → exec (.signalLost j) s = .next s ∧ exec (.frameComplete j) s = .next s) ∧
    ((s.input j).signal = some m →
      exec (.frameComplete j) s =
        .next
          { s with
            video :=
              { s.video with
                inputs :=
                  s.video.inputs.set j.val { signal := some m, frame := (s.input j).frame + 1#32 } j.isLt } })) ∧
  (∀ (image : Option (List Byte)) (j : Input) (s t : State), exec (.powerOn image) s = .next t →
    t.input j = { signal := none, frame := 0#32 }) ∧
  ∀ (r : CommandReport) (answers : Bool) (j : Input) (s t : State), exec (.deskReset r answers) s = .next t →
    t.input j = s.input j

/-- SINK_ATTACH sets the sink and nothing else, so that a screen's pending source, content and border stay (R138, R150).
SINK_DETACH of a screen commits its pending source, which the engine is told of, and clears content and border (R139,
R141, R172); the pointer that stands on the screen is relocated (R84, R85), and else nothing more changes. SINK_DETACH of X
clears its content (R150); of an ABSENT screen sink it changes nothing. -/
def Obligations.SinkEvents : Prop :=
  ∀ (sc : Screen) (m : VideoMode) (s : State),
    exec (.sinkAttach (.screen sc) m) s = .next (s.setScreen sc { s.screen sc with sink := some m }) ∧
    exec (.sinkAttach .shareOut m) s = .next (s.setShare { s.video.share with sink := some m }) ∧
    exec (.sinkDetach .shareOut) s = .next (s.setShare { s.video.share with sink := none, shown := none }) ∧
    ((s.screen sc).sink = none → exec (.sinkDetach (.screen sc)) s = .next s) ∧
    ((s.screen sc).sink = some m → s.engine = none → (∀ p ∈ s.pointer.place, p.screen ≠ sc) →
      exec (.sinkDetach (.screen sc)) s =
        .next
          (s.setScreen sc
            { s.screen sc with
              sink := none
              committed := (s.screen sc).pending.getD (s.screen sc).committed
              pending := none
              shown := none
              border := .noBorder })) ∧
    ((s.screen sc).sink = some m → ∃ u t, exec (.sinkDetach (.screen sc)) s = .next t ∧
      u.screen sc =
        { s.screen sc with
          sink := none
          committed := (s.screen sc).pending.getD (s.screen sc).committed
          pending := none
          shown := none
          border := .noBorder } ∧
      (∀ other, other ≠ sc → u.screen other = s.screen other) ∧ u.video.inputs = s.video.inputs ∧
      u.video.share = s.video.share ∧ u = { s with video := u.video, ports := u.ports, engine := u.engine } ∧
      ((s.screen sc).pending = none → u.engine = s.engine ∧ u.ports = s.ports) ∧
      (∀ src, (s.screen sc).pending = some src → CommitTold sc src s u) ∧
      ((∀ p ∈ s.pointer.place, p.screen ≠ sc) → t = u) ∧
      ∀ p f, s.pointer.place = some p → p.screen = sc → s.focusUnit.focus = some f → Relocated f u t)

/-- FRAME_START of a screen with a sink commits the pending source, chooses the content by R143's tests in their order,
counts repeats and skips by R144 and chooses the border by R145's tests; the other screens, the inputs and X stay, and
only the engine and a result slot can change besides: a deferred command that waits for the screen is completed DONE,
PARTIAL or SUPERSEDED, or waits on (R141, R142, R172). Without a sink there is no frame start (log entry 5). -/
def Obligations.FrameStartShowsContent : Prop :=
  ∀ (sc : Screen) (s : State),
    ((s.screen sc).sink = none → exec (.frameStart sc) s = .next s) ∧
    ∀ (sink : VideoMode) (src : Source) (now : Content) (border : Border), (s.screen sc).sink = some sink →
      src = (s.screen sc).pending.getD (s.screen sc).committed →
      now =
        (match src with
         | none => .standby .noSource
         | some j =>
          if s.focusUnit.locked = true ∧ s.tables.modeWord.getLsbD 4 = true then .standby .privacy
          else
            match (s.input j).signal with
            | none => .standby .noSignal
            | some m =>
              if m.width = sink.width ∧ m.height = sink.height then .frame j (s.input j).frame
              else .standby .modeMismatch) →
      border =
        (if s.tables.modeWord.getLsbD 3 = false then .noBorder
         else if s.focusUnit.locked = true then .locked
         else if (computerOf s src).isSome = true ∧ computerOf s src = s.focusUnit.focus then
          (match s.recognizer with
           | .command _ _ => .command
           | _ => .focus)
         else .noBorder) →
      ∃ t, exec (.frameStart sc) s = .next t ∧
        (t.screen sc).sink = some sink ∧ (t.screen sc).committed = src ∧ (t.screen sc).pending = none ∧
        (t.screen sc).shown = some now ∧ (t.screen sc).border = border ∧
        (∀ j n m, now = .frame j n → (s.screen sc).shown = some (.frame j m) →
          (t.screen sc).repeats =
            (if m = n then min ((s.screen sc).repeats + 1) 65535 else (s.screen sc).repeats) ∧
          (t.screen sc).skips =
            if 1 < (n - m).toNat then min ((s.screen sc).skips + 1) 65535 else (s.screen sc).skips) ∧
        ((∀ j n m, ¬ (now = .frame j n ∧ (s.screen sc).shown = some (.frame j m))) →
          (t.screen sc).repeats = (s.screen sc).repeats ∧ (t.screen sc).skips = (s.screen sc).skips) ∧
        (∀ other, other ≠ sc → t.screen other = s.screen other) ∧ t.video.inputs = s.video.inputs ∧
        t.video.share = s.video.share ∧
        (∀ k, t.port k = { s.port k with slot := (t.port k).slot }) ∧
        t = { s with video := t.video, ports := t.ports, engine := t.engine } ∧
        (s.engine = none → t.ports = s.ports ∧ t.engine = none) ∧
        ((s.screen sc).pending = none → t.engine = s.engine ∧ t.ports = s.ports) ∧
        ∀ asked, (s.screen sc).pending = some asked → CommitTold sc asked s t

/-- SHARE_OUT_FRAME_START resolves X's selection and chooses the content by R151's tests in their order, and changes
nothing but X's content and counters; whatever the state before, X then shows no frame of an input whose domain is
outside the share-out permitted set (R151). Without a sink there is no frame start (log entry 5). -/
def Obligations.ShareOutNeverLeaks : Prop :=
  ∀ s : State,
    (s.video.share.sink = none → exec .shareOutFrameStart s = .next s) ∧
    ∀ (sink : VideoMode) (src : Source) (now : Content), s.video.share.sink = some sink →
      src =
        (match s.video.share.selection with
         | .nothing => none
         | .screen sc => (s.screen sc).committed
         | .input j => some j) →
      now =
        (match src with
         | none => .standby .noSource
         | some j =>
          if s.settings.shareOutPermitted.getLsbD (inputDomain s j).val = false then .standby .withheld
          else if s.focusUnit.locked = true ∧ s.tables.modeWord.getLsbD 4 = true then .standby .privacy
          else
            match (s.input j).signal with
            | none => .standby .noSignal
            | some m =>
              if m.width = sink.width ∧ m.height = sink.height then .frame j (s.input j).frame
              else .standby .modeMismatch) →
      ∃ t, exec .shareOutFrameStart s = .next t ∧ t.video.share.shown = some now ∧
        ShareOutPermits t t.video.share.shown ∧
        t =
          { s with
            video :=
              { s.video with
                share :=
                  { s.video.share with
                    shown := some now, repeats := t.video.share.repeats, skips := t.video.share.skips } } }

/-! Schedule, memory, engine. -/

/-- SCHEDULED_ENTRY_FIRE of a due entry removes it and hands its action, whichever it is, to the owner with the cause
SCHEDULE; a refusal is recorded, a success not (R161 to R163). UNSHARE and UNLOCK are spelt out. An empty slot, or an entry
not due, changes nothing (log entry 5). SCHEDULE refuses a delay, an action or an argument out of range and a full table,
and otherwise takes the lowest-numbered empty slot, due the delay from now with origin MANAGEMENT (R160). -/
def Obligations.ScheduleAndFiring : Prop :=
  (∀ (i : ScheduleIndex) (s : State),
    (s.entry i = none → exec (.scheduledEntryFire i) s = .next s) ∧
    ∀ e, s.entry i = some e →
      (¬ 0 ≤ (s.clock - e.due).toInt → exec (.scheduledEntryFire i) s = .next s) ∧
      (0 ≤ (s.clock - e.due).toInt → e.action = .unshare → s.video.share.selection ≠ .nothing →
        exec (.scheduledEntryFire i) s =
          .next
            (record .unshare ((s.setEntry i none).setShare { s.video.share with selection := .nothing }))) ∧
      (0 ≤ (s.clock - e.due).toInt → e.action = .unshare → s.video.share.selection = .nothing →
        exec (.scheduledEntryFire i) s =
          .next (record (.scheduleRefused .unshare .noChange e.origin) (s.setEntry i none))) ∧
      (0 ≤ (s.clock - e.due).toInt → e.action = .unlock → s.focusUnit.locked = false →
        exec (.scheduledEntryFire i) s =
          .next (record (.scheduleRefused .unlock .noChange e.origin) (s.setEntry i none))) ∧
      (0 ≤ (s.clock - e.due).toInt → e.action = .unlock → s.focusUnit.locked = true →
        exec (.scheduledEntryFire i) s =
          .next
            (record .unlock
              { s.setEntry i none with focusUnit := { s.focusUnit with locked := false } })) ∧
      (0 ≤ (s.clock - e.due).toInt → ∀ a : Answered, a = runAction e.action .schedule (s.setEntry i none) →
        exec (.scheduledEntryFire i) s =
          .next
            (if a.answer = .ok ∨ a.answer = .accepted ∨ a.answer = .done ∨ a.answer = .partly then a.state
             else record (.scheduleRefused e.action a.answer e.origin) a.state))) ∧
  (∀ (r : CommandReport) (s : State), Admitted 7 .operate false r s →
    parseAction (natAt r.params 4) (read16 r.params 5) = none →
    exec (.schedule r) s = .next (answered r 0x30#8 .badArgument [] s)) ∧
  ∀ (r : CommandReport) (a : Action) (s : State), Admitted 7 .operate false r s →
    parseAction (natAt r.params 4) (read16 r.params 5) = some a →
    (¬ (1 ≤ read32 r.params 0 ∧ read32 r.params 0 ≤ 86400000) →
      exec (.schedule r) s = .next (answered r 0x30#8 .badArgument [] s)) ∧
    (1 ≤ read32 r.params 0 → read32 r.params 0 ≤ 86400000 → (∀ i, s.entry i ≠ none) →
      exec (.schedule r) s = .next (answered r 0x30#8 .tableFull [] s)) ∧
    ∀ i due, 1 ≤ read32 r.params 0 → read32 r.params 0 ≤ 86400000 → s.entry i = none →
      (∀ j, j < i → s.entry j ≠ none) → due = s.clock + BitVec.ofNat 32 (read32 r.params 0) →
      exec (.schedule r) s =
        .next
          (answered r 0x30#8 .ok (byteOf i.val :: le32 due.toNat)
            (s.setEntry i (some { due := due, action := a, origin := .management })))

/-- CANCEL: BAD_ARGUMENT for an index outside 0 to 7, NOT_FOUND for an empty slot and for an expected due time that is not
the entry's, and otherwise the entry of either origin is removed, with its action and argument as data; no journal record
(R165). -/
def Obligations.CancelRemovesEntry : Prop :=
  ∀ (r : CommandReport) (s : State), Admitted 1 .operate false r s ∨ Admitted 5 .operate false r s →
    (8 ≤ natAt r.params 0 → exec (.cancel r) s = .next (answered r 0x31#8 .badArgument [] s)) ∧
    ∀ i : ScheduleIndex, natAt r.params 0 = i.val →
      (s.entry i = none → exec (.cancel r) s = .next (answered r 0x31#8 .notFound [] s)) ∧
      ∀ e, s.entry i = some e →
        (r.length.toNat = 5 → read32 r.params 1 ≠ e.due.toNat →
          exec (.cancel r) s = .next (answered r 0x31#8 .notFound [] s)) ∧
        (r.length.toNat = 5 → read32 r.params 1 = e.due.toNat →
          exec (.cancel r) s =
            .next
              (answered r 0x31#8 .ok (byteOf (actionCode e.action) :: le16 (actionArgument e.action))
                (s.setEntry i none))) ∧
        (r.length.toNat = 1 →
          exec (.cancel r) s =
            .next
              (answered r 0x31#8 .ok (byteOf (actionCode e.action) :: le16 (actionArgument e.action))
                (s.setEntry i none)))

/-- SAVE puts the section in flight and defers, or is refused with BUSY while a write runs (R182);
MEMORY_WRITE_COMPLETE clears SAVE_ACTIVE, sets or clears SAVE_FAILED, writes the section's bytes and no others, and
completes the SAVE that still waits with DONE or WRITE_FAILED (R173, R182, R188). Without a write nothing ends (log
entry 5); what a failed write leaves is its operand (log entry 13), and the free bytes used are counted (log entry 3). -/
def Obligations.SaveAndMemoryWrite : Prop :=
  (∀ (r : CommandReport) (s : State), Admitted 0 .configure false r s →
    (s.image.writing = none →
      exec (.save r) s =
        .next
          (deferred r .save .memoryWrite false
            { s with
              image := { s.image with writing := some (sectionToWrite s) }, freeUses := s.freeUses + 1 })) ∧
    (s.image.writing ≠ none → exec (.save r) s = .next (answered r 0x48#8 .busy [] s))) ∧
  (∀ (outcome : WriteOutcome) (s : State), s.image.writing = none →
    exec (.memoryWriteComplete outcome) s = .next s) ∧
  ∀ (written : List Byte) (s : State), s.image.writing = some written →
    (∀ outcome, ∃ t, exec (.memoryWriteComplete outcome) s = .next t ∧ t.image.writing = none ∧
      t.image.saveFailed = decide (outcome ≠ .succeeded) ∧
      t.image.settingsInvalid = s.image.settingsInvalid ∧ t.image.tablesInvalid = s.image.tablesInvalid ∧
      (∀ a, a < 22 ∨ 692 ≤ a → written.length ≤ 670 → readCell t.image.memory a = readCell s.image.memory a) ∧
      (outcome = .succeeded → ∀ i, i < written.length → readCell t.image.memory (22 + i) = byteAt written i) ∧
      (∀ d, s.engine = some d → d.wait = .memoryWrite → s.isManagement d.port = true →
        t.engine = none ∧
        t.port d.port =
          { s.port d.port with
            slot :=
              some
                { tag := d.tag, command := deferredCode d.command
                  result := if outcome = .succeeded then .done else .writeFailed, data := [] } }) ∧
      (s.engine = none → t = { s with image := t.image }))

/-- ABORT: in IDLE NO_CHANGE in its own slot and nothing else; in BUSY ABORTED in the issuing port's slot, the engine
IDLE, and then OK in its own slot with the tag and code of the command it ended; nothing is undone (R174). At OBSERVE it
is refused. -/
def Obligations.AbortEndsTheWait : Prop :=
  ∀ (r : CommandReport) (s : State),
    (Admitted 0 .operate true r s →
      (s.engine = none → exec (.abort r) s = .next (answered r 0x4F#8 .noChange [] s)) ∧
      ∀ d, s.engine = some d → s.isManagement d.port = true →
        exec (.abort r) s =
          .next
            (answered r 0x4F#8 .ok [d.tag, deferredCode d.command]
              { s.setPort d.port
                  { s.port d.port with
                    slot :=
                      some { tag := d.tag, command := deferredCode d.command, result := .aborted, data := [] } } with
                engine := none })) ∧
    (reachesEngine r s = true → r.length = 0#8 → s.settings.lockLevel = .observe →
      exec (.abort r) s = .next (answered r 0x4F#8 .locked [] s))

/-! The management commands. -/

/-- READ DESK, READ PORT, READ SCREEN, READ INPUT and READ SHARE answer OK with their data and change no state; an index
out of range is BAD_ARGUMENT (R155, R176). That bytes 3 to 8 of READ SHARE with X's sink ABSENT, and those of its bytes 10
to 14 that no content fills, are 0 is the model's reading, log entry 15. -/
def Obligations.ReadsAnswer : Prop :=
  ∀ (r : CommandReport) (s : State),
    (Admitted 0 .read true r s →
      exec (.readDesk r) s = .next (answered r 0x01#8 .ok (deskData s) s) ∧
        exec (.readShare r) s = .next (answered r 0x05#8 .ok (shareData s.video.share) s)) ∧
    (Admitted 1 .read true r s →
      (∀ k : Computer, natAt r.params 0 = k.val →
        exec (.readPort r) s = .next (answered r 0x02#8 .ok (portData s k) s)) ∧
      (∀ sc : Screen, natAt r.params 0 = sc.val →
        exec (.readScreen r) s = .next (answered r 0x03#8 .ok (screenData (s.screen sc)) s)) ∧
      (∀ j : Input, natAt r.params 0 = j.val →
        exec (.readInput r) s = .next (answered r 0x04#8 .ok (inputData (s.input j)) s)) ∧
      (8 ≤ natAt r.params 0 →
        exec (.readPort r) s = .next (answered r 0x02#8 .badArgument [] s) ∧
          exec (.readScreen r) s = .next (answered r 0x03#8 .badArgument [] s)) ∧
      (16 ≤ natAt r.params 0 → exec (.readInput r) s = .next (answered r 0x04#8 .badArgument [] s)))

/-- READ JOURNAL removes the oldest records, up to four, returns them oldest first with their number and the number still
there, answers OK even when there is none, and clears JOURNAL_LOST when it leaves the journal empty (R190). -/
def Obligations.ReadJournalRemovesRecords : Prop :=
  ∀ (r : CommandReport) (s : State), Admitted 0 .read true r s →
    exec (.readJournal r) s =
      .next
        (answered r 0x06#8 .ok
          (byteOf (min s.journal.records.length 4) :: byteOf (s.journal.records.length - 4) ::
            (s.journal.records.take 4).flatMap journalBytes)
          { s with
            journal :=
              { records := s.journal.records.drop 4
                lost := if s.journal.records.length ≤ 4 then false else s.journal.lost } })

/-- SET MODE sets and CLEAR MODE clears the bits of the mask in the mode word, with OK or NO_CHANGE, and a mask beyond the
six mode bits is BAD_ARGUMENT; WRITE MODE SETTINGS replaces all seven settings, or is refused whole with BAD_ARGUMENT, or
with CONFLICT for the key of a CHORD entry (R26, R177). A changed leader key returns the tap states to IDLE and leaves
COMMAND (R26); a limit lowered, or raised from 0, ages at once every entry that has reached it (R11). That a value out of
range is answered before a conflict is log entry 12. -/
def Obligations.ModeCommands : Prop :=
  ∀ (r : CommandReport) (s : State),
    (Admitted 1 .configure false r s →
      (∀ mask : ModeWord, byteAt r.params 0 = mask.setWidth 8 →
        exec (.setMode r) s =
          .next
            (answered r 0x10#8 (if s.tables.modeWord ||| mask = s.tables.modeWord then .noChange else .ok) []
              { s with tables := { s.tables with modeWord := s.tables.modeWord ||| mask } }) ∧
        exec (.clearMode r) s =
          .next
            (answered r 0x11#8 (if s.tables.modeWord &&& ~~~mask = s.tables.modeWord then .noChange else .ok) []
              { s with tables := { s.tables with modeWord := s.tables.modeWord &&& ~~~mask } })) ∧
      (64 ≤ natAt r.params 0 →
        exec (.setMode r) s = .next (answered r 0x10#8 .badArgument [] s) ∧
          exec (.clearMode r) s = .next (answered r 0x11#8 .badArgument [] s))) ∧
    (Admitted 11 .configure false r s →
      (parseModeSettings r.params = none →
        exec (.writeModeSettings r) s = .next (answered r 0x12#8 .badArgument [] s)) ∧
      ∀ m, parseModeSettings r.params = some m →
        (∀ h ∈ hotkeyList s.tables.hotkeys, ∀ mods key, h.trigger = .chord mods key → key ≠ m.leaderKey) →
        m.leaderKey = s.tables.modeSettings.leaderKey → m.ageLimit = s.tables.modeSettings.ageLimit →
        exec (.writeModeSettings r) s =
          .next (answered r 0x12#8 .ok [] { s with tables := { s.tables with modeSettings := m } })) ∧
    (Admitted 11 .configure false r s → ∀ m, parseModeSettings r.params = some m →
      ((∃ n h mods, s.hotkey n = some h ∧ h.trigger = .chord mods m.leaderKey) →
        exec (.writeModeSettings r) s = .next (answered r 0x12#8 .conflict [] s)) ∧
      ((∀ n h mods, s.hotkey n = some h → h.trigger ≠ .chord mods m.leaderKey) → ∀ u : State,
        u =
          { s with
            tables := { s.tables with modeSettings := m }
            recognizer :=
              if m.leaderKey = s.tables.modeSettings.leaderKey then s.recognizer
              else
                match s.recognizer with
                | .command buffer e => .command buffer e
                | _ => .idle } →
        (m.ageLimit = 0 ∨ (s.tables.modeSettings.ageLimit ≠ 0 ∧ s.tables.modeSettings.ageLimit ≤ m.ageLimit) →
          exec (.writeModeSettings r) s = .next (answered r 0x12#8 .ok [] u)) ∧
        (m.ageLimit ≠ 0 →
          s.tables.modeSettings.ageLimit = 0 ∨ m.ageLimit < s.tables.modeSettings.ageLimit →
          HeldDistinct s.keys.held →
          ∃ t, exec (.writeModeSettings r) s = .next (answered r 0x12#8 .ok [] t) ∧
            t.keys.held =
              s.keys.held.map
                (fun e => if hasAged u e = true then { e with owners := 0#8, stale := true } else e) ∧
            (∀ k, (∃ e ∈ s.keys.held, hasAged u e = true ∧ inSet e.owners k = true) →
              t.keys.snapshots.get k = t.snapshot k) ∧
            (∀ k, (∀ e ∈ s.keys.held, hasAged u e = true → inSet e.owners k = false) →
              t.keys.snapshots.get k = s.keys.snapshots.get k ∧ t.port k = s.port k) ∧
            (∀ k, t.port k =
              { s.port k with queue := (t.port k).queue, resync := (t.port k).resync }) ∧
            t.keys.buttons = s.keys.buttons ∧ t.keys.overflow = s.keys.overflow ∧
            t = { u with keys := t.keys, ports := t.ports })))

/-- LAYOUT REVERT copies the committed layout onto the staged one and answers OK, whether they differ or not, and touches
nothing else (R68). -/
def Obligations.LayoutRevertCopies : Prop :=
  ∀ (r : CommandReport) (s : State), Admitted 0 .configure false r s →
    exec (.layoutRevert r) s =
      .next (answered r 0x21#8 .ok [] { s with tables := { s.tables with staged := s.tables.committed } })

/-- LAYOUT COMMIT of a staged layout that fails a check names the first offending screen and changes nothing (R66); one
that passes is put in force, with residues and push cleared, an OFF pointer left OFF and a pointer whose screen is still
an enterable screen of the focus kept at its offset, and any other relocated (R67, R84, R85). -/
def Obligations.LayoutCommitChecksAndApplies : Prop :=
  ∀ (r : CommandReport) (s : State), Admitted 0 .configure false r s →
    (∀ sc refusal, layoutFault s.tables.staged = some (sc, refusal) →
      exec (.layoutCommit r) s = .next (answered r 0x20#8 refusal [byteOf sc.val] s)) ∧
    (layoutFault s.tables.staged = none → ∀ u : State,
      u =
        { s with
          tables := { s.tables with committed := s.tables.staged }
          pointer := { s.pointer with rx := 0, ry := 0, push := none } } →
      (s.pointer.place = none → exec (.layoutCommit r) s = .next (answered r 0x20#8 .ok [] u)) ∧
      (∀ p f, s.pointer.place = some p → s.focusUnit.focus = some f → isFocusScreen u p.screen = false →
        ∃ t, exec (.layoutCommit r) s = .next (answered r 0x20#8 .ok [] t) ∧ Relocated f u t) ∧
      ∀ p, s.pointer.place = some p → isFocusScreen u p.screen = true →
        exec (.layoutCommit r) s =
          .next
            (answered r 0x20#8 .ok []
              { u with
                pointer :=
                  { u.pointer with
                    place :=
                      some
                        { screen := p.screen
                          x :=
                            (u.placement p.screen).x0 +
                              min (p.x - (s.placement p.screen).x0) ((u.placement p.screen).w - 1)
                          y :=
                            (u.placement p.screen).y0 +
                              min (p.y - (s.placement p.screen).y0) ((u.placement p.screen).h - 1) } } }))

/-- TABLE READ of each table answers the record of its index, NOT_FOUND for an empty hotkey or schedule slot; TABLE
SEARCH of HOTKEY and WINDOW answers the lowest index that matches, or NOT_FOUND; an index outside the table is
BAD_ARGUMENT (R23, R65, R90, R148, R159, R178). The free byte of a preset is log entry 3. That a search for a LEADER
trigger does not read the modifier byte, and that bytes that form no trigger and no computer are answered NOT_FOUND, is
the model's reading, log entry 11; that a row whose first parameter is another table's number is BAD_ARGUMENT is the
model's reading, log entry 6. -/
def Obligations.TableReadsAndSearches : Prop :=
  ∀ (r : CommandReport) (s : State),
    (Admitted 2 .read true r s →
      (∀ i : Fin 32, natAt r.params 0 = 1 → natAt r.params 1 = i.val →
        (∀ h, s.hotkey i = some h → exec (.tableReadHotkey r) s = .next (answered r 0x18#8 .ok (hotkeyBytes h) s)) ∧
        (s.hotkey i = none → exec (.tableReadHotkey r) s = .next (answered r 0x18#8 .notFound [] s))) ∧
      (∀ j : Input, natAt r.params 0 = 2 → natAt r.params 1 = j.val →
        exec (.tableReadWindow r) s = .next (answered r 0x18#8 .ok (windowBytes (s.window j)) s)) ∧
      (∀ k : Computer, natAt r.params 0 = 3 → natAt r.params 1 = k.val →
        exec (.tableReadPortSettings r) s =
          .next (answered r 0x18#8 .ok (portSettingsBytes (s.settingsOf k)) s)) ∧
      (∀ p : PresetIndex, natAt r.params 0 = 4 → natAt r.params 1 = p.val →
        exec (.tableReadPreset r) s =
          .next
            (answered r 0x18#8 .ok (presetBytes (Config.freeByte s.freeUses 10) (s.preset p))
              { s with freeUses := s.freeUses + 1 })) ∧
      (∀ sc : Screen, natAt r.params 0 = 5 → natAt r.params 1 = sc.val →
        exec (.tableReadLayoutStaged r) s =
          .next (answered r 0x18#8 .ok (placementBytes (s.tables.staged.get sc)) s)) ∧
      (∀ sc : Screen, natAt r.params 0 = 6 → natAt r.params 1 = sc.val →
        exec (.tableReadLayoutCommitted r) s =
          .next (answered r 0x18#8 .ok (placementBytes (s.tables.committed.get sc)) s)) ∧
      ∀ i : ScheduleIndex, natAt r.params 0 = 7 → natAt r.params 1 = i.val →
        (∀ e, s.entry i = some e →
          exec (.tableReadSchedule r) s =
            .next
              (answered r 0x18#8 .ok
                (le32 e.due.toNat ++ le32 (e.due - s.clock).toNat ++ [byteOf (actionCode e.action)] ++
                  le16 (actionArgument e.action) ++ [originByte e.origin]) s)) ∧
        (s.entry i = none → exec (.tableReadSchedule r) s = .next (answered r 0x18#8 .notFound [] s))) ∧
    (Admitted 2 .read true r s → ∃ u : State, u = { s with freeUses := s.freeUses + 1 } ∧
      (natAt r.params 0 ≠ 1 ∨ 32 ≤ natAt r.params 1 →
        exec (.tableReadHotkey r) s = .next (answered r 0x18#8 .badArgument [] s)) ∧
      (natAt r.params 0 ≠ 2 ∨ 16 ≤ natAt r.params 1 →
        exec (.tableReadWindow r) s = .next (answered r 0x18#8 .badArgument [] s)) ∧
      (natAt r.params 0 ≠ 3 ∨ 8 ≤ natAt r.params 1 →
        exec (.tableReadPortSettings r) s = .next (answered r 0x18#8 .badArgument [] s)) ∧
      (natAt r.params 0 ≠ 4 ∨ 8 ≤ natAt r.params 1 →
        exec (.tableReadPreset r) s = .next (answered r 0x18#8 .badArgument [] u)) ∧
      (natAt r.params 0 ≠ 5 ∨ 8 ≤ natAt r.params 1 →
        exec (.tableReadLayoutStaged r) s = .next (answered r 0x18#8 .badArgument [] s)) ∧
      (natAt r.params 0 ≠ 6 ∨ 8 ≤ natAt r.params 1 →
        exec (.tableReadLayoutCommitted r) s = .next (answered r 0x18#8 .badArgument [] s)) ∧
      (natAt r.params 0 ≠ 7 ∨ 8 ≤ natAt r.params 1 →
        exec (.tableReadSchedule r) s = .next (answered r 0x18#8 .badArgument [] s))) ∧
    (Admitted 7 .read true r s → natAt r.params 0 = 1 → parseTrigger (r.params.drop 1) = none →
      exec (.tableSearchHotkey r) s = .next (answered r 0x1B#8 .notFound [] s)) ∧
    (Admitted 2 .read true r s → natAt r.params 0 = 2 → parseComputer (byteAt r.params 1) = none →
      exec (.tableSearchWindow r) s = .next (answered r 0x1B#8 .notFound [] s)) ∧
    (Admitted 7 .read true r s → natAt r.params 0 = 1 →
      ∀ t : Trigger, parseTrigger (r.params.drop 1) = some t →
        (∀ (i : Fin 32) h, s.hotkey i = some h → h.trigger = t →
          (∀ j, j < i → ∀ g, s.hotkey j = some g → g.trigger ≠ t) →
          exec (.tableSearchHotkey r) s = .next (answered r 0x1B#8 .ok [byteOf i.val] s)) ∧
        ((∀ (i : Fin 32) h, s.hotkey i = some h → h.trigger ≠ t) →
          exec (.tableSearchHotkey r) s = .next (answered r 0x1B#8 .notFound [] s))) ∧
    (Admitted 2 .read true r s → natAt r.params 0 = 2 →
      ∀ c : Option Computer, parseComputer (byteAt r.params 1) = some c →
        (∀ j : Input, (s.window j).computer = c → (∀ l, l < j → (s.window l).computer ≠ c) →
          exec (.tableSearchWindow r) s = .next (answered r 0x1B#8 .ok [byteOf j.val] s)) ∧
        ((∀ j : Input, (s.window j).computer ≠ c) →
          exec (.tableSearchWindow r) s = .next (answered r 0x1B#8 .notFound [] s)))

/-- TABLE WRITE replaces the record of its index when the owner's checks pass, and answers BAD_ARGUMENT, DUPLICATE or
CONFLICT otherwise with nothing changed; a window record rewritten under the pointer relocates it when its screen is no
longer the focus's (R84, R85, R91). TABLE DELETE empties a hotkey slot or a preset, or answers NOT_FOUND; an index
outside the table is BAD_ARGUMENT (R23 to R25, R65, R90, R148, R178). That a write takes bits 3 to 7 of the port
settings, unused key bytes and the index of a share without one whatever they hold is the model's reading, log entry 10;
that a row whose first parameter is another table's number is BAD_ARGUMENT is the model's reading, log entry 6. -/
def Obligations.TableWritesAndDeletes : Prop :=
  ∀ (r : CommandReport) (s : State),
    (Admitted 11 .configure false r s →
      (natAt r.params 0 ≠ 1 ∨ 32 ≤ natAt r.params 1 →
        exec (.tableWriteHotkey r) s = .next (answered r 0x19#8 .badArgument [] s)) ∧
      (natAt r.params 0 ≠ 5 ∨ 8 ≤ natAt r.params 1 →
        exec (.tableWriteLayoutStaged r) s = .next (answered r 0x19#8 .badArgument [] s))) ∧
    (Admitted 13 .configure false r s →
      (natAt r.params 0 ≠ 2 ∨ 16 ≤ natAt r.params 1 ∨ parseWindow (r.params.drop 2) = none →
        exec (.tableWriteWindow r) s = .next (answered r 0x19#8 .badArgument [] s)) ∧
      (natAt r.params 0 ≠ 4 ∨ 8 ≤ natAt r.params 1 ∨ parsePreset (r.params.drop 2) = none →
        exec (.tableWritePreset r) s = .next (answered r 0x19#8 .badArgument [] s)) ∧
      ∀ (j : Input) w p (u : State), natAt r.params 0 = 2 → natAt r.params 1 = j.val →
        parseWindow (r.params.drop 2) = some w → w.computer ≠ (s.window j).computer →
        s.pointer.place = some p → intendedOf (s.screen p.screen) = some j →
        u = { s with tables := { s.tables with windows := s.tables.windows.set j.val w j.isLt } } →
        (isFocusScreen u p.screen = true →
          exec (.tableWriteWindow r) s = .next (answered r 0x19#8 .ok [] u)) ∧
        (isFocusScreen u p.screen = false → ∀ f, s.focusUnit.focus = some f →
          ∃ t, exec (.tableWriteWindow r) s = .next (answered r 0x19#8 .ok [] t) ∧ Relocated f u t)) ∧
    (Admitted 5 .configure false r s →
      natAt r.params 0 ≠ 3 ∨ 8 ≤ natAt r.params 1 ∨ parsePortSettings (r.params.drop 2) = none →
      exec (.tableWritePortSettings r) s = .next (answered r 0x19#8 .badArgument [] s)) ∧
    (Admitted 2 .configure false r s →
      (natAt r.params 0 ≠ 1 ∨ 32 ≤ natAt r.params 1 →
        exec (.tableDeleteHotkey r) s = .next (answered r 0x1A#8 .badArgument [] s)) ∧
      (natAt r.params 0 ≠ 4 ∨ 8 ≤ natAt r.params 1 →
        exec (.tableDeletePreset r) s = .next (answered r 0x1A#8 .badArgument [] s))) ∧
    (Admitted 11 .configure false r s →
      (∀ i : Fin 32, natAt r.params 0 = 1 → natAt r.params 1 = i.val →
        (parseHotkey (r.params.drop 2) = none →
          exec (.tableWriteHotkey r) s = .next (answered r 0x19#8 .badArgument [] s)) ∧
        ∀ h, parseHotkey (r.params.drop 2) = some h →
          (∀ refusal, hotkeyConflict (otherHotkeys s i) s.tables.modeSettings.leaderKey h = some refusal →
            exec (.tableWriteHotkey r) s = .next (answered r 0x19#8 refusal [] s)) ∧
          (hotkeyConflict (otherHotkeys s i) s.tables.modeSettings.leaderKey h = none →
            exec (.tableWriteHotkey r) s =
              .next
                (answered r 0x19#8 .ok []
                  { s with
                    tables :=
                      { s.tables with hotkeys := s.tables.hotkeys.set i.val (some h) i.isLt } }))) ∧
      ∀ sc : Screen, natAt r.params 0 = 5 → natAt r.params 1 = sc.val →
        exec (.tableWriteLayoutStaged r) s =
          .next
            (answered r 0x19#8 .ok []
              { s with
                tables :=
                  { s.tables with
                    staged :=
                      s.tables.staged.set sc.val (parsePlacement (r.params.drop 2)) sc.isLt } })) ∧
    (Admitted 13 .configure false r s →
      (∀ (j : Input) w, natAt r.params 0 = 2 → natAt r.params 1 = j.val → parseWindow (r.params.drop 2) = some w →
        w.computer = (s.window j).computer ∨ (∀ p ∈ s.pointer.place, intendedOf (s.screen p.screen) ≠ some j) →
        exec (.tableWriteWindow r) s =
          .next
            (answered r 0x19#8 .ok []
              { s with
                tables := { s.tables with windows := s.tables.windows.set j.val w j.isLt } })) ∧
      ∀ (p : PresetIndex) pr, natAt r.params 0 = 4 → natAt r.params 1 = p.val →
        parsePreset (r.params.drop 2) = some pr →
        exec (.tableWritePreset r) s =
          .next
            (answered r 0x19#8 .ok []
              { s with
                tables := { s.tables with presets := s.tables.presets.set p.val pr p.isLt } })) ∧
    (Admitted 5 .configure false r s →
      ∀ (k : Computer) ps, natAt r.params 0 = 3 → natAt r.params 1 = k.val →
        parsePortSettings (r.params.drop 2) = some ps →
        exec (.tableWritePortSettings r) s =
          .next
            (answered r 0x19#8 .ok []
              { s with
                tables := { s.tables with portSettings := s.tables.portSettings.set k.val ps k.isLt } })) ∧
    (Admitted 2 .configure false r s →
      (∀ i : Fin 32, natAt r.params 0 = 1 → natAt r.params 1 = i.val →
        (s.hotkey i = none → exec (.tableDeleteHotkey r) s = .next (answered r 0x1A#8 .notFound [] s)) ∧
        (s.hotkey i ≠ none →
          exec (.tableDeleteHotkey r) s =
            .next
              (answered r 0x1A#8 .ok []
                { s with
                  tables := { s.tables with hotkeys := s.tables.hotkeys.set i.val none i.isLt } }))) ∧
      ∀ p : PresetIndex, natAt r.params 0 = 4 → natAt r.params 1 = p.val →
        (s.preset p = emptyPreset →
          exec (.tableDeletePreset r) s = .next (answered r 0x1A#8 .notFound [] s)) ∧
        (s.preset p ≠ emptyPreset →
          exec (.tableDeletePreset r) s =
            .next
              (answered r 0x1A#8 .ok []
                { s with
                  tables := { s.tables with presets := s.tables.presets.set p.val emptyPreset p.isLt } })))

/-- The table accesses that R178's table answers with BAD_ARGUMENT whatever they carry, a table number that names no
table among them: the slot is written and nothing else changes. That a row whose first parameter is another table's number
is answered so is the model's reading, log entry 6. -/
def Obligations.TableRefusals : Prop :=
  ∀ (r : CommandReport) (s : State),
    (Admitted 2 .read true r s →
      exec (.tableNumberUnknown .read r) s = .next (answered r 0x18#8 .badArgument [] s)) ∧
    (Admitted 1 .read true r s →
      exec (.tableNumberUnknown .search r) s = .next (answered r 0x1B#8 .badArgument [] s) ∧
        exec (.tableSearchPortSettings r) s = .next (answered r 0x1B#8 .badArgument [] s) ∧
        exec (.tableSearchPreset r) s = .next (answered r 0x1B#8 .badArgument [] s) ∧
        exec (.tableSearchLayoutStaged r) s = .next (answered r 0x1B#8 .badArgument [] s) ∧
        exec (.tableSearchLayoutCommitted r) s = .next (answered r 0x1B#8 .badArgument [] s) ∧
        exec (.tableSearchSchedule r) s = .next (answered r 0x1B#8 .badArgument [] s)) ∧
    (∀ n, 2 ≤ n → n ≤ 56 → Admitted n .configure false r s →
      exec (.tableNumberUnknown .write r) s = .next (answered r 0x19#8 .badArgument [] s)) ∧
    (Admitted 11 .configure false r s →
      exec (.tableWriteLayoutCommitted r) s = .next (answered r 0x19#8 .badArgument [] s)) ∧
    (Admitted 14 .configure false r s →
      exec (.tableWriteSchedule r) s = .next (answered r 0x19#8 .badArgument [] s)) ∧
    (Admitted 2 .configure false r s →
      exec (.tableNumberUnknown .delete r) s = .next (answered r 0x1A#8 .badArgument [] s) ∧
        exec (.tableDeleteWindow r) s = .next (answered r 0x1A#8 .badArgument [] s) ∧
        exec (.tableDeletePortSettings r) s = .next (answered r 0x1A#8 .badArgument [] s) ∧
        exec (.tableDeleteLayoutStaged r) s = .next (answered r 0x1A#8 .badArgument [] s) ∧
        exec (.tableDeleteLayoutCommitted r) s = .next (answered r 0x1A#8 .badArgument [] s) ∧
        exec (.tableDeleteSchedule r) s = .next (answered r 0x1A#8 .badArgument [] s))

/-- A management command that a check of R169 refuses, in its order BAD_LENGTH, LOCKED, BUSY, has its result in the
issuing port's slot and changes nothing else; a report from a port that is not READY does nothing, and one from a port
outside the management port set or for another desk is counted (R117, R167, R169 to R171). -/
def Obligations.RefusedCommandsChangeOnlyTheSlot : Prop :=
  ∀ (i : Instr) (r : CommandReport) (c : CommandSpec) (s : State), commandOf i = some (r, c) →
    (reachesEngine r s = true →
      (lengthAllowed c r.length = false → exec i s = .next (answered r c.code .badLength [] s)) ∧
      (lengthAllowed c r.length = true → levelAllows s.settings.lockLevel c.cls = false →
        exec i s = .next (answered r c.code .locked [] s)) ∧
      (lengthAllowed c r.length = true → levelAllows s.settings.lockLevel c.cls = true →
        s.engine ≠ none → c.whileBusy = false → exec i s = .next (answered r c.code .busy [] s))) ∧
    ((s.port r.port).link ≠ .ready → exec i s = .next s) ∧
    ((s.port r.port).link = .ready → s.isManagement r.port = false →
      exec i s = .next { s with foreign := min (s.foreign + 1) 65535 }) ∧
    ((s.port r.port).link = .ready → s.isManagement r.port = true → deskMatches s r.deskMatch = false →
      exec i s = .next { s with mismatches := min (s.mismatches + 1) 65535 })

/-! ACT. -/

/-- What a focus change to k leaves (R52 to R55): focus, the broadcast set of R54, the modifier carry of R53 in the
held-key table, the pointer of R47 and R50 with residues and push cleared, the LED value sent, the FOCUS record; when k's
port is SUSPENDED, armed and set to wake on focus, the wake signal and the WAKE_SENT record follow (R56, R125). Of the ports
nothing else changes but queues and RESYNC, and buttons, the console lock, the tables and the crosspoint stay. -/
def Obligations.FocusChangeEffects : Prop :=
  ∀ (k : Computer) (cause : Cause) (s t : State), t = focusChange k cause s →
    t.focusUnit =
      { focus := some k, locked := s.focusUnit.locked
        broadcast :=
          if s.focusUnit.focus.map s.domainOf = some (s.domainOf k) then without s.focusUnit.broadcast k
          else 0#8 } ∧
    (∀ f, s.focusUnit.focus = some f →
      t.keys.held =
        s.keys.held.map (fun e =>
          if s.tables.modeWord.getLsbD 2 = true ∧ isModifier e.usage = true ∧ inSet e.owners f = true then
            { e with
              owners :=
                if s.domainOf k = s.domainOf f ∧ s.queueable k = true then including (without e.owners f) k
                else without e.owners f }
          else e)) ∧
    (s.focusUnit.focus = none → t.keys.held = s.keys.held) ∧
    t.pointer.rx = 0 ∧ t.pointer.ry = 0 ∧ t.pointer.push = none ∧
    (cause = .glide ∨ cause = .relocate → t.pointer.place = s.pointer.place ∧ t.pointer.headless = false) ∧
    (cause ≠ .glide → cause ≠ .relocate →
      t.pointer.place = (lowestScreenOf s k).map (fun sc => centreOf sc (s.placement sc)) ∧
        t.pointer.headless = (lowestScreenOf s k).isNone) ∧
    t.console.ledSent = ledValue t ∧
    (s.journal.records.length < 32 →
      ∃ more, t.journal.records =
        s.journal.records ++ { time := s.clock, event := .focus s.focusUnit.focus k cause } :: more) ∧
    (∀ woken : Bool,
      (woken = true ↔
        (s.port k).link = .suspended ∧ (s.port k).armed = true ∧ (s.settingsOf k).wakeOnFocus = true) →
      t.journal =
        (if woken = true then
          (record (.wakeSent k) (record (.focus s.focusUnit.focus k cause) s)).journal
         else (record (.focus s.focusUnit.focus k cause) s).journal) ∧
      t.sent =
        s.sent ++ (if ledValue t = s.console.ledSent then [] else [.ledNotice (ledValue t)]) ++
          (if woken = true then [.wakeSignal k] else []) ∧
      t.port k =
        { s.port k with
          queue := (t.port k).queue
          resync := (t.port k).resync
          link := if woken = true then .waking else (s.port k).link
          attempt :=
            if woken = true then
              some
                { signals := 1, retryLimit := (s.settingsOf k).retries, timeout := (s.settingsOf k).timeout
                  expiry := s.clock + BitVec.ofNat 32 (1000 * (s.settingsOf k).timeout) }
            else (s.port k).attempt }) ∧
    (∀ j, j ≠ k → t.port j = { s.port j with queue := (t.port j).queue, resync := (t.port j).resync }) ∧
    t.keys.buttons = s.keys.buttons ∧ t.keys.overflow = s.keys.overflow ∧
    t =
      { s with
        sent := t.sent, console := { s.console with ledSent := t.console.ledSent }, keys := t.keys,
        focusUnit := t.focusUnit, pointer := t.pointer, ports := t.ports, journal := t.journal }

/-- ACT FOCUS, CYCLE, SELECT and APPLY_PRESET: FOCUS and CYCLE make the focus change that R47 and R49 give, or answer
NOT_PRESENT or NO_CHANGE; SELECT makes the home requests and then the focus part, and is deferred when a request is
pending (R48, R147); a preset writes its PRESET record, makes its requests, its share and its focus in that order (R149);
an empty preset leaves nothing but its record. -/
def Obligations.FocusActions : Prop :=
  ∀ (r : CommandReport) (s : State), Admitted 3 .operate false r s →
    (∀ k : Computer, natAt r.params 0 = 1 → read16 r.params 1 = k.val →
      ((s.port k).link ≠ .detached → s.focusUnit.focus ≠ some k →
        exec (.actFocus r) s = .next (answered r 0x28#8 .ok [] (focusChange k .management s))) ∧
      ((s.port k).link = .detached → exec (.actFocus r) s = .next (answered r 0x28#8 .notPresent [] s)) ∧
      ((s.port k).link ≠ .detached → s.focusUnit.focus = some k →
        exec (.actFocus r) s = .next (answered r 0x28#8 .noChange [] s))) ∧
    (∀ (f : Computer) (n : Fin 8), natAt r.params 0 = 3 → read16 r.params 1 = 0xFFFF →
      s.focusUnit.focus = some f → n ≠ 0 → s.queueable (f + n) = true → s.domainOf (f + n) = s.domainOf f →
      (∀ m : Fin 8, m ≠ 0 → m < n → ¬ (s.queueable (f + m) = true ∧ s.domainOf (f + m) = s.domainOf f)) →
      exec (.actCycle r) s = .next (answered r 0x28#8 .ok [] (focusChange (f + n) .management s))) ∧
    (natAt r.params 0 = 3 → read16 r.params 1 = 0xFFFF →
      (∀ f, s.focusUnit.focus = some f →
        ∀ n : Fin 8, n ≠ 0 → ¬ (s.queueable (f + n) = true ∧ s.domainOf (f + n) = s.domainOf f)) →
      exec (.actCycle r) s = .next (answered r 0x28#8 .noChange [] s)) ∧
    (∀ k : Computer, natAt r.params 0 = 2 → read16 r.params 1 = k.val → s.queueable k = false →
      exec (.actSelect r) s = .next (answered r 0x28#8 .notPresent [] s)) ∧
    (∀ (k : Computer) (reqs : List (Screen × Source)) (touched : List Touched) (u : State),
      natAt r.params 0 = 2 → read16 r.params 1 = k.val → s.queueable k = true →
      reqs = eight.filterMap (fun sc => (homeInput s k sc).map (fun j => (sc, some j))) →
      touched = touchedByAll s reqs →
      u = recheckPointer (isTouched touched) (selectFocus k .management (requestSources reqs s)) →
      exec (.actSelect r) s =
        .next
          (if anyPending touched = true then deferred r .select (.screens touched) false u
           else answered r 0x28#8 .ok [] u)) ∧
    (∀ (p : PresetIndex) (touched : List Touched) (u : State), natAt r.params 0 = 5 → read16 r.params 1 = p.val →
      touched = touchedByAll s (presetRequests (s.preset p)) →
      u =
        recheckPointer (isTouched touched)
          (presetFocus (s.preset p)
            (presetShare (s.preset p) (requestSources (presetRequests (s.preset p)) (record (.preset p) s)))) →
      exec (.actApplyPreset r) s =
        .next
          (if anyPending touched = true then
            deferred r .applyPreset (.screens touched) (presetSkips (s.preset p) s) u
           else answered r 0x28#8 (if presetSkips (s.preset p) s = true then .partly else .ok) [] u)) ∧
    ∀ p : PresetIndex, natAt r.params 0 = 5 → read16 r.params 1 = p.val → s.preset p = emptyPreset →
      exec (.actApplyPreset r) s = .next (answered r 0x28#8 .ok [] (record (.preset p) s))

/-- ACT WAKE: a SUSPENDED armed port sends the wake signal, enters WAKING with an attempt of its own copies and one
timeout's timer, and the command is deferred with a WAKE_SENT record (R125, R131); every other link state has its answer
and changes no port state (R126). -/
def Obligations.WakeAction : Prop :=
  ∀ (r : CommandReport) (k : Computer) (s : State), Admitted 3 .operate false r s → natAt r.params 0 = 4 →
    read16 r.params 1 = k.val →
    ((s.port k).link = .suspended → (s.port k).armed = true →
      exec (.actWake r) s =
        .next
          (deferred r .wake (.wakeOf k) false
            (record (.wakeSent k)
              { s.setPort k
                  { s.port k with
                    link := .waking
                    attempt :=
                      some
                        { signals := 1, retryLimit := (s.settingsOf k).retries, timeout := (s.settingsOf k).timeout
                          expiry := s.clock + BitVec.ofNat 32 (1000 * (s.settingsOf k).timeout) } } with
                sent := s.sent ++ [.wakeSignal k] }))) ∧
    ((s.port k).link = .suspended → (s.port k).armed = false →
      exec (.actWake r) s = .next (answered r 0x28#8 .notArmed [] s)) ∧
    ((s.port k).link = .waking ∨ (s.port k).link = .ready →
      exec (.actWake r) s = .next (answered r 0x28#8 .noChange [] s)) ∧
    ((s.port k).link = .attached ∨ (s.port k).link = .detached →
      exec (.actWake r) s = .next (answered r 0x28#8 .notPresent [] s))

/-- ACT SHARE, SHARE_SCREEN, UNSHARE and SHARE_FOR set the share-out selection with its journal record, or answer
NO_CHANGE when it stands already and NO_SCREEN for an OFF pointer; SHARE_FOR first inserts its UNSHARE into the
lowest-numbered empty slot with origin MANAGEMENT, or is refused with TABLE_FULL (R152 to R154, R166). -/
def Obligations.ShareActions : Prop :=
  ∀ (r : CommandReport) (s : State), Admitted 3 .operate false r s →
    (natAt r.params 0 = 6 → read16 r.params 1 = 0xFFFF →
      (s.pointer.place = none → exec (.actShare r) s = .next (answered r 0x28#8 .noScreen [] s)) ∧
      ∀ p, s.pointer.place = some p →
        (s.video.share.selection ≠ .screen p.screen →
          exec (.actShare r) s =
            .next
              (answered r 0x28#8 .ok []
                (record (.share (.screen p.screen))
                  (s.setShare { s.video.share with selection := .screen p.screen })))) ∧
        (s.video.share.selection = .screen p.screen →
          exec (.actShare r) s = .next (answered r 0x28#8 .noChange [] s))) ∧
    (∀ sc : Screen, natAt r.params 0 = 7 → read16 r.params 1 = sc.val → s.video.share.selection ≠ .screen sc →
      exec (.actShareScreen r) s =
        .next
          (answered r 0x28#8 .ok []
            (record (.share (.screen sc)) (s.setShare { s.video.share with selection := .screen sc })))) ∧
    (natAt r.params 0 = 9 → read16 r.params 1 = 0xFFFF →
      (s.video.share.selection ≠ .nothing →
        exec (.actUnshare r) s =
          .next
            (answered r 0x28#8 .ok []
              (record .unshare (s.setShare { s.video.share with selection := .nothing })))) ∧
      (s.video.share.selection = .nothing →
        exec (.actUnshare r) s = .next (answered r 0x28#8 .noChange [] s))) ∧
    (natAt r.params 0 = 8 → 1 ≤ read16 r.params 1 → read16 r.params 1 ≤ 3600 →
      (s.pointer.place = none → exec (.actShareFor r) s = .next (answered r 0x28#8 .noScreen [] s)) ∧
      ∀ p, s.pointer.place = some p →
        ((∀ i, s.entry i ≠ none) → exec (.actShareFor r) s = .next (answered r 0x28#8 .tableFull [] s)) ∧
        ∀ (i : ScheduleIndex) (due : Millis) (u : State), s.entry i = none → (∀ j, j < i → s.entry j ≠ none) →
          due = s.clock + BitVec.ofNat 32 (read16 r.params 1 * 1000) →
          u = s.setEntry i (some { due := due, action := .unshare, origin := .management }) →
          exec (.actShareFor r) s =
            .next
              (answered r 0x28#8 .ok (byteOf i.val :: le32 due.toNat)
                (if s.video.share.selection = .screen p.screen then u
                 else
                  record (.share (.screen p.screen))
                    (u.setShare { s.video.share with selection := .screen p.screen }))))

/-- ACT LOCK empties every owner set and button record, clears the push and writes a LOCK record, and keeps entries,
focus, broadcast set, headless mark and mode word (R62); ACT UNLOCK unlocks with its record and restores no owner (R63);
either answers NO_CHANGE when there is nothing to do. -/
def Obligations.LockActions : Prop :=
  ∀ (r : CommandReport) (s : State), Admitted 3 .operate false r s → read16 r.params 1 = 0xFFFF →
    (natAt r.params 0 = 10 →
      (s.focusUnit.locked = true → exec (.actLock r) s = .next (answered r 0x28#8 .noChange [] s)) ∧
      (s.focusUnit.locked = false →
        ∃ t, exec (.actLock r) s = .next (answered r 0x28#8 .ok [] t) ∧
          t.focusUnit = { s.focusUnit with locked := true } ∧
          t.keys.held = s.keys.held.map (fun e => { e with owners := 0#8 }) ∧
          (∀ b, t.keys.buttons.get b = none) ∧ t.keys.overflow = s.keys.overflow ∧
          t.pointer = { s.pointer with push := none } ∧ t.journal = (record .lock s).journal ∧
          (∀ k, t.port k =
            { s.port k with
              queue := (t.port k).queue, resync := (t.port k).resync, lastPair := (t.port k).lastPair }) ∧
          t =
            { s with
              keys := t.keys, focusUnit := t.focusUnit, pointer := t.pointer, ports := t.ports,
              journal := t.journal })) ∧
    (natAt r.params 0 = 11 →
      (s.focusUnit.locked = false → exec (.actUnlock r) s = .next (answered r 0x28#8 .noChange [] s)) ∧
      (s.focusUnit.locked = true →
        exec (.actUnlock r) s =
          .next
            (answered r 0x28#8 .ok []
              (record .unlock { s with focusUnit := { s.focusUnit with locked := false } }))))

/-- ACT BROADCAST_TOGGLE, BROADCAST_OFF and HOLD_TOGGLE, and SET BROADCAST, change the broadcast set or FOCUS_HOLD as R58,
R59 and R87 give, with their refusals, and no held key, snapshot or push. -/
def Obligations.BroadcastAndHoldActions : Prop :=
  ∀ (r : CommandReport) (s : State),
    (Admitted 3 .operate false r s →
      (∀ k : Computer, natAt r.params 0 = 12 → read16 r.params 1 = k.val →
        (inSet s.focusUnit.broadcast k = true →
          exec (.actBroadcastToggle r) s =
            .next
              (answered r 0x28#8 .ok []
                { s with focusUnit := { s.focusUnit with broadcast := without s.focusUnit.broadcast k } })) ∧
        (inSet s.focusUnit.broadcast k = false →
          (s.focusUnit.focus = some k →
            exec (.actBroadcastToggle r) s = .next (answered r 0x28#8 .noChange [] s)) ∧
          (s.focusUnit.focus ≠ some k → s.focusUnit.focus.map s.domainOf ≠ some (s.domainOf k) →
            exec (.actBroadcastToggle r) s = .next (answered r 0x28#8 .domain [] s)) ∧
          (s.focusUnit.focus ≠ some k → s.focusUnit.focus.map s.domainOf = some (s.domainOf k) →
            (s.queueable k = false →
              exec (.actBroadcastToggle r) s = .next (answered r 0x28#8 .notPresent [] s)) ∧
            (s.queueable k = true →
              exec (.actBroadcastToggle r) s =
                .next
                  (answered r 0x28#8 .ok []
                    { s with
                      focusUnit :=
                        { s.focusUnit with broadcast := including s.focusUnit.broadcast k } }))))) ∧
      (natAt r.params 0 = 13 → read16 r.params 1 = 0xFFFF →
        exec (.actBroadcastOff r) s =
          .next
            (answered r 0x28#8 (if s.focusUnit.broadcast = 0#8 then .noChange else .ok) []
              { s with focusUnit := { s.focusUnit with broadcast := 0#8 } })) ∧
      (natAt r.params 0 = 14 → read16 r.params 1 = 0xFFFF →
        exec (.actHoldToggle r) s =
          .next
            (answered r 0x28#8 .ok []
              { s with tables := { s.tables with modeWord := s.tables.modeWord ^^^ 2#6 } }))) ∧
    (Admitted 1 .operate false r s → ∀ kept : ComputerSet,
      (∀ k, inSet kept k = true ↔
        (inSet (byteAt r.params 0) k = true ∧ s.focusUnit.focus ≠ some k ∧
          s.focusUnit.focus.map s.domainOf = some (s.domainOf k) ∧ s.queueable k = true)) →
      exec (.setBroadcast r) s =
        .next
          (answered r 0x2A#8 (if kept = byteAt r.params 0 then .ok else .partly) [kept]
            { s with focusUnit := { s.focusUnit with broadcast := kept } }))

/-- SET SCREEN makes one source request: NO_CHANGE for the intended source, DONE with a commit at once for an ABSENT sink,
and deferred with the source pending for a PRESENT one; a screen or a source outside its values is BAD_ARGUMENT (R140,
R171, R181). A pointer that stands on the screen is relocated when the request leaves it no screen of the focus (R84, R85). -/
def Obligations.SetScreenRequests : Prop :=
  ∀ (r : CommandReport) (s : State), Admitted 2 .operate false r s →
    (8 ≤ natAt r.params 0 ∨ parseSource (byteAt r.params 1) = none →
      exec (.setScreen r) s = .next (answered r 0x29#8 .badArgument [] s)) ∧
    (∀ (sc : Screen) (src : Source), natAt r.params 0 = sc.val → parseSource (byteAt r.params 1) = some src →
      (∀ p ∈ s.pointer.place, p.screen ≠ sc) →
      ((s.screen sc).pending.getD (s.screen sc).committed = src →
        exec (.setScreen r) s = .next (answered r 0x29#8 .noChange [] s)) ∧
      ((s.screen sc).pending.getD (s.screen sc).committed ≠ src →
        ((s.screen sc).sink = none →
          exec (.setScreen r) s =
            .next (answered r 0x29#8 .done [] (s.setScreen sc { s.screen sc with committed := src }))) ∧
        ((s.screen sc).sink ≠ none →
          exec (.setScreen r) s =
            .next
              (deferred r .setScreen (.screens [{ screen := sc, asked := src, resolution := .unresolved }]) false
                (s.setScreen sc { s.screen sc with pending := some src }))))) ∧
    ∀ (sc : Screen) (src : Source) (p : Place) (f : Computer), natAt r.params 0 = sc.val →
      parseSource (byteAt r.params 1) = some src → s.pointer.place = some p → p.screen = sc →
      s.focusUnit.focus = some f →
      ((s.screen sc).pending.getD (s.screen sc).committed = src →
        exec (.setScreen r) s = .next (answered r 0x29#8 .noChange [] s)) ∧
      ((s.screen sc).pending.getD (s.screen sc).committed ≠ src → ∃ t : State,
        ((s.screen sc).sink = none →
          exec (.setScreen r) s = .next (answered r 0x29#8 .done [] t) ∧
            Relocated f (s.setScreen sc { s.screen sc with committed := src }) t) ∧
        ((s.screen sc).sink ≠ none → ∀ u : State,
          u = s.setScreen sc { s.screen sc with pending := some src } →
          exec (.setScreen r) s =
            .next
              (deferred r .setScreen (.screens [{ screen := sc, asked := src, resolution := .unresolved }]) false
                t) ∧
          (isFocusScreen u sc = true → t = u) ∧ (isFocusScreen u sc = false → Relocated f u t)))

/-- CLEAR PORT CONDITIONS clears every sticky condition of the ports of its mask and nothing else (R119); CLEAR COUNTERS
sets every counter of R191 to 0 and nothing else. -/
def Obligations.ClearCommands : Prop :=
  ∀ (r : CommandReport) (s : State),
    (Admitted 1 .operate false r s → ∀ u : State,
      u = { s with ports := u.ports } →
      (∀ k, u.port k =
        { s.port k with
          sticky :=
            if inSet (byteAt r.params 0) k = true then
              { resyncOccurred := false, busReset := false, detachedSeen := false, wakeFailed := false,
                queueFlushed := false }
            else (s.port k).sticky }) →
      exec (.clearPortConditions r) s = .next (answered r 0x38#8 .ok [] u)) ∧
    (Admitted 0 .operate false r s → ∀ u : State,
      u =
        { s with
          console := { s.console with errors := 0 }
          keys := { s.keys with overflow := 0 }
          ports := u.ports
          video :=
            { s.video with
              screens := u.video.screens, share := { s.video.share with repeats := 0, skips := 0 } }
          foreign := 0
          mismatches := 0 } →
      (∀ k, u.port k = { s.port k with resyncCount := 0 }) →
      (∀ sc, u.screen sc = { s.screen sc with repeats := 0, skips := 0 }) →
      exec (.clearCounters r) s = .next (answered r 0x39#8 .ok [] u))

/-- DESK RESET is refused with BUSY while a write runs (R181). Otherwise both sections are loaded afresh, the console is
unlocked, the keys, buttons, broadcast set, schedule and journal are empty, the counters 0, each queueable port flushed
into RESYNC, and the links, LEDs, pairs, arming, attempts, inputs, sinks, the counter and SAVE_FAILED are kept (R20,
R28, R45, R121, R156, R158, R187), and OK is the answer in the issuing port's slot, while a port that left the
management port set has an EMPTY slot, and so has one that entered it when, as every step keeps it, a port outside the
set had none (R168, R181). Whether the memory answers is the operand's (log entry 13). -/
def Obligations.DeskResetReloads : Prop :=
  ∀ (r : CommandReport) (answers : Bool) (s : State), Admitted 0 .operate false r s →
    (s.image.writing ≠ none → exec (.deskReset r answers) s = .next (answered r 0x41#8 .busy [] s)) ∧
    (s.image.writing = none → ∀ read : Option (List Byte),
      read = (if answers = true then some (imageOf s.image.memory) else none) →
      ∃ t, exec (.deskReset r answers) s = .next t ∧
        t.settings = settingsFrom read ∧ t.tables = tablesFrom read ∧
        t.image =
          { s.image with
            settingsInvalid := (validSettings read).isNone, tablesInvalid := (validTables read).isNone } ∧
        t.clock = s.clock ∧ t.keys = emptyKeys ∧ t.recognizer = .idle ∧
        t.focusUnit = { focus := t.tables.modeSettings.initialFocus, broadcast := 0#8, locked := false } ∧
        t.pointer =
          { offPointer with
            place :=
              (t.focusUnit.focus.bind (lowestScreenOf t)).map (fun sc => centreOf sc (t.placement sc)) } ∧
        (∀ i, t.slotDevice i =
          (s.slotDevice i).map (fun d => match d with
            | .keyboard _ _ => .keyboard 0#8 []
            | .pointer _ => .pointer 0#5)) ∧
        t.console.errors = 0 ∧ t.console.ledSent = ledValue t ∧
        (∀ k,
          (t.port k).link = (s.port k).link ∧ (t.port k).sensed = (s.port k).sensed ∧
          (t.port k).debounce = (s.port k).debounce ∧ (t.port k).leds = (s.port k).leds ∧
          (t.port k).lastPair = (s.port k).lastPair ∧ (t.port k).armed = (s.port k).armed ∧
          (t.port k).attempt = (s.port k).attempt ∧ (t.port k).sticky = noSticky ∧
          (t.port k).resyncCount = 0 ∧
          (s.queueable k = true → (t.port k).queue = [] ∧
            ∃ acc, (t.port k).resync = some acc ∧ acc.pointerDropped = true) ∧
          (t.port k).slot =
            if inSet t.settings.managementPorts k = false then none
            else if k = r.port then some { tag := r.tag, command := 0x41#8, result := .ok, data := [] }
            else (s.port k).slot) ∧
        ((∀ k, s.isManagement k = false → (s.port k).slot = none) →
          ∀ k, s.isManagement k = false → (t.port k).slot = none) ∧
        t.video.inputs = s.video.inputs ∧
        (∀ sc,
          (t.screen sc).sink = (s.screen sc).sink ∧ (t.screen sc).shown = (s.screen sc).shown ∧
          (t.screen sc).border = (s.screen sc).border ∧ (t.screen sc).repeats = 0 ∧ (t.screen sc).skips = 0 ∧
          ((s.screen sc).sink ≠ none ∨ (s.screen sc).pending = none →
            intendedOf (t.screen sc) = (sourcesFrom read).get sc)) ∧
        t.video.share = { s.video.share with selection := .nothing, repeats := 0, skips := 0 } ∧
        (∀ i, t.entry i = none) ∧ t.engine = none ∧ t.journal = emptyJournal ∧ t.foreign = 0 ∧ t.mismatches = 0)

/-! The records. -/

/-- Every record that TABLE WRITE takes is read back from the bytes that TABLE READ gives: hotkey entries, window
records, port settings, presets, layout records and the mode settings (section 10.6). The share index of a preset whose
share has none is a free byte when read (log entry 3), and is taken and not kept when written, whatever it holds (log
entry 10). -/
def Obligations.RecordsReadBack : Prop :=
  (∀ h : Hotkey, triggerAllowed h.trigger = true →
    (∀ keys, h.trigger = .leader keys → 1 ≤ keys.length ∧ keys.length ≤ 3) →
    (∀ t, h.action = .shareFor t → 1 ≤ t ∧ t ≤ 3600) → parseHotkey (hotkeyBytes h) = some h) ∧
  (∀ w : Window, 1 ≤ w.ww → 1 ≤ w.wh → w.wx0 + w.ww ≤ 32768 → w.wy0 + w.wh ≤ 32768 →
    parseWindow (windowBytes w) = some w) ∧
  (∀ p : PortSettings, 1 ≤ p.timeout → p.timeout ≤ 30 → p.retries ≤ 7 →
    parsePortSettings (portSettingsBytes p) = some p) ∧
  (∀ (free : Byte) (p : Preset), parsePreset (presetBytes free p) = some p) ∧
  (∀ p : Placement, p.x0 < 65536 → p.y0 < 65536 → p.w < 65536 → p.h < 65536 →
    parsePlacement (placementBytes p) = p) ∧
  ∀ m : ModeSettings, 1 ≤ m.gain → m.gain ≤ 255 → m.edgeResistance ≤ 1023 → isLeaderUsage m.leaderKey = true →
    50 ≤ m.leaderWindow → m.leaderWindow ≤ 1000 → 500 ≤ m.commandWindow → m.commandWindow ≤ 5000 →
    m.ageLimit ≤ 255 → parseModeSettings (modeSettingsBytes m) = some m

/-- The section that SAVE writes has the section's length and passes the check of R183, whatever the state and the free
bytes are (R183, R188; the free bytes are log entry 3). -/
def Obligations.SavedSectionIsValid : Prop :=
  ∀ s : State, (sectionToWrite s).length = 670 ∧ sectionValid (sectionToWrite s) = true

/-! What every step keeps. -/

/-- The held-key table, the journal and every saturating counter stay within their figures (R7, R189, R191). -/
def Obligations.StepKeepsBounds : Prop :=
  ∀ s t : State, Bounded s → step s = .next t → Bounded t

/-- Every queue holds at most 8 reports, and a port in DETACHED or ATTACHED holds no report, no RESYNC and no last pair
(R107, R108); a port is WAKING exactly while an attempt exists, only while armed, and never with more than its retry
limit plus one signals (R122); and a port outside the management port set has an EMPTY result slot (R168). -/
def Obligations.StepKeepsPorts : Prop :=
  ∀ s t : State, step s = .next t →
    (PortsSettled s → PortsSettled t) ∧ (WakesSettled s → WakesSettled t) ∧ (SlotsManaged s → SlotsManaged t)

/-- No held key and no button reaches a port that is not queueable, no held key's owners lie in two domains, and the
broadcast set keeps to the focus domain (R7, R8, R58, R107). -/
def Obligations.StepKeepsDomainsApart : Prop :=
  ∀ s t : State, OwnersFenced s → step s = .next t → OwnersFenced t

/-- The held-key table never holds a slot and usage twice, and each computer's last snapshot is always the one that the
table gives: no release is ever owed and not made (R7, R10, R12, R15). -/
def Obligations.StepKeepsSnapshots : Prop :=
  ∀ s t : State, SnapshotsCurrent s → step s = .next t → SnapshotsCurrent t

/-- The LED notice last sent always carries the value of R21. -/
def Obligations.StepKeepsLeds : Prop :=
  ∀ s t : State, LedsCurrent s → step s = .next t → LedsCurrent t

/-- While the pointer is ON its screen is an enterable screen of the focus computer, and a headless focus has it OFF
(R72, R84); the committed layout always passes LAYOUT COMMIT's checks, and the pointer's position lies inside its screen's
rectangle (R66, R69, R72). -/
def Obligations.StepKeepsPointer : Prop :=
  ∀ s t : State, step s = .next t →
    (PointerOnFocus s → PointerOnFocus t) ∧ (PointerInside s → PointerInside t)

/-- The hotkey table never holds two entries with one trigger, a LEADER sequence that is a proper prefix of another, or a
CHORD on the leader key (R23, R25, R26, R27). -/
def Obligations.StepKeepsHotkeys : Prop :=
  ∀ s t : State, HotkeysSound s → step s = .next t → HotkeysSound t

/-- A pending source stands only with a sink and no content without one (R137, R150), every window lies inside the
absolute space (R89), and the configuration memory keeps its canonical form. -/
def Obligations.StepKeepsStores : Prop :=
  ∀ s t : State, step s = .next t →
    (ScreensSettled s → ScreensSettled t) ∧ (WindowsInside s → WindowsInside t) ∧
      (MemoryCanonical s → MemoryCanonical t)
end

