-- ==== Sys2Proof/Laws/State.lean ====
section
/-! SUPPORT. One lemma for each field that each update of the state leaves, and for each reading that it leaves, true by
unfolding; and what reading a record that an update wrote gives. -/

namespace Sys2Proof.Machine

/-! Fields that an update leaves. -/

@[simp] theorem State.setPort_pending (s : State) (k : Computer) (p : Port) : (s.setPort k p).pending = s.pending := rfl
@[simp] theorem State.setPort_sent (s : State) (k : Computer) (p : Port) : (s.setPort k p).sent = s.sent := rfl
@[simp] theorem State.setPort_freeUses (s : State) (k : Computer) (p : Port) : (s.setPort k p).freeUses = s.freeUses := rfl
@[simp] theorem State.setPort_clock (s : State) (k : Computer) (p : Port) : (s.setPort k p).clock = s.clock := rfl
@[simp] theorem State.setPort_settings (s : State) (k : Computer) (p : Port) : (s.setPort k p).settings = s.settings := rfl
@[simp] theorem State.setPort_tables (s : State) (k : Computer) (p : Port) : (s.setPort k p).tables = s.tables := rfl
@[simp] theorem State.setPort_console (s : State) (k : Computer) (p : Port) : (s.setPort k p).console = s.console := rfl
@[simp] theorem State.setPort_keys (s : State) (k : Computer) (p : Port) : (s.setPort k p).keys = s.keys := rfl
@[simp] theorem State.setPort_recognizer (s : State) (k : Computer) (p : Port) : (s.setPort k p).recognizer = s.recognizer := rfl
@[simp] theorem State.setPort_focusUnit (s : State) (k : Computer) (p : Port) : (s.setPort k p).focusUnit = s.focusUnit := rfl
@[simp] theorem State.setPort_pointer (s : State) (k : Computer) (p : Port) : (s.setPort k p).pointer = s.pointer := rfl
@[simp] theorem State.setPort_video (s : State) (k : Computer) (p : Port) : (s.setPort k p).video = s.video := rfl
@[simp] theorem State.setPort_schedule (s : State) (k : Computer) (p : Port) : (s.setPort k p).schedule = s.schedule := rfl
@[simp] theorem State.setPort_engine (s : State) (k : Computer) (p : Port) : (s.setPort k p).engine = s.engine := rfl
@[simp] theorem State.setPort_journal (s : State) (k : Computer) (p : Port) : (s.setPort k p).journal = s.journal := rfl
@[simp] theorem State.setPort_image (s : State) (k : Computer) (p : Port) : (s.setPort k p).image = s.image := rfl
@[simp] theorem State.setPort_foreign (s : State) (k : Computer) (p : Port) : (s.setPort k p).foreign = s.foreign := rfl
@[simp] theorem State.setPort_mismatches (s : State) (k : Computer) (p : Port) : (s.setPort k p).mismatches = s.mismatches := rfl

@[simp] theorem onPort_pending (k : Computer) (f : Port → Port) (s : State) : (onPort k f s).pending = s.pending := rfl
@[simp] theorem onPort_sent (k : Computer) (f : Port → Port) (s : State) : (onPort k f s).sent = s.sent := rfl
@[simp] theorem onPort_freeUses (k : Computer) (f : Port → Port) (s : State) : (onPort k f s).freeUses = s.freeUses := rfl
@[simp] theorem onPort_clock (k : Computer) (f : Port → Port) (s : State) : (onPort k f s).clock = s.clock := rfl
@[simp] theorem onPort_settings (k : Computer) (f : Port → Port) (s : State) : (onPort k f s).settings = s.settings := rfl
@[simp] theorem onPort_tables (k : Computer) (f : Port → Port) (s : State) : (onPort k f s).tables = s.tables := rfl
@[simp] theorem onPort_console (k : Computer) (f : Port → Port) (s : State) : (onPort k f s).console = s.console := rfl
@[simp] theorem onPort_keys (k : Computer) (f : Port → Port) (s : State) : (onPort k f s).keys = s.keys := rfl
@[simp] theorem onPort_recognizer (k : Computer) (f : Port → Port) (s : State) : (onPort k f s).recognizer = s.recognizer := rfl
@[simp] theorem onPort_focusUnit (k : Computer) (f : Port → Port) (s : State) : (onPort k f s).focusUnit = s.focusUnit := rfl
@[simp] theorem onPort_pointer (k : Computer) (f : Port → Port) (s : State) : (onPort k f s).pointer = s.pointer := rfl
@[simp] theorem onPort_video (k : Computer) (f : Port → Port) (s : State) : (onPort k f s).video = s.video := rfl
@[simp] theorem onPort_schedule (k : Computer) (f : Port → Port) (s : State) : (onPort k f s).schedule = s.schedule := rfl
@[simp] theorem onPort_engine (k : Computer) (f : Port → Port) (s : State) : (onPort k f s).engine = s.engine := rfl
@[simp] theorem onPort_journal (k : Computer) (f : Port → Port) (s : State) : (onPort k f s).journal = s.journal := rfl
@[simp] theorem onPort_image (k : Computer) (f : Port → Port) (s : State) : (onPort k f s).image = s.image := rfl
@[simp] theorem onPort_foreign (k : Computer) (f : Port → Port) (s : State) : (onPort k f s).foreign = s.foreign := rfl
@[simp] theorem onPort_mismatches (k : Computer) (f : Port → Port) (s : State) : (onPort k f s).mismatches = s.mismatches := rfl

@[simp] theorem State.setScreen_pending (s : State) (sc : Screen) (r : ScreenRecord) : (s.setScreen sc r).pending = s.pending := rfl
@[simp] theorem State.setScreen_sent (s : State) (sc : Screen) (r : ScreenRecord) : (s.setScreen sc r).sent = s.sent := rfl
@[simp] theorem State.setScreen_freeUses (s : State) (sc : Screen) (r : ScreenRecord) : (s.setScreen sc r).freeUses = s.freeUses := rfl
@[simp] theorem State.setScreen_clock (s : State) (sc : Screen) (r : ScreenRecord) : (s.setScreen sc r).clock = s.clock := rfl
@[simp] theorem State.setScreen_settings (s : State) (sc : Screen) (r : ScreenRecord) : (s.setScreen sc r).settings = s.settings := rfl
@[simp] theorem State.setScreen_tables (s : State) (sc : Screen) (r : ScreenRecord) : (s.setScreen sc r).tables = s.tables := rfl
@[simp] theorem State.setScreen_console (s : State) (sc : Screen) (r : ScreenRecord) : (s.setScreen sc r).console = s.console := rfl
@[simp] theorem State.setScreen_keys (s : State) (sc : Screen) (r : ScreenRecord) : (s.setScreen sc r).keys = s.keys := rfl
@[simp] theorem State.setScreen_recognizer (s : State) (sc : Screen) (r : ScreenRecord) : (s.setScreen sc r).recognizer = s.recognizer := rfl
@[simp] theorem State.setScreen_focusUnit (s : State) (sc : Screen) (r : ScreenRecord) : (s.setScreen sc r).focusUnit = s.focusUnit := rfl
@[simp] theorem State.setScreen_pointer (s : State) (sc : Screen) (r : ScreenRecord) : (s.setScreen sc r).pointer = s.pointer := rfl
@[simp] theorem State.setScreen_ports (s : State) (sc : Screen) (r : ScreenRecord) : (s.setScreen sc r).ports = s.ports := rfl
@[simp] theorem State.setScreen_schedule (s : State) (sc : Screen) (r : ScreenRecord) : (s.setScreen sc r).schedule = s.schedule := rfl
@[simp] theorem State.setScreen_engine (s : State) (sc : Screen) (r : ScreenRecord) : (s.setScreen sc r).engine = s.engine := rfl
@[simp] theorem State.setScreen_journal (s : State) (sc : Screen) (r : ScreenRecord) : (s.setScreen sc r).journal = s.journal := rfl
@[simp] theorem State.setScreen_image (s : State) (sc : Screen) (r : ScreenRecord) : (s.setScreen sc r).image = s.image := rfl
@[simp] theorem State.setScreen_foreign (s : State) (sc : Screen) (r : ScreenRecord) : (s.setScreen sc r).foreign = s.foreign := rfl
@[simp] theorem State.setScreen_mismatches (s : State) (sc : Screen) (r : ScreenRecord) : (s.setScreen sc r).mismatches = s.mismatches := rfl

@[simp] theorem State.setInput_pending (s : State) (i : Input) (r : InputRecord) : (s.setInput i r).pending = s.pending := rfl
@[simp] theorem State.setInput_sent (s : State) (i : Input) (r : InputRecord) : (s.setInput i r).sent = s.sent := rfl
@[simp] theorem State.setInput_freeUses (s : State) (i : Input) (r : InputRecord) : (s.setInput i r).freeUses = s.freeUses := rfl
@[simp] theorem State.setInput_clock (s : State) (i : Input) (r : InputRecord) : (s.setInput i r).clock = s.clock := rfl
@[simp] theorem State.setInput_settings (s : State) (i : Input) (r : InputRecord) : (s.setInput i r).settings = s.settings := rfl
@[simp] theorem State.setInput_tables (s : State) (i : Input) (r : InputRecord) : (s.setInput i r).tables = s.tables := rfl
@[simp] theorem State.setInput_console (s : State) (i : Input) (r : InputRecord) : (s.setInput i r).console = s.console := rfl
@[simp] theorem State.setInput_keys (s : State) (i : Input) (r : InputRecord) : (s.setInput i r).keys = s.keys := rfl
@[simp] theorem State.setInput_recognizer (s : State) (i : Input) (r : InputRecord) : (s.setInput i r).recognizer = s.recognizer := rfl
@[simp] theorem State.setInput_focusUnit (s : State) (i : Input) (r : InputRecord) : (s.setInput i r).focusUnit = s.focusUnit := rfl
@[simp] theorem State.setInput_pointer (s : State) (i : Input) (r : InputRecord) : (s.setInput i r).pointer = s.pointer := rfl
@[simp] theorem State.setInput_ports (s : State) (i : Input) (r : InputRecord) : (s.setInput i r).ports = s.ports := rfl
@[simp] theorem State.setInput_schedule (s : State) (i : Input) (r : InputRecord) : (s.setInput i r).schedule = s.schedule := rfl
@[simp] theorem State.setInput_engine (s : State) (i : Input) (r : InputRecord) : (s.setInput i r).engine = s.engine := rfl
@[simp] theorem State.setInput_journal (s : State) (i : Input) (r : InputRecord) : (s.setInput i r).journal = s.journal := rfl
@[simp] theorem State.setInput_image (s : State) (i : Input) (r : InputRecord) : (s.setInput i r).image = s.image := rfl
@[simp] theorem State.setInput_foreign (s : State) (i : Input) (r : InputRecord) : (s.setInput i r).foreign = s.foreign := rfl
@[simp] theorem State.setInput_mismatches (s : State) (i : Input) (r : InputRecord) : (s.setInput i r).mismatches = s.mismatches := rfl

@[simp] theorem State.setShare_pending (s : State) (r : ShareRecord) : (s.setShare r).pending = s.pending := rfl
@[simp] theorem State.setShare_sent (s : State) (r : ShareRecord) : (s.setShare r).sent = s.sent := rfl
@[simp] theorem State.setShare_freeUses (s : State) (r : ShareRecord) : (s.setShare r).freeUses = s.freeUses := rfl
@[simp] theorem State.setShare_clock (s : State) (r : ShareRecord) : (s.setShare r).clock = s.clock := rfl
@[simp] theorem State.setShare_settings (s : State) (r : ShareRecord) : (s.setShare r).settings = s.settings := rfl
@[simp] theorem State.setShare_tables (s : State) (r : ShareRecord) : (s.setShare r).tables = s.tables := rfl
@[simp] theorem State.setShare_console (s : State) (r : ShareRecord) : (s.setShare r).console = s.console := rfl
@[simp] theorem State.setShare_keys (s : State) (r : ShareRecord) : (s.setShare r).keys = s.keys := rfl
@[simp] theorem State.setShare_recognizer (s : State) (r : ShareRecord) : (s.setShare r).recognizer = s.recognizer := rfl
@[simp] theorem State.setShare_focusUnit (s : State) (r : ShareRecord) : (s.setShare r).focusUnit = s.focusUnit := rfl
@[simp] theorem State.setShare_pointer (s : State) (r : ShareRecord) : (s.setShare r).pointer = s.pointer := rfl
@[simp] theorem State.setShare_ports (s : State) (r : ShareRecord) : (s.setShare r).ports = s.ports := rfl
@[simp] theorem State.setShare_schedule (s : State) (r : ShareRecord) : (s.setShare r).schedule = s.schedule := rfl
@[simp] theorem State.setShare_engine (s : State) (r : ShareRecord) : (s.setShare r).engine = s.engine := rfl
@[simp] theorem State.setShare_journal (s : State) (r : ShareRecord) : (s.setShare r).journal = s.journal := rfl
@[simp] theorem State.setShare_image (s : State) (r : ShareRecord) : (s.setShare r).image = s.image := rfl
@[simp] theorem State.setShare_foreign (s : State) (r : ShareRecord) : (s.setShare r).foreign = s.foreign := rfl
@[simp] theorem State.setShare_mismatches (s : State) (r : ShareRecord) : (s.setShare r).mismatches = s.mismatches := rfl

@[simp] theorem State.setPointer_pending (s : State) (p : Pointer) : (s.setPointer p).pending = s.pending := rfl
@[simp] theorem State.setPointer_sent (s : State) (p : Pointer) : (s.setPointer p).sent = s.sent := rfl
@[simp] theorem State.setPointer_freeUses (s : State) (p : Pointer) : (s.setPointer p).freeUses = s.freeUses := rfl
@[simp] theorem State.setPointer_clock (s : State) (p : Pointer) : (s.setPointer p).clock = s.clock := rfl
@[simp] theorem State.setPointer_settings (s : State) (p : Pointer) : (s.setPointer p).settings = s.settings := rfl
@[simp] theorem State.setPointer_tables (s : State) (p : Pointer) : (s.setPointer p).tables = s.tables := rfl
@[simp] theorem State.setPointer_console (s : State) (p : Pointer) : (s.setPointer p).console = s.console := rfl
@[simp] theorem State.setPointer_keys (s : State) (p : Pointer) : (s.setPointer p).keys = s.keys := rfl
@[simp] theorem State.setPointer_recognizer (s : State) (p : Pointer) : (s.setPointer p).recognizer = s.recognizer := rfl
@[simp] theorem State.setPointer_focusUnit (s : State) (p : Pointer) : (s.setPointer p).focusUnit = s.focusUnit := rfl
@[simp] theorem State.setPointer_ports (s : State) (p : Pointer) : (s.setPointer p).ports = s.ports := rfl
@[simp] theorem State.setPointer_video (s : State) (p : Pointer) : (s.setPointer p).video = s.video := rfl
@[simp] theorem State.setPointer_schedule (s : State) (p : Pointer) : (s.setPointer p).schedule = s.schedule := rfl
@[simp] theorem State.setPointer_engine (s : State) (p : Pointer) : (s.setPointer p).engine = s.engine := rfl
@[simp] theorem State.setPointer_journal (s : State) (p : Pointer) : (s.setPointer p).journal = s.journal := rfl
@[simp] theorem State.setPointer_image (s : State) (p : Pointer) : (s.setPointer p).image = s.image := rfl
@[simp] theorem State.setPointer_foreign (s : State) (p : Pointer) : (s.setPointer p).foreign = s.foreign := rfl
@[simp] theorem State.setPointer_mismatches (s : State) (p : Pointer) : (s.setPointer p).mismatches = s.mismatches := rfl

@[simp] theorem State.setHeld_pending (s : State) (es : List HeldKey) : (s.setHeld es).pending = s.pending := rfl
@[simp] theorem State.setHeld_sent (s : State) (es : List HeldKey) : (s.setHeld es).sent = s.sent := rfl
@[simp] theorem State.setHeld_freeUses (s : State) (es : List HeldKey) : (s.setHeld es).freeUses = s.freeUses := rfl
@[simp] theorem State.setHeld_clock (s : State) (es : List HeldKey) : (s.setHeld es).clock = s.clock := rfl
@[simp] theorem State.setHeld_settings (s : State) (es : List HeldKey) : (s.setHeld es).settings = s.settings := rfl
@[simp] theorem State.setHeld_tables (s : State) (es : List HeldKey) : (s.setHeld es).tables = s.tables := rfl
@[simp] theorem State.setHeld_console (s : State) (es : List HeldKey) : (s.setHeld es).console = s.console := rfl
@[simp] theorem State.setHeld_recognizer (s : State) (es : List HeldKey) : (s.setHeld es).recognizer = s.recognizer := rfl
@[simp] theorem State.setHeld_focusUnit (s : State) (es : List HeldKey) : (s.setHeld es).focusUnit = s.focusUnit := rfl
@[simp] theorem State.setHeld_pointer (s : State) (es : List HeldKey) : (s.setHeld es).pointer = s.pointer := rfl
@[simp] theorem State.setHeld_ports (s : State) (es : List HeldKey) : (s.setHeld es).ports = s.ports := rfl
@[simp] theorem State.setHeld_video (s : State) (es : List HeldKey) : (s.setHeld es).video = s.video := rfl
@[simp] theorem State.setHeld_schedule (s : State) (es : List HeldKey) : (s.setHeld es).schedule = s.schedule := rfl
@[simp] theorem State.setHeld_engine (s : State) (es : List HeldKey) : (s.setHeld es).engine = s.engine := rfl
@[simp] theorem State.setHeld_journal (s : State) (es : List HeldKey) : (s.setHeld es).journal = s.journal := rfl
@[simp] theorem State.setHeld_image (s : State) (es : List HeldKey) : (s.setHeld es).image = s.image := rfl
@[simp] theorem State.setHeld_foreign (s : State) (es : List HeldKey) : (s.setHeld es).foreign = s.foreign := rfl
@[simp] theorem State.setHeld_mismatches (s : State) (es : List HeldKey) : (s.setHeld es).mismatches = s.mismatches := rfl

@[simp] theorem State.setButtons_pending (s : State) (bs : Vector (Option Computer) 5) : (s.setButtons bs).pending = s.pending := rfl
@[simp] theorem State.setButtons_sent (s : State) (bs : Vector (Option Computer) 5) : (s.setButtons bs).sent = s.sent := rfl
@[simp] theorem State.setButtons_freeUses (s : State) (bs : Vector (Option Computer) 5) : (s.setButtons bs).freeUses = s.freeUses := rfl
@[simp] theorem State.setButtons_clock (s : State) (bs : Vector (Option Computer) 5) : (s.setButtons bs).clock = s.clock := rfl
@[simp] theorem State.setButtons_settings (s : State) (bs : Vector (Option Computer) 5) : (s.setButtons bs).settings = s.settings := rfl
@[simp] theorem State.setButtons_tables (s : State) (bs : Vector (Option Computer) 5) : (s.setButtons bs).tables = s.tables := rfl
@[simp] theorem State.setButtons_console (s : State) (bs : Vector (Option Computer) 5) : (s.setButtons bs).console = s.console := rfl
@[simp] theorem State.setButtons_recognizer (s : State) (bs : Vector (Option Computer) 5) : (s.setButtons bs).recognizer = s.recognizer := rfl
@[simp] theorem State.setButtons_focusUnit (s : State) (bs : Vector (Option Computer) 5) : (s.setButtons bs).focusUnit = s.focusUnit := rfl
@[simp] theorem State.setButtons_pointer (s : State) (bs : Vector (Option Computer) 5) : (s.setButtons bs).pointer = s.pointer := rfl
@[simp] theorem State.setButtons_ports (s : State) (bs : Vector (Option Computer) 5) : (s.setButtons bs).ports = s.ports := rfl
@[simp] theorem State.setButtons_video (s : State) (bs : Vector (Option Computer) 5) : (s.setButtons bs).video = s.video := rfl
@[simp] theorem State.setButtons_schedule (s : State) (bs : Vector (Option Computer) 5) : (s.setButtons bs).schedule = s.schedule := rfl
@[simp] theorem State.setButtons_engine (s : State) (bs : Vector (Option Computer) 5) : (s.setButtons bs).engine = s.engine := rfl
@[simp] theorem State.setButtons_journal (s : State) (bs : Vector (Option Computer) 5) : (s.setButtons bs).journal = s.journal := rfl
@[simp] theorem State.setButtons_image (s : State) (bs : Vector (Option Computer) 5) : (s.setButtons bs).image = s.image := rfl
@[simp] theorem State.setButtons_foreign (s : State) (bs : Vector (Option Computer) 5) : (s.setButtons bs).foreign = s.foreign := rfl
@[simp] theorem State.setButtons_mismatches (s : State) (bs : Vector (Option Computer) 5) : (s.setButtons bs).mismatches = s.mismatches := rfl

@[simp] theorem State.setSlot_pending (s : State) (i : Slot) (d : Option Device) : (s.setSlot i d).pending = s.pending := rfl
@[simp] theorem State.setSlot_sent (s : State) (i : Slot) (d : Option Device) : (s.setSlot i d).sent = s.sent := rfl
@[simp] theorem State.setSlot_freeUses (s : State) (i : Slot) (d : Option Device) : (s.setSlot i d).freeUses = s.freeUses := rfl
@[simp] theorem State.setSlot_clock (s : State) (i : Slot) (d : Option Device) : (s.setSlot i d).clock = s.clock := rfl
@[simp] theorem State.setSlot_settings (s : State) (i : Slot) (d : Option Device) : (s.setSlot i d).settings = s.settings := rfl
@[simp] theorem State.setSlot_tables (s : State) (i : Slot) (d : Option Device) : (s.setSlot i d).tables = s.tables := rfl
@[simp] theorem State.setSlot_keys (s : State) (i : Slot) (d : Option Device) : (s.setSlot i d).keys = s.keys := rfl
@[simp] theorem State.setSlot_recognizer (s : State) (i : Slot) (d : Option Device) : (s.setSlot i d).recognizer = s.recognizer := rfl
@[simp] theorem State.setSlot_focusUnit (s : State) (i : Slot) (d : Option Device) : (s.setSlot i d).focusUnit = s.focusUnit := rfl
@[simp] theorem State.setSlot_pointer (s : State) (i : Slot) (d : Option Device) : (s.setSlot i d).pointer = s.pointer := rfl
@[simp] theorem State.setSlot_ports (s : State) (i : Slot) (d : Option Device) : (s.setSlot i d).ports = s.ports := rfl
@[simp] theorem State.setSlot_video (s : State) (i : Slot) (d : Option Device) : (s.setSlot i d).video = s.video := rfl
@[simp] theorem State.setSlot_schedule (s : State) (i : Slot) (d : Option Device) : (s.setSlot i d).schedule = s.schedule := rfl
@[simp] theorem State.setSlot_engine (s : State) (i : Slot) (d : Option Device) : (s.setSlot i d).engine = s.engine := rfl
@[simp] theorem State.setSlot_journal (s : State) (i : Slot) (d : Option Device) : (s.setSlot i d).journal = s.journal := rfl
@[simp] theorem State.setSlot_image (s : State) (i : Slot) (d : Option Device) : (s.setSlot i d).image = s.image := rfl
@[simp] theorem State.setSlot_foreign (s : State) (i : Slot) (d : Option Device) : (s.setSlot i d).foreign = s.foreign := rfl
@[simp] theorem State.setSlot_mismatches (s : State) (i : Slot) (d : Option Device) : (s.setSlot i d).mismatches = s.mismatches := rfl

@[simp] theorem State.setEntry_pending (s : State) (i : ScheduleIndex) (e : Option ScheduleEntry) : (s.setEntry i e).pending = s.pending := rfl
@[simp] theorem State.setEntry_sent (s : State) (i : ScheduleIndex) (e : Option ScheduleEntry) : (s.setEntry i e).sent = s.sent := rfl
@[simp] theorem State.setEntry_freeUses (s : State) (i : ScheduleIndex) (e : Option ScheduleEntry) : (s.setEntry i e).freeUses = s.freeUses := rfl
@[simp] theorem State.setEntry_clock (s : State) (i : ScheduleIndex) (e : Option ScheduleEntry) : (s.setEntry i e).clock = s.clock := rfl
@[simp] theorem State.setEntry_settings (s : State) (i : ScheduleIndex) (e : Option ScheduleEntry) : (s.setEntry i e).settings = s.settings := rfl
@[simp] theorem State.setEntry_tables (s : State) (i : ScheduleIndex) (e : Option ScheduleEntry) : (s.setEntry i e).tables = s.tables := rfl
@[simp] theorem State.setEntry_console (s : State) (i : ScheduleIndex) (e : Option ScheduleEntry) : (s.setEntry i e).console = s.console := rfl
@[simp] theorem State.setEntry_keys (s : State) (i : ScheduleIndex) (e : Option ScheduleEntry) : (s.setEntry i e).keys = s.keys := rfl
@[simp] theorem State.setEntry_recognizer (s : State) (i : ScheduleIndex) (e : Option ScheduleEntry) : (s.setEntry i e).recognizer = s.recognizer := rfl
@[simp] theorem State.setEntry_focusUnit (s : State) (i : ScheduleIndex) (e : Option ScheduleEntry) : (s.setEntry i e).focusUnit = s.focusUnit := rfl
@[simp] theorem State.setEntry_pointer (s : State) (i : ScheduleIndex) (e : Option ScheduleEntry) : (s.setEntry i e).pointer = s.pointer := rfl
@[simp] theorem State.setEntry_ports (s : State) (i : ScheduleIndex) (e : Option ScheduleEntry) : (s.setEntry i e).ports = s.ports := rfl
@[simp] theorem State.setEntry_video (s : State) (i : ScheduleIndex) (e : Option ScheduleEntry) : (s.setEntry i e).video = s.video := rfl
@[simp] theorem State.setEntry_engine (s : State) (i : ScheduleIndex) (e : Option ScheduleEntry) : (s.setEntry i e).engine = s.engine := rfl
@[simp] theorem State.setEntry_journal (s : State) (i : ScheduleIndex) (e : Option ScheduleEntry) : (s.setEntry i e).journal = s.journal := rfl
@[simp] theorem State.setEntry_image (s : State) (i : ScheduleIndex) (e : Option ScheduleEntry) : (s.setEntry i e).image = s.image := rfl
@[simp] theorem State.setEntry_foreign (s : State) (i : ScheduleIndex) (e : Option ScheduleEntry) : (s.setEntry i e).foreign = s.foreign := rfl
@[simp] theorem State.setEntry_mismatches (s : State) (i : ScheduleIndex) (e : Option ScheduleEntry) : (s.setEntry i e).mismatches = s.mismatches := rfl

@[simp] theorem State.send_pending (s : State) (x : Sent) : (s.send x).pending = s.pending := rfl
@[simp] theorem State.send_freeUses (s : State) (x : Sent) : (s.send x).freeUses = s.freeUses := rfl
@[simp] theorem State.send_clock (s : State) (x : Sent) : (s.send x).clock = s.clock := rfl
@[simp] theorem State.send_settings (s : State) (x : Sent) : (s.send x).settings = s.settings := rfl
@[simp] theorem State.send_tables (s : State) (x : Sent) : (s.send x).tables = s.tables := rfl
@[simp] theorem State.send_console (s : State) (x : Sent) : (s.send x).console = s.console := rfl
@[simp] theorem State.send_keys (s : State) (x : Sent) : (s.send x).keys = s.keys := rfl
@[simp] theorem State.send_recognizer (s : State) (x : Sent) : (s.send x).recognizer = s.recognizer := rfl
@[simp] theorem State.send_focusUnit (s : State) (x : Sent) : (s.send x).focusUnit = s.focusUnit := rfl
@[simp] theorem State.send_pointer (s : State) (x : Sent) : (s.send x).pointer = s.pointer := rfl
@[simp] theorem State.send_ports (s : State) (x : Sent) : (s.send x).ports = s.ports := rfl
@[simp] theorem State.send_video (s : State) (x : Sent) : (s.send x).video = s.video := rfl
@[simp] theorem State.send_schedule (s : State) (x : Sent) : (s.send x).schedule = s.schedule := rfl
@[simp] theorem State.send_engine (s : State) (x : Sent) : (s.send x).engine = s.engine := rfl
@[simp] theorem State.send_journal (s : State) (x : Sent) : (s.send x).journal = s.journal := rfl
@[simp] theorem State.send_image (s : State) (x : Sent) : (s.send x).image = s.image := rfl
@[simp] theorem State.send_foreign (s : State) (x : Sent) : (s.send x).foreign = s.foreign := rfl
@[simp] theorem State.send_mismatches (s : State) (x : Sent) : (s.send x).mismatches = s.mismatches := rfl

@[simp] theorem countConsoleError_pending (s : State) : (countConsoleError s).pending = s.pending := rfl
@[simp] theorem countConsoleError_sent (s : State) : (countConsoleError s).sent = s.sent := rfl
@[simp] theorem countConsoleError_freeUses (s : State) : (countConsoleError s).freeUses = s.freeUses := rfl
@[simp] theorem countConsoleError_clock (s : State) : (countConsoleError s).clock = s.clock := rfl
@[simp] theorem countConsoleError_settings (s : State) : (countConsoleError s).settings = s.settings := rfl
@[simp] theorem countConsoleError_tables (s : State) : (countConsoleError s).tables = s.tables := rfl
@[simp] theorem countConsoleError_keys (s : State) : (countConsoleError s).keys = s.keys := rfl
@[simp] theorem countConsoleError_recognizer (s : State) : (countConsoleError s).recognizer = s.recognizer := rfl
@[simp] theorem countConsoleError_focusUnit (s : State) : (countConsoleError s).focusUnit = s.focusUnit := rfl
@[simp] theorem countConsoleError_pointer (s : State) : (countConsoleError s).pointer = s.pointer := rfl
@[simp] theorem countConsoleError_ports (s : State) : (countConsoleError s).ports = s.ports := rfl
@[simp] theorem countConsoleError_video (s : State) : (countConsoleError s).video = s.video := rfl
@[simp] theorem countConsoleError_schedule (s : State) : (countConsoleError s).schedule = s.schedule := rfl
@[simp] theorem countConsoleError_engine (s : State) : (countConsoleError s).engine = s.engine := rfl
@[simp] theorem countConsoleError_journal (s : State) : (countConsoleError s).journal = s.journal := rfl
@[simp] theorem countConsoleError_image (s : State) : (countConsoleError s).image = s.image := rfl
@[simp] theorem countConsoleError_foreign (s : State) : (countConsoleError s).foreign = s.foreign := rfl
@[simp] theorem countConsoleError_mismatches (s : State) : (countConsoleError s).mismatches = s.mismatches := rfl

@[simp] theorem countForeign_pending (s : State) : (countForeign s).pending = s.pending := rfl
@[simp] theorem countForeign_sent (s : State) : (countForeign s).sent = s.sent := rfl
@[simp] theorem countForeign_freeUses (s : State) : (countForeign s).freeUses = s.freeUses := rfl
@[simp] theorem countForeign_clock (s : State) : (countForeign s).clock = s.clock := rfl
@[simp] theorem countForeign_settings (s : State) : (countForeign s).settings = s.settings := rfl
@[simp] theorem countForeign_tables (s : State) : (countForeign s).tables = s.tables := rfl
@[simp] theorem countForeign_console (s : State) : (countForeign s).console = s.console := rfl
@[simp] theorem countForeign_keys (s : State) : (countForeign s).keys = s.keys := rfl
@[simp] theorem countForeign_recognizer (s : State) : (countForeign s).recognizer = s.recognizer := rfl
@[simp] theorem countForeign_focusUnit (s : State) : (countForeign s).focusUnit = s.focusUnit := rfl
@[simp] theorem countForeign_pointer (s : State) : (countForeign s).pointer = s.pointer := rfl
@[simp] theorem countForeign_ports (s : State) : (countForeign s).ports = s.ports := rfl
@[simp] theorem countForeign_video (s : State) : (countForeign s).video = s.video := rfl
@[simp] theorem countForeign_schedule (s : State) : (countForeign s).schedule = s.schedule := rfl
@[simp] theorem countForeign_engine (s : State) : (countForeign s).engine = s.engine := rfl
@[simp] theorem countForeign_journal (s : State) : (countForeign s).journal = s.journal := rfl
@[simp] theorem countForeign_image (s : State) : (countForeign s).image = s.image := rfl
@[simp] theorem countForeign_mismatches (s : State) : (countForeign s).mismatches = s.mismatches := rfl

@[simp] theorem countMismatch_pending (s : State) : (countMismatch s).pending = s.pending := rfl
@[simp] theorem countMismatch_sent (s : State) : (countMismatch s).sent = s.sent := rfl
@[simp] theorem countMismatch_freeUses (s : State) : (countMismatch s).freeUses = s.freeUses := rfl
@[simp] theorem countMismatch_clock (s : State) : (countMismatch s).clock = s.clock := rfl
@[simp] theorem countMismatch_settings (s : State) : (countMismatch s).settings = s.settings := rfl
@[simp] theorem countMismatch_tables (s : State) : (countMismatch s).tables = s.tables := rfl
@[simp] theorem countMismatch_console (s : State) : (countMismatch s).console = s.console := rfl
@[simp] theorem countMismatch_keys (s : State) : (countMismatch s).keys = s.keys := rfl
@[simp] theorem countMismatch_recognizer (s : State) : (countMismatch s).recognizer = s.recognizer := rfl
@[simp] theorem countMismatch_focusUnit (s : State) : (countMismatch s).focusUnit = s.focusUnit := rfl
@[simp] theorem countMismatch_pointer (s : State) : (countMismatch s).pointer = s.pointer := rfl
@[simp] theorem countMismatch_ports (s : State) : (countMismatch s).ports = s.ports := rfl
@[simp] theorem countMismatch_video (s : State) : (countMismatch s).video = s.video := rfl
@[simp] theorem countMismatch_schedule (s : State) : (countMismatch s).schedule = s.schedule := rfl
@[simp] theorem countMismatch_engine (s : State) : (countMismatch s).engine = s.engine := rfl
@[simp] theorem countMismatch_journal (s : State) : (countMismatch s).journal = s.journal := rfl
@[simp] theorem countMismatch_image (s : State) : (countMismatch s).image = s.image := rfl
@[simp] theorem countMismatch_foreign (s : State) : (countMismatch s).foreign = s.foreign := rfl

@[simp] theorem record_pending (event : JournalEvent) (s : State) : (record event s).pending = s.pending := rfl
@[simp] theorem record_sent (event : JournalEvent) (s : State) : (record event s).sent = s.sent := rfl
@[simp] theorem record_freeUses (event : JournalEvent) (s : State) : (record event s).freeUses = s.freeUses := rfl
@[simp] theorem record_clock (event : JournalEvent) (s : State) : (record event s).clock = s.clock := rfl
@[simp] theorem record_settings (event : JournalEvent) (s : State) : (record event s).settings = s.settings := rfl
@[simp] theorem record_tables (event : JournalEvent) (s : State) : (record event s).tables = s.tables := rfl
@[simp] theorem record_console (event : JournalEvent) (s : State) : (record event s).console = s.console := rfl
@[simp] theorem record_keys (event : JournalEvent) (s : State) : (record event s).keys = s.keys := rfl
@[simp] theorem record_recognizer (event : JournalEvent) (s : State) : (record event s).recognizer = s.recognizer := rfl
@[simp] theorem record_focusUnit (event : JournalEvent) (s : State) : (record event s).focusUnit = s.focusUnit := rfl
@[simp] theorem record_pointer (event : JournalEvent) (s : State) : (record event s).pointer = s.pointer := rfl
@[simp] theorem record_ports (event : JournalEvent) (s : State) : (record event s).ports = s.ports := rfl
@[simp] theorem record_video (event : JournalEvent) (s : State) : (record event s).video = s.video := rfl
@[simp] theorem record_schedule (event : JournalEvent) (s : State) : (record event s).schedule = s.schedule := rfl
@[simp] theorem record_engine (event : JournalEvent) (s : State) : (record event s).engine = s.engine := rfl
@[simp] theorem record_image (event : JournalEvent) (s : State) : (record event s).image = s.image := rfl
@[simp] theorem record_foreign (event : JournalEvent) (s : State) : (record event s).foreign = s.foreign := rfl
@[simp] theorem record_mismatches (event : JournalEvent) (s : State) : (record event s).mismatches = s.mismatches := rfl

@[simp] theorem sendLeds_pending (s : State) : (sendLeds s).pending = s.pending := rfl
@[simp] theorem sendLeds_freeUses (s : State) : (sendLeds s).freeUses = s.freeUses := rfl
@[simp] theorem sendLeds_clock (s : State) : (sendLeds s).clock = s.clock := rfl
@[simp] theorem sendLeds_settings (s : State) : (sendLeds s).settings = s.settings := rfl
@[simp] theorem sendLeds_tables (s : State) : (sendLeds s).tables = s.tables := rfl
@[simp] theorem sendLeds_keys (s : State) : (sendLeds s).keys = s.keys := rfl
@[simp] theorem sendLeds_recognizer (s : State) : (sendLeds s).recognizer = s.recognizer := rfl
@[simp] theorem sendLeds_focusUnit (s : State) : (sendLeds s).focusUnit = s.focusUnit := rfl
@[simp] theorem sendLeds_pointer (s : State) : (sendLeds s).pointer = s.pointer := rfl
@[simp] theorem sendLeds_ports (s : State) : (sendLeds s).ports = s.ports := rfl
@[simp] theorem sendLeds_video (s : State) : (sendLeds s).video = s.video := rfl
@[simp] theorem sendLeds_schedule (s : State) : (sendLeds s).schedule = s.schedule := rfl
@[simp] theorem sendLeds_engine (s : State) : (sendLeds s).engine = s.engine := rfl
@[simp] theorem sendLeds_journal (s : State) : (sendLeds s).journal = s.journal := rfl
@[simp] theorem sendLeds_image (s : State) : (sendLeds s).image = s.image := rfl
@[simp] theorem sendLeds_foreign (s : State) : (sendLeds s).foreign = s.foreign := rfl
@[simp] theorem sendLeds_mismatches (s : State) : (sendLeds s).mismatches = s.mismatches := rfl

@[simp] theorem clearMotion_pending (s : State) : (clearMotion s).pending = s.pending := rfl
@[simp] theorem clearMotion_sent (s : State) : (clearMotion s).sent = s.sent := rfl
@[simp] theorem clearMotion_freeUses (s : State) : (clearMotion s).freeUses = s.freeUses := rfl
@[simp] theorem clearMotion_clock (s : State) : (clearMotion s).clock = s.clock := rfl
@[simp] theorem clearMotion_settings (s : State) : (clearMotion s).settings = s.settings := rfl
@[simp] theorem clearMotion_tables (s : State) : (clearMotion s).tables = s.tables := rfl
@[simp] theorem clearMotion_console (s : State) : (clearMotion s).console = s.console := rfl
@[simp] theorem clearMotion_keys (s : State) : (clearMotion s).keys = s.keys := rfl
@[simp] theorem clearMotion_recognizer (s : State) : (clearMotion s).recognizer = s.recognizer := rfl
@[simp] theorem clearMotion_focusUnit (s : State) : (clearMotion s).focusUnit = s.focusUnit := rfl
@[simp] theorem clearMotion_ports (s : State) : (clearMotion s).ports = s.ports := rfl
@[simp] theorem clearMotion_video (s : State) : (clearMotion s).video = s.video := rfl
@[simp] theorem clearMotion_schedule (s : State) : (clearMotion s).schedule = s.schedule := rfl
@[simp] theorem clearMotion_engine (s : State) : (clearMotion s).engine = s.engine := rfl
@[simp] theorem clearMotion_journal (s : State) : (clearMotion s).journal = s.journal := rfl
@[simp] theorem clearMotion_image (s : State) : (clearMotion s).image = s.image := rfl
@[simp] theorem clearMotion_foreign (s : State) : (clearMotion s).foreign = s.foreign := rfl
@[simp] theorem clearMotion_mismatches (s : State) : (clearMotion s).mismatches = s.mismatches := rfl

@[simp] theorem clearHeadless_pending (s : State) : (clearHeadless s).pending = s.pending := rfl
@[simp] theorem clearHeadless_sent (s : State) : (clearHeadless s).sent = s.sent := rfl
@[simp] theorem clearHeadless_freeUses (s : State) : (clearHeadless s).freeUses = s.freeUses := rfl
@[simp] theorem clearHeadless_clock (s : State) : (clearHeadless s).clock = s.clock := rfl
@[simp] theorem clearHeadless_settings (s : State) : (clearHeadless s).settings = s.settings := rfl
@[simp] theorem clearHeadless_tables (s : State) : (clearHeadless s).tables = s.tables := rfl
@[simp] theorem clearHeadless_console (s : State) : (clearHeadless s).console = s.console := rfl
@[simp] theorem clearHeadless_keys (s : State) : (clearHeadless s).keys = s.keys := rfl
@[simp] theorem clearHeadless_recognizer (s : State) : (clearHeadless s).recognizer = s.recognizer := rfl
@[simp] theorem clearHeadless_focusUnit (s : State) : (clearHeadless s).focusUnit = s.focusUnit := rfl
@[simp] theorem clearHeadless_ports (s : State) : (clearHeadless s).ports = s.ports := rfl
@[simp] theorem clearHeadless_video (s : State) : (clearHeadless s).video = s.video := rfl
@[simp] theorem clearHeadless_schedule (s : State) : (clearHeadless s).schedule = s.schedule := rfl
@[simp] theorem clearHeadless_engine (s : State) : (clearHeadless s).engine = s.engine := rfl
@[simp] theorem clearHeadless_journal (s : State) : (clearHeadless s).journal = s.journal := rfl
@[simp] theorem clearHeadless_image (s : State) : (clearHeadless s).image = s.image := rfl
@[simp] theorem clearHeadless_foreign (s : State) : (clearHeadless s).foreign = s.foreign := rfl
@[simp] theorem clearHeadless_mismatches (s : State) : (clearHeadless s).mismatches = s.mismatches := rfl

@[simp] theorem placeAtCentre_pending (sc : Screen) (s : State) : (placeAtCentre sc s).pending = s.pending := rfl
@[simp] theorem placeAtCentre_sent (sc : Screen) (s : State) : (placeAtCentre sc s).sent = s.sent := rfl
@[simp] theorem placeAtCentre_freeUses (sc : Screen) (s : State) : (placeAtCentre sc s).freeUses = s.freeUses := rfl
@[simp] theorem placeAtCentre_clock (sc : Screen) (s : State) : (placeAtCentre sc s).clock = s.clock := rfl
@[simp] theorem placeAtCentre_settings (sc : Screen) (s : State) : (placeAtCentre sc s).settings = s.settings := rfl
@[simp] theorem placeAtCentre_tables (sc : Screen) (s : State) : (placeAtCentre sc s).tables = s.tables := rfl
@[simp] theorem placeAtCentre_console (sc : Screen) (s : State) : (placeAtCentre sc s).console = s.console := rfl
@[simp] theorem placeAtCentre_keys (sc : Screen) (s : State) : (placeAtCentre sc s).keys = s.keys := rfl
@[simp] theorem placeAtCentre_recognizer (sc : Screen) (s : State) : (placeAtCentre sc s).recognizer = s.recognizer := rfl
@[simp] theorem placeAtCentre_focusUnit (sc : Screen) (s : State) : (placeAtCentre sc s).focusUnit = s.focusUnit := rfl
@[simp] theorem placeAtCentre_ports (sc : Screen) (s : State) : (placeAtCentre sc s).ports = s.ports := rfl
@[simp] theorem placeAtCentre_video (sc : Screen) (s : State) : (placeAtCentre sc s).video = s.video := rfl
@[simp] theorem placeAtCentre_schedule (sc : Screen) (s : State) : (placeAtCentre sc s).schedule = s.schedule := rfl
@[simp] theorem placeAtCentre_engine (sc : Screen) (s : State) : (placeAtCentre sc s).engine = s.engine := rfl
@[simp] theorem placeAtCentre_journal (sc : Screen) (s : State) : (placeAtCentre sc s).journal = s.journal := rfl
@[simp] theorem placeAtCentre_image (sc : Screen) (s : State) : (placeAtCentre sc s).image = s.image := rfl
@[simp] theorem placeAtCentre_foreign (sc : Screen) (s : State) : (placeAtCentre sc s).foreign = s.foreign := rfl
@[simp] theorem placeAtCentre_mismatches (sc : Screen) (s : State) : (placeAtCentre sc s).mismatches = s.mismatches := rfl

@[simp] theorem takeOffPlane_pending (s : State) : (takeOffPlane s).pending = s.pending := rfl
@[simp] theorem takeOffPlane_sent (s : State) : (takeOffPlane s).sent = s.sent := rfl
@[simp] theorem takeOffPlane_freeUses (s : State) : (takeOffPlane s).freeUses = s.freeUses := rfl
@[simp] theorem takeOffPlane_clock (s : State) : (takeOffPlane s).clock = s.clock := rfl
@[simp] theorem takeOffPlane_settings (s : State) : (takeOffPlane s).settings = s.settings := rfl
@[simp] theorem takeOffPlane_tables (s : State) : (takeOffPlane s).tables = s.tables := rfl
@[simp] theorem takeOffPlane_console (s : State) : (takeOffPlane s).console = s.console := rfl
@[simp] theorem takeOffPlane_keys (s : State) : (takeOffPlane s).keys = s.keys := rfl
@[simp] theorem takeOffPlane_recognizer (s : State) : (takeOffPlane s).recognizer = s.recognizer := rfl
@[simp] theorem takeOffPlane_focusUnit (s : State) : (takeOffPlane s).focusUnit = s.focusUnit := rfl
@[simp] theorem takeOffPlane_ports (s : State) : (takeOffPlane s).ports = s.ports := rfl
@[simp] theorem takeOffPlane_video (s : State) : (takeOffPlane s).video = s.video := rfl
@[simp] theorem takeOffPlane_schedule (s : State) : (takeOffPlane s).schedule = s.schedule := rfl
@[simp] theorem takeOffPlane_engine (s : State) : (takeOffPlane s).engine = s.engine := rfl
@[simp] theorem takeOffPlane_journal (s : State) : (takeOffPlane s).journal = s.journal := rfl
@[simp] theorem takeOffPlane_image (s : State) : (takeOffPlane s).image = s.image := rfl
@[simp] theorem takeOffPlane_foreign (s : State) : (takeOffPlane s).foreign = s.foreign := rfl
@[simp] theorem takeOffPlane_mismatches (s : State) : (takeOffPlane s).mismatches = s.mismatches := rfl

@[simp] theorem clearPush_pending (s : State) : (clearPush s).pending = s.pending := rfl
@[simp] theorem clearPush_sent (s : State) : (clearPush s).sent = s.sent := rfl
@[simp] theorem clearPush_freeUses (s : State) : (clearPush s).freeUses = s.freeUses := rfl
@[simp] theorem clearPush_clock (s : State) : (clearPush s).clock = s.clock := rfl
@[simp] theorem clearPush_settings (s : State) : (clearPush s).settings = s.settings := rfl
@[simp] theorem clearPush_tables (s : State) : (clearPush s).tables = s.tables := rfl
@[simp] theorem clearPush_console (s : State) : (clearPush s).console = s.console := rfl
@[simp] theorem clearPush_keys (s : State) : (clearPush s).keys = s.keys := rfl
@[simp] theorem clearPush_recognizer (s : State) : (clearPush s).recognizer = s.recognizer := rfl
@[simp] theorem clearPush_focusUnit (s : State) : (clearPush s).focusUnit = s.focusUnit := rfl
@[simp] theorem clearPush_ports (s : State) : (clearPush s).ports = s.ports := rfl
@[simp] theorem clearPush_video (s : State) : (clearPush s).video = s.video := rfl
@[simp] theorem clearPush_schedule (s : State) : (clearPush s).schedule = s.schedule := rfl
@[simp] theorem clearPush_engine (s : State) : (clearPush s).engine = s.engine := rfl
@[simp] theorem clearPush_journal (s : State) : (clearPush s).journal = s.journal := rfl
@[simp] theorem clearPush_image (s : State) : (clearPush s).image = s.image := rfl
@[simp] theorem clearPush_foreign (s : State) : (clearPush s).foreign = s.foreign := rfl
@[simp] theorem clearPush_mismatches (s : State) : (clearPush s).mismatches = s.mismatches := rfl

@[simp] theorem setPlace_pending (p : Place) (push : Option Push) (s : State) : (setPlace p push s).pending = s.pending := rfl
@[simp] theorem setPlace_sent (p : Place) (push : Option Push) (s : State) : (setPlace p push s).sent = s.sent := rfl
@[simp] theorem setPlace_freeUses (p : Place) (push : Option Push) (s : State) : (setPlace p push s).freeUses = s.freeUses := rfl
@[simp] theorem setPlace_clock (p : Place) (push : Option Push) (s : State) : (setPlace p push s).clock = s.clock := rfl
@[simp] theorem setPlace_settings (p : Place) (push : Option Push) (s : State) : (setPlace p push s).settings = s.settings := rfl
@[simp] theorem setPlace_tables (p : Place) (push : Option Push) (s : State) : (setPlace p push s).tables = s.tables := rfl
@[simp] theorem setPlace_console (p : Place) (push : Option Push) (s : State) : (setPlace p push s).console = s.console := rfl
@[simp] theorem setPlace_keys (p : Place) (push : Option Push) (s : State) : (setPlace p push s).keys = s.keys := rfl
@[simp] theorem setPlace_recognizer (p : Place) (push : Option Push) (s : State) : (setPlace p push s).recognizer = s.recognizer := rfl
@[simp] theorem setPlace_focusUnit (p : Place) (push : Option Push) (s : State) : (setPlace p push s).focusUnit = s.focusUnit := rfl
@[simp] theorem setPlace_ports (p : Place) (push : Option Push) (s : State) : (setPlace p push s).ports = s.ports := rfl
@[simp] theorem setPlace_video (p : Place) (push : Option Push) (s : State) : (setPlace p push s).video = s.video := rfl
@[simp] theorem setPlace_schedule (p : Place) (push : Option Push) (s : State) : (setPlace p push s).schedule = s.schedule := rfl
@[simp] theorem setPlace_engine (p : Place) (push : Option Push) (s : State) : (setPlace p push s).engine = s.engine := rfl
@[simp] theorem setPlace_journal (p : Place) (push : Option Push) (s : State) : (setPlace p push s).journal = s.journal := rfl
@[simp] theorem setPlace_image (p : Place) (push : Option Push) (s : State) : (setPlace p push s).image = s.image := rfl
@[simp] theorem setPlace_foreign (p : Place) (push : Option Push) (s : State) : (setPlace p push s).foreign = s.foreign := rfl
@[simp] theorem setPlace_mismatches (p : Place) (push : Option Push) (s : State) : (setPlace p push s).mismatches = s.mismatches := rfl

@[simp] theorem setResidues_pending (rx ry : Int) (s : State) : (setResidues rx ry s).pending = s.pending := rfl
@[simp] theorem setResidues_sent (rx ry : Int) (s : State) : (setResidues rx ry s).sent = s.sent := rfl
@[simp] theorem setResidues_freeUses (rx ry : Int) (s : State) : (setResidues rx ry s).freeUses = s.freeUses := rfl
@[simp] theorem setResidues_clock (rx ry : Int) (s : State) : (setResidues rx ry s).clock = s.clock := rfl
@[simp] theorem setResidues_settings (rx ry : Int) (s : State) : (setResidues rx ry s).settings = s.settings := rfl
@[simp] theorem setResidues_tables (rx ry : Int) (s : State) : (setResidues rx ry s).tables = s.tables := rfl
@[simp] theorem setResidues_console (rx ry : Int) (s : State) : (setResidues rx ry s).console = s.console := rfl
@[simp] theorem setResidues_keys (rx ry : Int) (s : State) : (setResidues rx ry s).keys = s.keys := rfl
@[simp] theorem setResidues_recognizer (rx ry : Int) (s : State) : (setResidues rx ry s).recognizer = s.recognizer := rfl
@[simp] theorem setResidues_focusUnit (rx ry : Int) (s : State) : (setResidues rx ry s).focusUnit = s.focusUnit := rfl
@[simp] theorem setResidues_ports (rx ry : Int) (s : State) : (setResidues rx ry s).ports = s.ports := rfl
@[simp] theorem setResidues_video (rx ry : Int) (s : State) : (setResidues rx ry s).video = s.video := rfl
@[simp] theorem setResidues_schedule (rx ry : Int) (s : State) : (setResidues rx ry s).schedule = s.schedule := rfl
@[simp] theorem setResidues_engine (rx ry : Int) (s : State) : (setResidues rx ry s).engine = s.engine := rfl
@[simp] theorem setResidues_journal (rx ry : Int) (s : State) : (setResidues rx ry s).journal = s.journal := rfl
@[simp] theorem setResidues_image (rx ry : Int) (s : State) : (setResidues rx ry s).image = s.image := rfl
@[simp] theorem setResidues_foreign (rx ry : Int) (s : State) : (setResidues rx ry s).foreign = s.foreign := rfl
@[simp] theorem setResidues_mismatches (rx ry : Int) (s : State) : (setResidues rx ry s).mismatches = s.mismatches := rfl

@[simp] theorem setBroadcast_pending (ks : ComputerSet) (s : State) : (setBroadcast ks s).pending = s.pending := rfl
@[simp] theorem setBroadcast_sent (ks : ComputerSet) (s : State) : (setBroadcast ks s).sent = s.sent := rfl
@[simp] theorem setBroadcast_freeUses (ks : ComputerSet) (s : State) : (setBroadcast ks s).freeUses = s.freeUses := rfl
@[simp] theorem setBroadcast_clock (ks : ComputerSet) (s : State) : (setBroadcast ks s).clock = s.clock := rfl
@[simp] theorem setBroadcast_settings (ks : ComputerSet) (s : State) : (setBroadcast ks s).settings = s.settings := rfl
@[simp] theorem setBroadcast_tables (ks : ComputerSet) (s : State) : (setBroadcast ks s).tables = s.tables := rfl
@[simp] theorem setBroadcast_console (ks : ComputerSet) (s : State) : (setBroadcast ks s).console = s.console := rfl
@[simp] theorem setBroadcast_keys (ks : ComputerSet) (s : State) : (setBroadcast ks s).keys = s.keys := rfl
@[simp] theorem setBroadcast_recognizer (ks : ComputerSet) (s : State) : (setBroadcast ks s).recognizer = s.recognizer := rfl
@[simp] theorem setBroadcast_pointer (ks : ComputerSet) (s : State) : (setBroadcast ks s).pointer = s.pointer := rfl
@[simp] theorem setBroadcast_ports (ks : ComputerSet) (s : State) : (setBroadcast ks s).ports = s.ports := rfl
@[simp] theorem setBroadcast_video (ks : ComputerSet) (s : State) : (setBroadcast ks s).video = s.video := rfl
@[simp] theorem setBroadcast_schedule (ks : ComputerSet) (s : State) : (setBroadcast ks s).schedule = s.schedule := rfl
@[simp] theorem setBroadcast_engine (ks : ComputerSet) (s : State) : (setBroadcast ks s).engine = s.engine := rfl
@[simp] theorem setBroadcast_journal (ks : ComputerSet) (s : State) : (setBroadcast ks s).journal = s.journal := rfl
@[simp] theorem setBroadcast_image (ks : ComputerSet) (s : State) : (setBroadcast ks s).image = s.image := rfl
@[simp] theorem setBroadcast_foreign (ks : ComputerSet) (s : State) : (setBroadcast ks s).foreign = s.foreign := rfl
@[simp] theorem setBroadcast_mismatches (ks : ComputerSet) (s : State) : (setBroadcast ks s).mismatches = s.mismatches := rfl

@[simp] theorem adjustBroadcast_pending (previous : Option Computer) (k : Computer) (s : State) : (adjustBroadcast previous k s).pending = s.pending := rfl
@[simp] theorem adjustBroadcast_sent (previous : Option Computer) (k : Computer) (s : State) : (adjustBroadcast previous k s).sent = s.sent := rfl
@[simp] theorem adjustBroadcast_freeUses (previous : Option Computer) (k : Computer) (s : State) : (adjustBroadcast previous k s).freeUses = s.freeUses := rfl
@[simp] theorem adjustBroadcast_clock (previous : Option Computer) (k : Computer) (s : State) : (adjustBroadcast previous k s).clock = s.clock := rfl
@[simp] theorem adjustBroadcast_settings (previous : Option Computer) (k : Computer) (s : State) : (adjustBroadcast previous k s).settings = s.settings := rfl
@[simp] theorem adjustBroadcast_tables (previous : Option Computer) (k : Computer) (s : State) : (adjustBroadcast previous k s).tables = s.tables := rfl
@[simp] theorem adjustBroadcast_console (previous : Option Computer) (k : Computer) (s : State) : (adjustBroadcast previous k s).console = s.console := rfl
@[simp] theorem adjustBroadcast_keys (previous : Option Computer) (k : Computer) (s : State) : (adjustBroadcast previous k s).keys = s.keys := rfl
@[simp] theorem adjustBroadcast_recognizer (previous : Option Computer) (k : Computer) (s : State) : (adjustBroadcast previous k s).recognizer = s.recognizer := rfl
@[simp] theorem adjustBroadcast_pointer (previous : Option Computer) (k : Computer) (s : State) : (adjustBroadcast previous k s).pointer = s.pointer := rfl
@[simp] theorem adjustBroadcast_ports (previous : Option Computer) (k : Computer) (s : State) : (adjustBroadcast previous k s).ports = s.ports := rfl
@[simp] theorem adjustBroadcast_video (previous : Option Computer) (k : Computer) (s : State) : (adjustBroadcast previous k s).video = s.video := rfl
@[simp] theorem adjustBroadcast_schedule (previous : Option Computer) (k : Computer) (s : State) : (adjustBroadcast previous k s).schedule = s.schedule := rfl
@[simp] theorem adjustBroadcast_engine (previous : Option Computer) (k : Computer) (s : State) : (adjustBroadcast previous k s).engine = s.engine := rfl
@[simp] theorem adjustBroadcast_journal (previous : Option Computer) (k : Computer) (s : State) : (adjustBroadcast previous k s).journal = s.journal := rfl
@[simp] theorem adjustBroadcast_image (previous : Option Computer) (k : Computer) (s : State) : (adjustBroadcast previous k s).image = s.image := rfl
@[simp] theorem adjustBroadcast_foreign (previous : Option Computer) (k : Computer) (s : State) : (adjustBroadcast previous k s).foreign = s.foreign := rfl
@[simp] theorem adjustBroadcast_mismatches (previous : Option Computer) (k : Computer) (s : State) : (adjustBroadcast previous k s).mismatches = s.mismatches := rfl

@[simp] theorem setModeWord_pending (w : ModeWord) (s : State) : (setModeWord w s).pending = s.pending := rfl
@[simp] theorem setModeWord_sent (w : ModeWord) (s : State) : (setModeWord w s).sent = s.sent := rfl
@[simp] theorem setModeWord_freeUses (w : ModeWord) (s : State) : (setModeWord w s).freeUses = s.freeUses := rfl
@[simp] theorem setModeWord_clock (w : ModeWord) (s : State) : (setModeWord w s).clock = s.clock := rfl
@[simp] theorem setModeWord_settings (w : ModeWord) (s : State) : (setModeWord w s).settings = s.settings := rfl
@[simp] theorem setModeWord_console (w : ModeWord) (s : State) : (setModeWord w s).console = s.console := rfl
@[simp] theorem setModeWord_keys (w : ModeWord) (s : State) : (setModeWord w s).keys = s.keys := rfl
@[simp] theorem setModeWord_recognizer (w : ModeWord) (s : State) : (setModeWord w s).recognizer = s.recognizer := rfl
@[simp] theorem setModeWord_focusUnit (w : ModeWord) (s : State) : (setModeWord w s).focusUnit = s.focusUnit := rfl
@[simp] theorem setModeWord_pointer (w : ModeWord) (s : State) : (setModeWord w s).pointer = s.pointer := rfl
@[simp] theorem setModeWord_ports (w : ModeWord) (s : State) : (setModeWord w s).ports = s.ports := rfl
@[simp] theorem setModeWord_video (w : ModeWord) (s : State) : (setModeWord w s).video = s.video := rfl
@[simp] theorem setModeWord_schedule (w : ModeWord) (s : State) : (setModeWord w s).schedule = s.schedule := rfl
@[simp] theorem setModeWord_engine (w : ModeWord) (s : State) : (setModeWord w s).engine = s.engine := rfl
@[simp] theorem setModeWord_journal (w : ModeWord) (s : State) : (setModeWord w s).journal = s.journal := rfl
@[simp] theorem setModeWord_image (w : ModeWord) (s : State) : (setModeWord w s).image = s.image := rfl
@[simp] theorem setModeWord_foreign (w : ModeWord) (s : State) : (setModeWord w s).foreign = s.foreign := rfl
@[simp] theorem setModeWord_mismatches (w : ModeWord) (s : State) : (setModeWord w s).mismatches = s.mismatches := rfl

@[simp] theorem setRecognizer_pending (r : Recognizer) (s : State) : (setRecognizer r s).pending = s.pending := rfl
@[simp] theorem setRecognizer_sent (r : Recognizer) (s : State) : (setRecognizer r s).sent = s.sent := rfl
@[simp] theorem setRecognizer_freeUses (r : Recognizer) (s : State) : (setRecognizer r s).freeUses = s.freeUses := rfl
@[simp] theorem setRecognizer_clock (r : Recognizer) (s : State) : (setRecognizer r s).clock = s.clock := rfl
@[simp] theorem setRecognizer_settings (r : Recognizer) (s : State) : (setRecognizer r s).settings = s.settings := rfl
@[simp] theorem setRecognizer_tables (r : Recognizer) (s : State) : (setRecognizer r s).tables = s.tables := rfl
@[simp] theorem setRecognizer_console (r : Recognizer) (s : State) : (setRecognizer r s).console = s.console := rfl
@[simp] theorem setRecognizer_keys (r : Recognizer) (s : State) : (setRecognizer r s).keys = s.keys := rfl
@[simp] theorem setRecognizer_focusUnit (r : Recognizer) (s : State) : (setRecognizer r s).focusUnit = s.focusUnit := rfl
@[simp] theorem setRecognizer_pointer (r : Recognizer) (s : State) : (setRecognizer r s).pointer = s.pointer := rfl
@[simp] theorem setRecognizer_ports (r : Recognizer) (s : State) : (setRecognizer r s).ports = s.ports := rfl
@[simp] theorem setRecognizer_video (r : Recognizer) (s : State) : (setRecognizer r s).video = s.video := rfl
@[simp] theorem setRecognizer_schedule (r : Recognizer) (s : State) : (setRecognizer r s).schedule = s.schedule := rfl
@[simp] theorem setRecognizer_engine (r : Recognizer) (s : State) : (setRecognizer r s).engine = s.engine := rfl
@[simp] theorem setRecognizer_journal (r : Recognizer) (s : State) : (setRecognizer r s).journal = s.journal := rfl
@[simp] theorem setRecognizer_image (r : Recognizer) (s : State) : (setRecognizer r s).image = s.image := rfl
@[simp] theorem setRecognizer_foreign (r : Recognizer) (s : State) : (setRecognizer r s).foreign = s.foreign := rfl
@[simp] theorem setRecognizer_mismatches (r : Recognizer) (s : State) : (setRecognizer r s).mismatches = s.mismatches := rfl

@[simp] theorem forgetOwner_pending (k : Computer) (s : State) : (forgetOwner k s).pending = s.pending := rfl
@[simp] theorem forgetOwner_sent (k : Computer) (s : State) : (forgetOwner k s).sent = s.sent := rfl
@[simp] theorem forgetOwner_freeUses (k : Computer) (s : State) : (forgetOwner k s).freeUses = s.freeUses := rfl
@[simp] theorem forgetOwner_clock (k : Computer) (s : State) : (forgetOwner k s).clock = s.clock := rfl
@[simp] theorem forgetOwner_settings (k : Computer) (s : State) : (forgetOwner k s).settings = s.settings := rfl
@[simp] theorem forgetOwner_tables (k : Computer) (s : State) : (forgetOwner k s).tables = s.tables := rfl
@[simp] theorem forgetOwner_console (k : Computer) (s : State) : (forgetOwner k s).console = s.console := rfl
@[simp] theorem forgetOwner_recognizer (k : Computer) (s : State) : (forgetOwner k s).recognizer = s.recognizer := rfl
@[simp] theorem forgetOwner_focusUnit (k : Computer) (s : State) : (forgetOwner k s).focusUnit = s.focusUnit := rfl
@[simp] theorem forgetOwner_pointer (k : Computer) (s : State) : (forgetOwner k s).pointer = s.pointer := rfl
@[simp] theorem forgetOwner_ports (k : Computer) (s : State) : (forgetOwner k s).ports = s.ports := rfl
@[simp] theorem forgetOwner_video (k : Computer) (s : State) : (forgetOwner k s).video = s.video := rfl
@[simp] theorem forgetOwner_schedule (k : Computer) (s : State) : (forgetOwner k s).schedule = s.schedule := rfl
@[simp] theorem forgetOwner_engine (k : Computer) (s : State) : (forgetOwner k s).engine = s.engine := rfl
@[simp] theorem forgetOwner_journal (k : Computer) (s : State) : (forgetOwner k s).journal = s.journal := rfl
@[simp] theorem forgetOwner_image (k : Computer) (s : State) : (forgetOwner k s).image = s.image := rfl
@[simp] theorem forgetOwner_foreign (k : Computer) (s : State) : (forgetOwner k s).foreign = s.foreign := rfl
@[simp] theorem forgetOwner_mismatches (k : Computer) (s : State) : (forgetOwner k s).mismatches = s.mismatches := rfl

@[simp] theorem advanceClock_pending (s : State) : (advanceClock s).pending = s.pending := rfl
@[simp] theorem advanceClock_sent (s : State) : (advanceClock s).sent = s.sent := rfl
@[simp] theorem advanceClock_freeUses (s : State) : (advanceClock s).freeUses = s.freeUses := rfl
@[simp] theorem advanceClock_settings (s : State) : (advanceClock s).settings = s.settings := rfl
@[simp] theorem advanceClock_tables (s : State) : (advanceClock s).tables = s.tables := rfl
@[simp] theorem advanceClock_console (s : State) : (advanceClock s).console = s.console := rfl
@[simp] theorem advanceClock_keys (s : State) : (advanceClock s).keys = s.keys := rfl
@[simp] theorem advanceClock_recognizer (s : State) : (advanceClock s).recognizer = s.recognizer := rfl
@[simp] theorem advanceClock_focusUnit (s : State) : (advanceClock s).focusUnit = s.focusUnit := rfl
@[simp] theorem advanceClock_pointer (s : State) : (advanceClock s).pointer = s.pointer := rfl
@[simp] theorem advanceClock_ports (s : State) : (advanceClock s).ports = s.ports := rfl
@[simp] theorem advanceClock_video (s : State) : (advanceClock s).video = s.video := rfl
@[simp] theorem advanceClock_schedule (s : State) : (advanceClock s).schedule = s.schedule := rfl
@[simp] theorem advanceClock_engine (s : State) : (advanceClock s).engine = s.engine := rfl
@[simp] theorem advanceClock_journal (s : State) : (advanceClock s).journal = s.journal := rfl
@[simp] theorem advanceClock_image (s : State) : (advanceClock s).image = s.image := rfl
@[simp] theorem advanceClock_foreign (s : State) : (advanceClock s).foreign = s.foreign := rfl
@[simp] theorem advanceClock_mismatches (s : State) : (advanceClock s).mismatches = s.mismatches := rfl

/-! Readings that an update leaves. -/

@[simp] theorem State.setPort_settingsOf (s : State) (k : Computer) (p : Port) (j : Computer) : (s.setPort k p).settingsOf j = s.settingsOf j := rfl
@[simp] theorem State.setPort_domainOf (s : State) (k : Computer) (p : Port) (j : Computer) : (s.setPort k p).domainOf j = s.domainOf j := rfl
@[simp] theorem State.setPort_isManagement (s : State) (k : Computer) (p : Port) (j : Computer) : (s.setPort k p).isManagement j = s.isManagement j := rfl
@[simp] theorem State.setPort_screen (s : State) (k : Computer) (p : Port) (t : Screen) : (s.setPort k p).screen t = s.screen t := rfl
@[simp] theorem State.setPort_input (s : State) (k : Computer) (p : Port) (i₁ : Input) : (s.setPort k p).input i₁ = s.input i₁ := rfl
@[simp] theorem State.setPort_window (s : State) (k : Computer) (p : Port) (i₁ : Input) : (s.setPort k p).window i₁ = s.window i₁ := rfl
@[simp] theorem State.setPort_placement (s : State) (k : Computer) (p : Port) (t : Screen) : (s.setPort k p).placement t = s.placement t := rfl
@[simp] theorem State.setPort_slotDevice (s : State) (k : Computer) (p : Port) (i₁ : Slot) : (s.setPort k p).slotDevice i₁ = s.slotDevice i₁ := rfl
@[simp] theorem State.setPort_entry (s : State) (k : Computer) (p : Port) (i₁ : ScheduleIndex) : (s.setPort k p).entry i₁ = s.entry i₁ := rfl
@[simp] theorem State.setPort_snapshot (s : State) (k : Computer) (p : Port) (j : Computer) : (s.setPort k p).snapshot j = s.snapshot j := rfl
@[simp] theorem State.setPort_buttonsOf (s : State) (k : Computer) (p : Port) (j : Computer) : (s.setPort k p).buttonsOf j = s.buttonsOf j := rfl

@[simp] theorem onPort_settingsOf (k : Computer) (f : Port → Port) (s : State) (j : Computer) : (onPort k f s).settingsOf j = s.settingsOf j := rfl
@[simp] theorem onPort_domainOf (k : Computer) (f : Port → Port) (s : State) (j : Computer) : (onPort k f s).domainOf j = s.domainOf j := rfl
@[simp] theorem onPort_isManagement (k : Computer) (f : Port → Port) (s : State) (j : Computer) : (onPort k f s).isManagement j = s.isManagement j := rfl
@[simp] theorem onPort_screen (k : Computer) (f : Port → Port) (s : State) (t : Screen) : (onPort k f s).screen t = s.screen t := rfl
@[simp] theorem onPort_input (k : Computer) (f : Port → Port) (s : State) (i₁ : Input) : (onPort k f s).input i₁ = s.input i₁ := rfl
@[simp] theorem onPort_window (k : Computer) (f : Port → Port) (s : State) (i₁ : Input) : (onPort k f s).window i₁ = s.window i₁ := rfl
@[simp] theorem onPort_placement (k : Computer) (f : Port → Port) (s : State) (t : Screen) : (onPort k f s).placement t = s.placement t := rfl
@[simp] theorem onPort_slotDevice (k : Computer) (f : Port → Port) (s : State) (i₁ : Slot) : (onPort k f s).slotDevice i₁ = s.slotDevice i₁ := rfl
@[simp] theorem onPort_entry (k : Computer) (f : Port → Port) (s : State) (i₁ : ScheduleIndex) : (onPort k f s).entry i₁ = s.entry i₁ := rfl
@[simp] theorem onPort_snapshot (k : Computer) (f : Port → Port) (s : State) (j : Computer) : (onPort k f s).snapshot j = s.snapshot j := rfl
@[simp] theorem onPort_buttonsOf (k : Computer) (f : Port → Port) (s : State) (j : Computer) : (onPort k f s).buttonsOf j = s.buttonsOf j := rfl

@[simp] theorem State.setScreen_port (s : State) (sc : Screen) (r : ScreenRecord) (j : Computer) : (s.setScreen sc r).port j = s.port j := rfl
@[simp] theorem State.setScreen_queueable (s : State) (sc : Screen) (r : ScreenRecord) (j : Computer) : (s.setScreen sc r).queueable j = s.queueable j := rfl
@[simp] theorem State.setScreen_settingsOf (s : State) (sc : Screen) (r : ScreenRecord) (j : Computer) : (s.setScreen sc r).settingsOf j = s.settingsOf j := rfl
@[simp] theorem State.setScreen_domainOf (s : State) (sc : Screen) (r : ScreenRecord) (j : Computer) : (s.setScreen sc r).domainOf j = s.domainOf j := rfl
@[simp] theorem State.setScreen_isManagement (s : State) (sc : Screen) (r : ScreenRecord) (j : Computer) : (s.setScreen sc r).isManagement j = s.isManagement j := rfl
@[simp] theorem State.setScreen_input (s : State) (sc : Screen) (r : ScreenRecord) (i₁ : Input) : (s.setScreen sc r).input i₁ = s.input i₁ := rfl
@[simp] theorem State.setScreen_window (s : State) (sc : Screen) (r : ScreenRecord) (i₁ : Input) : (s.setScreen sc r).window i₁ = s.window i₁ := rfl
@[simp] theorem State.setScreen_placement (s : State) (sc : Screen) (r : ScreenRecord) (t : Screen) : (s.setScreen sc r).placement t = s.placement t := rfl
@[simp] theorem State.setScreen_slotDevice (s : State) (sc : Screen) (r : ScreenRecord) (i₁ : Slot) : (s.setScreen sc r).slotDevice i₁ = s.slotDevice i₁ := rfl
@[simp] theorem State.setScreen_entry (s : State) (sc : Screen) (r : ScreenRecord) (i₁ : ScheduleIndex) : (s.setScreen sc r).entry i₁ = s.entry i₁ := rfl
@[simp] theorem State.setScreen_snapshot (s : State) (sc : Screen) (r : ScreenRecord) (j : Computer) : (s.setScreen sc r).snapshot j = s.snapshot j := rfl
@[simp] theorem State.setScreen_buttonsOf (s : State) (sc : Screen) (r : ScreenRecord) (j : Computer) : (s.setScreen sc r).buttonsOf j = s.buttonsOf j := rfl

@[simp] theorem State.setInput_port (s : State) (i : Input) (r : InputRecord) (j : Computer) : (s.setInput i r).port j = s.port j := rfl
@[simp] theorem State.setInput_queueable (s : State) (i : Input) (r : InputRecord) (j : Computer) : (s.setInput i r).queueable j = s.queueable j := rfl
@[simp] theorem State.setInput_settingsOf (s : State) (i : Input) (r : InputRecord) (j : Computer) : (s.setInput i r).settingsOf j = s.settingsOf j := rfl
@[simp] theorem State.setInput_domainOf (s : State) (i : Input) (r : InputRecord) (j : Computer) : (s.setInput i r).domainOf j = s.domainOf j := rfl
@[simp] theorem State.setInput_isManagement (s : State) (i : Input) (r : InputRecord) (j : Computer) : (s.setInput i r).isManagement j = s.isManagement j := rfl
@[simp] theorem State.setInput_screen (s : State) (i : Input) (r : InputRecord) (t : Screen) : (s.setInput i r).screen t = s.screen t := rfl
@[simp] theorem State.setInput_window (s : State) (i : Input) (r : InputRecord) (i₁ : Input) : (s.setInput i r).window i₁ = s.window i₁ := rfl
@[simp] theorem State.setInput_placement (s : State) (i : Input) (r : InputRecord) (t : Screen) : (s.setInput i r).placement t = s.placement t := rfl
@[simp] theorem State.setInput_slotDevice (s : State) (i : Input) (r : InputRecord) (i₁ : Slot) : (s.setInput i r).slotDevice i₁ = s.slotDevice i₁ := rfl
@[simp] theorem State.setInput_entry (s : State) (i : Input) (r : InputRecord) (i₁ : ScheduleIndex) : (s.setInput i r).entry i₁ = s.entry i₁ := rfl
@[simp] theorem State.setInput_snapshot (s : State) (i : Input) (r : InputRecord) (j : Computer) : (s.setInput i r).snapshot j = s.snapshot j := rfl
@[simp] theorem State.setInput_buttonsOf (s : State) (i : Input) (r : InputRecord) (j : Computer) : (s.setInput i r).buttonsOf j = s.buttonsOf j := rfl

@[simp] theorem State.setShare_port (s : State) (r : ShareRecord) (j : Computer) : (s.setShare r).port j = s.port j := rfl
@[simp] theorem State.setShare_queueable (s : State) (r : ShareRecord) (j : Computer) : (s.setShare r).queueable j = s.queueable j := rfl
@[simp] theorem State.setShare_settingsOf (s : State) (r : ShareRecord) (j : Computer) : (s.setShare r).settingsOf j = s.settingsOf j := rfl
@[simp] theorem State.setShare_domainOf (s : State) (r : ShareRecord) (j : Computer) : (s.setShare r).domainOf j = s.domainOf j := rfl
@[simp] theorem State.setShare_isManagement (s : State) (r : ShareRecord) (j : Computer) : (s.setShare r).isManagement j = s.isManagement j := rfl
@[simp] theorem State.setShare_screen (s : State) (r : ShareRecord) (t : Screen) : (s.setShare r).screen t = s.screen t := rfl
@[simp] theorem State.setShare_input (s : State) (r : ShareRecord) (i₁ : Input) : (s.setShare r).input i₁ = s.input i₁ := rfl
@[simp] theorem State.setShare_window (s : State) (r : ShareRecord) (i₁ : Input) : (s.setShare r).window i₁ = s.window i₁ := rfl
@[simp] theorem State.setShare_placement (s : State) (r : ShareRecord) (t : Screen) : (s.setShare r).placement t = s.placement t := rfl
@[simp] theorem State.setShare_slotDevice (s : State) (r : ShareRecord) (i₁ : Slot) : (s.setShare r).slotDevice i₁ = s.slotDevice i₁ := rfl
@[simp] theorem State.setShare_entry (s : State) (r : ShareRecord) (i₁ : ScheduleIndex) : (s.setShare r).entry i₁ = s.entry i₁ := rfl
@[simp] theorem State.setShare_snapshot (s : State) (r : ShareRecord) (j : Computer) : (s.setShare r).snapshot j = s.snapshot j := rfl
@[simp] theorem State.setShare_buttonsOf (s : State) (r : ShareRecord) (j : Computer) : (s.setShare r).buttonsOf j = s.buttonsOf j := rfl

@[simp] theorem State.setPointer_port (s : State) (p : Pointer) (j : Computer) : (s.setPointer p).port j = s.port j := rfl
@[simp] theorem State.setPointer_queueable (s : State) (p : Pointer) (j : Computer) : (s.setPointer p).queueable j = s.queueable j := rfl
@[simp] theorem State.setPointer_settingsOf (s : State) (p : Pointer) (j : Computer) : (s.setPointer p).settingsOf j = s.settingsOf j := rfl
@[simp] theorem State.setPointer_domainOf (s : State) (p : Pointer) (j : Computer) : (s.setPointer p).domainOf j = s.domainOf j := rfl
@[simp] theorem State.setPointer_isManagement (s : State) (p : Pointer) (j : Computer) : (s.setPointer p).isManagement j = s.isManagement j := rfl
@[simp] theorem State.setPointer_screen (s : State) (p : Pointer) (t : Screen) : (s.setPointer p).screen t = s.screen t := rfl
@[simp] theorem State.setPointer_input (s : State) (p : Pointer) (i₁ : Input) : (s.setPointer p).input i₁ = s.input i₁ := rfl
@[simp] theorem State.setPointer_window (s : State) (p : Pointer) (i₁ : Input) : (s.setPointer p).window i₁ = s.window i₁ := rfl
@[simp] theorem State.setPointer_placement (s : State) (p : Pointer) (t : Screen) : (s.setPointer p).placement t = s.placement t := rfl
@[simp] theorem State.setPointer_slotDevice (s : State) (p : Pointer) (i₁ : Slot) : (s.setPointer p).slotDevice i₁ = s.slotDevice i₁ := rfl
@[simp] theorem State.setPointer_entry (s : State) (p : Pointer) (i₁ : ScheduleIndex) : (s.setPointer p).entry i₁ = s.entry i₁ := rfl
@[simp] theorem State.setPointer_snapshot (s : State) (p : Pointer) (j : Computer) : (s.setPointer p).snapshot j = s.snapshot j := rfl
@[simp] theorem State.setPointer_buttonsOf (s : State) (p : Pointer) (j : Computer) : (s.setPointer p).buttonsOf j = s.buttonsOf j := rfl

@[simp] theorem State.setHeld_port (s : State) (es : List HeldKey) (j : Computer) : (s.setHeld es).port j = s.port j := rfl
@[simp] theorem State.setHeld_queueable (s : State) (es : List HeldKey) (j : Computer) : (s.setHeld es).queueable j = s.queueable j := rfl
@[simp] theorem State.setHeld_settingsOf (s : State) (es : List HeldKey) (j : Computer) : (s.setHeld es).settingsOf j = s.settingsOf j := rfl
@[simp] theorem State.setHeld_domainOf (s : State) (es : List HeldKey) (j : Computer) : (s.setHeld es).domainOf j = s.domainOf j := rfl
@[simp] theorem State.setHeld_isManagement (s : State) (es : List HeldKey) (j : Computer) : (s.setHeld es).isManagement j = s.isManagement j := rfl
@[simp] theorem State.setHeld_screen (s : State) (es : List HeldKey) (t : Screen) : (s.setHeld es).screen t = s.screen t := rfl
@[simp] theorem State.setHeld_input (s : State) (es : List HeldKey) (i₁ : Input) : (s.setHeld es).input i₁ = s.input i₁ := rfl
@[simp] theorem State.setHeld_window (s : State) (es : List HeldKey) (i₁ : Input) : (s.setHeld es).window i₁ = s.window i₁ := rfl
@[simp] theorem State.setHeld_placement (s : State) (es : List HeldKey) (t : Screen) : (s.setHeld es).placement t = s.placement t := rfl
@[simp] theorem State.setHeld_slotDevice (s : State) (es : List HeldKey) (i₁ : Slot) : (s.setHeld es).slotDevice i₁ = s.slotDevice i₁ := rfl
@[simp] theorem State.setHeld_entry (s : State) (es : List HeldKey) (i₁ : ScheduleIndex) : (s.setHeld es).entry i₁ = s.entry i₁ := rfl
@[simp] theorem State.setHeld_buttonsOf (s : State) (es : List HeldKey) (j : Computer) : (s.setHeld es).buttonsOf j = s.buttonsOf j := rfl

@[simp] theorem State.setButtons_port (s : State) (bs : Vector (Option Computer) 5) (j : Computer) : (s.setButtons bs).port j = s.port j := rfl
@[simp] theorem State.setButtons_queueable (s : State) (bs : Vector (Option Computer) 5) (j : Computer) : (s.setButtons bs).queueable j = s.queueable j := rfl
@[simp] theorem State.setButtons_settingsOf (s : State) (bs : Vector (Option Computer) 5) (j : Computer) : (s.setButtons bs).settingsOf j = s.settingsOf j := rfl
@[simp] theorem State.setButtons_domainOf (s : State) (bs : Vector (Option Computer) 5) (j : Computer) : (s.setButtons bs).domainOf j = s.domainOf j := rfl
@[simp] theorem State.setButtons_isManagement (s : State) (bs : Vector (Option Computer) 5) (j : Computer) : (s.setButtons bs).isManagement j = s.isManagement j := rfl
@[simp] theorem State.setButtons_screen (s : State) (bs : Vector (Option Computer) 5) (t : Screen) : (s.setButtons bs).screen t = s.screen t := rfl
@[simp] theorem State.setButtons_input (s : State) (bs : Vector (Option Computer) 5) (i₁ : Input) : (s.setButtons bs).input i₁ = s.input i₁ := rfl
@[simp] theorem State.setButtons_window (s : State) (bs : Vector (Option Computer) 5) (i₁ : Input) : (s.setButtons bs).window i₁ = s.window i₁ := rfl
@[simp] theorem State.setButtons_placement (s : State) (bs : Vector (Option Computer) 5) (t : Screen) : (s.setButtons bs).placement t = s.placement t := rfl
@[simp] theorem State.setButtons_slotDevice (s : State) (bs : Vector (Option Computer) 5) (i₁ : Slot) : (s.setButtons bs).slotDevice i₁ = s.slotDevice i₁ := rfl
@[simp] theorem State.setButtons_entry (s : State) (bs : Vector (Option Computer) 5) (i₁ : ScheduleIndex) : (s.setButtons bs).entry i₁ = s.entry i₁ := rfl
@[simp] theorem State.setButtons_snapshot (s : State) (bs : Vector (Option Computer) 5) (j : Computer) : (s.setButtons bs).snapshot j = s.snapshot j := rfl

@[simp] theorem State.setSlot_port (s : State) (i : Slot) (d : Option Device) (j : Computer) : (s.setSlot i d).port j = s.port j := rfl
@[simp] theorem State.setSlot_queueable (s : State) (i : Slot) (d : Option Device) (j : Computer) : (s.setSlot i d).queueable j = s.queueable j := rfl
@[simp] theorem State.setSlot_settingsOf (s : State) (i : Slot) (d : Option Device) (j : Computer) : (s.setSlot i d).settingsOf j = s.settingsOf j := rfl
@[simp] theorem State.setSlot_domainOf (s : State) (i : Slot) (d : Option Device) (j : Computer) : (s.setSlot i d).domainOf j = s.domainOf j := rfl
@[simp] theorem State.setSlot_isManagement (s : State) (i : Slot) (d : Option Device) (j : Computer) : (s.setSlot i d).isManagement j = s.isManagement j := rfl
@[simp] theorem State.setSlot_screen (s : State) (i : Slot) (d : Option Device) (t : Screen) : (s.setSlot i d).screen t = s.screen t := rfl
@[simp] theorem State.setSlot_input (s : State) (i : Slot) (d : Option Device) (i₁ : Input) : (s.setSlot i d).input i₁ = s.input i₁ := rfl
@[simp] theorem State.setSlot_window (s : State) (i : Slot) (d : Option Device) (i₁ : Input) : (s.setSlot i d).window i₁ = s.window i₁ := rfl
@[simp] theorem State.setSlot_placement (s : State) (i : Slot) (d : Option Device) (t : Screen) : (s.setSlot i d).placement t = s.placement t := rfl
@[simp] theorem State.setSlot_entry (s : State) (i : Slot) (d : Option Device) (i₁ : ScheduleIndex) : (s.setSlot i d).entry i₁ = s.entry i₁ := rfl
@[simp] theorem State.setSlot_snapshot (s : State) (i : Slot) (d : Option Device) (j : Computer) : (s.setSlot i d).snapshot j = s.snapshot j := rfl
@[simp] theorem State.setSlot_buttonsOf (s : State) (i : Slot) (d : Option Device) (j : Computer) : (s.setSlot i d).buttonsOf j = s.buttonsOf j := rfl

@[simp] theorem State.setEntry_port (s : State) (i : ScheduleIndex) (e : Option ScheduleEntry) (j : Computer) : (s.setEntry i e).port j = s.port j := rfl
@[simp] theorem State.setEntry_queueable (s : State) (i : ScheduleIndex) (e : Option ScheduleEntry) (j : Computer) : (s.setEntry i e).queueable j = s.queueable j := rfl
@[simp] theorem State.setEntry_settingsOf (s : State) (i : ScheduleIndex) (e : Option ScheduleEntry) (j : Computer) : (s.setEntry i e).settingsOf j = s.settingsOf j := rfl
@[simp] theorem State.setEntry_domainOf (s : State) (i : ScheduleIndex) (e : Option ScheduleEntry) (j : Computer) : (s.setEntry i e).domainOf j = s.domainOf j := rfl
@[simp] theorem State.setEntry_isManagement (s : State) (i : ScheduleIndex) (e : Option ScheduleEntry) (j : Computer) : (s.setEntry i e).isManagement j = s.isManagement j := rfl
@[simp] theorem State.setEntry_screen (s : State) (i : ScheduleIndex) (e : Option ScheduleEntry) (t : Screen) : (s.setEntry i e).screen t = s.screen t := rfl
@[simp] theorem State.setEntry_input (s : State) (i : ScheduleIndex) (e : Option ScheduleEntry) (i₁ : Input) : (s.setEntry i e).input i₁ = s.input i₁ := rfl
@[simp] theorem State.setEntry_window (s : State) (i : ScheduleIndex) (e : Option ScheduleEntry) (i₁ : Input) : (s.setEntry i e).window i₁ = s.window i₁ := rfl
@[simp] theorem State.setEntry_placement (s : State) (i : ScheduleIndex) (e : Option ScheduleEntry) (t : Screen) : (s.setEntry i e).placement t = s.placement t := rfl
@[simp] theorem State.setEntry_slotDevice (s : State) (i : ScheduleIndex) (e : Option ScheduleEntry) (i₁ : Slot) : (s.setEntry i e).slotDevice i₁ = s.slotDevice i₁ := rfl
@[simp] theorem State.setEntry_snapshot (s : State) (i : ScheduleIndex) (e : Option ScheduleEntry) (j : Computer) : (s.setEntry i e).snapshot j = s.snapshot j := rfl
@[simp] theorem State.setEntry_buttonsOf (s : State) (i : ScheduleIndex) (e : Option ScheduleEntry) (j : Computer) : (s.setEntry i e).buttonsOf j = s.buttonsOf j := rfl

@[simp] theorem State.send_port (s : State) (x : Sent) (j : Computer) : (s.send x).port j = s.port j := rfl
@[simp] theorem State.send_queueable (s : State) (x : Sent) (j : Computer) : (s.send x).queueable j = s.queueable j := rfl
@[simp] theorem State.send_settingsOf (s : State) (x : Sent) (j : Computer) : (s.send x).settingsOf j = s.settingsOf j := rfl
@[simp] theorem State.send_domainOf (s : State) (x : Sent) (j : Computer) : (s.send x).domainOf j = s.domainOf j := rfl
@[simp] theorem State.send_isManagement (s : State) (x : Sent) (j : Computer) : (s.send x).isManagement j = s.isManagement j := rfl
@[simp] theorem State.send_screen (s : State) (x : Sent) (t : Screen) : (s.send x).screen t = s.screen t := rfl
@[simp] theorem State.send_input (s : State) (x : Sent) (i₁ : Input) : (s.send x).input i₁ = s.input i₁ := rfl
@[simp] theorem State.send_window (s : State) (x : Sent) (i₁ : Input) : (s.send x).window i₁ = s.window i₁ := rfl
@[simp] theorem State.send_placement (s : State) (x : Sent) (t : Screen) : (s.send x).placement t = s.placement t := rfl
@[simp] theorem State.send_slotDevice (s : State) (x : Sent) (i₁ : Slot) : (s.send x).slotDevice i₁ = s.slotDevice i₁ := rfl
@[simp] theorem State.send_entry (s : State) (x : Sent) (i₁ : ScheduleIndex) : (s.send x).entry i₁ = s.entry i₁ := rfl
@[simp] theorem State.send_snapshot (s : State) (x : Sent) (j : Computer) : (s.send x).snapshot j = s.snapshot j := rfl
@[simp] theorem State.send_buttonsOf (s : State) (x : Sent) (j : Computer) : (s.send x).buttonsOf j = s.buttonsOf j := rfl

@[simp] theorem countConsoleError_port (s : State) (j : Computer) : (countConsoleError s).port j = s.port j := rfl
@[simp] theorem countConsoleError_queueable (s : State) (j : Computer) : (countConsoleError s).queueable j = s.queueable j := rfl
@[simp] theorem countConsoleError_settingsOf (s : State) (j : Computer) : (countConsoleError s).settingsOf j = s.settingsOf j := rfl
@[simp] theorem countConsoleError_domainOf (s : State) (j : Computer) : (countConsoleError s).domainOf j = s.domainOf j := rfl
@[simp] theorem countConsoleError_isManagement (s : State) (j : Computer) : (countConsoleError s).isManagement j = s.isManagement j := rfl
@[simp] theorem countConsoleError_screen (s : State) (t : Screen) : (countConsoleError s).screen t = s.screen t := rfl
@[simp] theorem countConsoleError_input (s : State) (i₁ : Input) : (countConsoleError s).input i₁ = s.input i₁ := rfl
@[simp] theorem countConsoleError_window (s : State) (i₁ : Input) : (countConsoleError s).window i₁ = s.window i₁ := rfl
@[simp] theorem countConsoleError_placement (s : State) (t : Screen) : (countConsoleError s).placement t = s.placement t := rfl
@[simp] theorem countConsoleError_slotDevice (s : State) (i₁ : Slot) : (countConsoleError s).slotDevice i₁ = s.slotDevice i₁ := rfl
@[simp] theorem countConsoleError_entry (s : State) (i₁ : ScheduleIndex) : (countConsoleError s).entry i₁ = s.entry i₁ := rfl
@[simp] theorem countConsoleError_snapshot (s : State) (j : Computer) : (countConsoleError s).snapshot j = s.snapshot j := rfl
@[simp] theorem countConsoleError_buttonsOf (s : State) (j : Computer) : (countConsoleError s).buttonsOf j = s.buttonsOf j := rfl

@[simp] theorem countForeign_port (s : State) (j : Computer) : (countForeign s).port j = s.port j := rfl
@[simp] theorem countForeign_queueable (s : State) (j : Computer) : (countForeign s).queueable j = s.queueable j := rfl
@[simp] theorem countForeign_settingsOf (s : State) (j : Computer) : (countForeign s).settingsOf j = s.settingsOf j := rfl
@[simp] theorem countForeign_domainOf (s : State) (j : Computer) : (countForeign s).domainOf j = s.domainOf j := rfl
@[simp] theorem countForeign_isManagement (s : State) (j : Computer) : (countForeign s).isManagement j = s.isManagement j := rfl
@[simp] theorem countForeign_screen (s : State) (t : Screen) : (countForeign s).screen t = s.screen t := rfl
@[simp] theorem countForeign_input (s : State) (i₁ : Input) : (countForeign s).input i₁ = s.input i₁ := rfl
@[simp] theorem countForeign_window (s : State) (i₁ : Input) : (countForeign s).window i₁ = s.window i₁ := rfl
@[simp] theorem countForeign_placement (s : State) (t : Screen) : (countForeign s).placement t = s.placement t := rfl
@[simp] theorem countForeign_slotDevice (s : State) (i₁ : Slot) : (countForeign s).slotDevice i₁ = s.slotDevice i₁ := rfl
@[simp] theorem countForeign_entry (s : State) (i₁ : ScheduleIndex) : (countForeign s).entry i₁ = s.entry i₁ := rfl
@[simp] theorem countForeign_snapshot (s : State) (j : Computer) : (countForeign s).snapshot j = s.snapshot j := rfl
@[simp] theorem countForeign_buttonsOf (s : State) (j : Computer) : (countForeign s).buttonsOf j = s.buttonsOf j := rfl

@[simp] theorem countMismatch_port (s : State) (j : Computer) : (countMismatch s).port j = s.port j := rfl
@[simp] theorem countMismatch_queueable (s : State) (j : Computer) : (countMismatch s).queueable j = s.queueable j := rfl
@[simp] theorem countMismatch_settingsOf (s : State) (j : Computer) : (countMismatch s).settingsOf j = s.settingsOf j := rfl
@[simp] theorem countMismatch_domainOf (s : State) (j : Computer) : (countMismatch s).domainOf j = s.domainOf j := rfl
@[simp] theorem countMismatch_isManagement (s : State) (j : Computer) : (countMismatch s).isManagement j = s.isManagement j := rfl
@[simp] theorem countMismatch_screen (s : State) (t : Screen) : (countMismatch s).screen t = s.screen t := rfl
@[simp] theorem countMismatch_input (s : State) (i₁ : Input) : (countMismatch s).input i₁ = s.input i₁ := rfl
@[simp] theorem countMismatch_window (s : State) (i₁ : Input) : (countMismatch s).window i₁ = s.window i₁ := rfl
@[simp] theorem countMismatch_placement (s : State) (t : Screen) : (countMismatch s).placement t = s.placement t := rfl
@[simp] theorem countMismatch_slotDevice (s : State) (i₁ : Slot) : (countMismatch s).slotDevice i₁ = s.slotDevice i₁ := rfl
@[simp] theorem countMismatch_entry (s : State) (i₁ : ScheduleIndex) : (countMismatch s).entry i₁ = s.entry i₁ := rfl
@[simp] theorem countMismatch_snapshot (s : State) (j : Computer) : (countMismatch s).snapshot j = s.snapshot j := rfl
@[simp] theorem countMismatch_buttonsOf (s : State) (j : Computer) : (countMismatch s).buttonsOf j = s.buttonsOf j := rfl

@[simp] theorem record_port (event : JournalEvent) (s : State) (j : Computer) : (record event s).port j = s.port j := rfl
@[simp] theorem record_queueable (event : JournalEvent) (s : State) (j : Computer) : (record event s).queueable j = s.queueable j := rfl
@[simp] theorem record_settingsOf (event : JournalEvent) (s : State) (j : Computer) : (record event s).settingsOf j = s.settingsOf j := rfl
@[simp] theorem record_domainOf (event : JournalEvent) (s : State) (j : Computer) : (record event s).domainOf j = s.domainOf j := rfl
@[simp] theorem record_isManagement (event : JournalEvent) (s : State) (j : Computer) : (record event s).isManagement j = s.isManagement j := rfl
@[simp] theorem record_screen (event : JournalEvent) (s : State) (t : Screen) : (record event s).screen t = s.screen t := rfl
@[simp] theorem record_input (event : JournalEvent) (s : State) (i₁ : Input) : (record event s).input i₁ = s.input i₁ := rfl
@[simp] theorem record_window (event : JournalEvent) (s : State) (i₁ : Input) : (record event s).window i₁ = s.window i₁ := rfl
@[simp] theorem record_placement (event : JournalEvent) (s : State) (t : Screen) : (record event s).placement t = s.placement t := rfl
@[simp] theorem record_slotDevice (event : JournalEvent) (s : State) (i₁ : Slot) : (record event s).slotDevice i₁ = s.slotDevice i₁ := rfl
@[simp] theorem record_entry (event : JournalEvent) (s : State) (i₁ : ScheduleIndex) : (record event s).entry i₁ = s.entry i₁ := rfl
@[simp] theorem record_snapshot (event : JournalEvent) (s : State) (j : Computer) : (record event s).snapshot j = s.snapshot j := rfl
@[simp] theorem record_buttonsOf (event : JournalEvent) (s : State) (j : Computer) : (record event s).buttonsOf j = s.buttonsOf j := rfl

@[simp] theorem sendLeds_port (s : State) (j : Computer) : (sendLeds s).port j = s.port j := rfl
@[simp] theorem sendLeds_queueable (s : State) (j : Computer) : (sendLeds s).queueable j = s.queueable j := rfl
@[simp] theorem sendLeds_settingsOf (s : State) (j : Computer) : (sendLeds s).settingsOf j = s.settingsOf j := rfl
@[simp] theorem sendLeds_domainOf (s : State) (j : Computer) : (sendLeds s).domainOf j = s.domainOf j := rfl
@[simp] theorem sendLeds_isManagement (s : State) (j : Computer) : (sendLeds s).isManagement j = s.isManagement j := rfl
@[simp] theorem sendLeds_screen (s : State) (t : Screen) : (sendLeds s).screen t = s.screen t := rfl
@[simp] theorem sendLeds_input (s : State) (i₁ : Input) : (sendLeds s).input i₁ = s.input i₁ := rfl
@[simp] theorem sendLeds_window (s : State) (i₁ : Input) : (sendLeds s).window i₁ = s.window i₁ := rfl
@[simp] theorem sendLeds_placement (s : State) (t : Screen) : (sendLeds s).placement t = s.placement t := rfl
@[simp] theorem sendLeds_slotDevice (s : State) (i₁ : Slot) : (sendLeds s).slotDevice i₁ = s.slotDevice i₁ := rfl
@[simp] theorem sendLeds_entry (s : State) (i₁ : ScheduleIndex) : (sendLeds s).entry i₁ = s.entry i₁ := rfl
@[simp] theorem sendLeds_snapshot (s : State) (j : Computer) : (sendLeds s).snapshot j = s.snapshot j := rfl
@[simp] theorem sendLeds_buttonsOf (s : State) (j : Computer) : (sendLeds s).buttonsOf j = s.buttonsOf j := rfl

@[simp] theorem clearMotion_port (s : State) (j : Computer) : (clearMotion s).port j = s.port j := rfl
@[simp] theorem clearMotion_queueable (s : State) (j : Computer) : (clearMotion s).queueable j = s.queueable j := rfl
@[simp] theorem clearMotion_settingsOf (s : State) (j : Computer) : (clearMotion s).settingsOf j = s.settingsOf j := rfl
@[simp] theorem clearMotion_domainOf (s : State) (j : Computer) : (clearMotion s).domainOf j = s.domainOf j := rfl
@[simp] theorem clearMotion_isManagement (s : State) (j : Computer) : (clearMotion s).isManagement j = s.isManagement j := rfl
@[simp] theorem clearMotion_screen (s : State) (t : Screen) : (clearMotion s).screen t = s.screen t := rfl
@[simp] theorem clearMotion_input (s : State) (i₁ : Input) : (clearMotion s).input i₁ = s.input i₁ := rfl
@[simp] theorem clearMotion_window (s : State) (i₁ : Input) : (clearMotion s).window i₁ = s.window i₁ := rfl
@[simp] theorem clearMotion_placement (s : State) (t : Screen) : (clearMotion s).placement t = s.placement t := rfl
@[simp] theorem clearMotion_slotDevice (s : State) (i₁ : Slot) : (clearMotion s).slotDevice i₁ = s.slotDevice i₁ := rfl
@[simp] theorem clearMotion_entry (s : State) (i₁ : ScheduleIndex) : (clearMotion s).entry i₁ = s.entry i₁ := rfl
@[simp] theorem clearMotion_snapshot (s : State) (j : Computer) : (clearMotion s).snapshot j = s.snapshot j := rfl
@[simp] theorem clearMotion_buttonsOf (s : State) (j : Computer) : (clearMotion s).buttonsOf j = s.buttonsOf j := rfl

@[simp] theorem clearHeadless_port (s : State) (j : Computer) : (clearHeadless s).port j = s.port j := rfl
@[simp] theorem clearHeadless_queueable (s : State) (j : Computer) : (clearHeadless s).queueable j = s.queueable j := rfl
@[simp] theorem clearHeadless_settingsOf (s : State) (j : Computer) : (clearHeadless s).settingsOf j = s.settingsOf j := rfl
@[simp] theorem clearHeadless_domainOf (s : State) (j : Computer) : (clearHeadless s).domainOf j = s.domainOf j := rfl
@[simp] theorem clearHeadless_isManagement (s : State) (j : Computer) : (clearHeadless s).isManagement j = s.isManagement j := rfl
@[simp] theorem clearHeadless_screen (s : State) (t : Screen) : (clearHeadless s).screen t = s.screen t := rfl
@[simp] theorem clearHeadless_input (s : State) (i₁ : Input) : (clearHeadless s).input i₁ = s.input i₁ := rfl
@[simp] theorem clearHeadless_window (s : State) (i₁ : Input) : (clearHeadless s).window i₁ = s.window i₁ := rfl
@[simp] theorem clearHeadless_placement (s : State) (t : Screen) : (clearHeadless s).placement t = s.placement t := rfl
@[simp] theorem clearHeadless_slotDevice (s : State) (i₁ : Slot) : (clearHeadless s).slotDevice i₁ = s.slotDevice i₁ := rfl
@[simp] theorem clearHeadless_entry (s : State) (i₁ : ScheduleIndex) : (clearHeadless s).entry i₁ = s.entry i₁ := rfl
@[simp] theorem clearHeadless_snapshot (s : State) (j : Computer) : (clearHeadless s).snapshot j = s.snapshot j := rfl
@[simp] theorem clearHeadless_buttonsOf (s : State) (j : Computer) : (clearHeadless s).buttonsOf j = s.buttonsOf j := rfl

@[simp] theorem placeAtCentre_port (sc : Screen) (s : State) (j : Computer) : (placeAtCentre sc s).port j = s.port j := rfl
@[simp] theorem placeAtCentre_queueable (sc : Screen) (s : State) (j : Computer) : (placeAtCentre sc s).queueable j = s.queueable j := rfl
@[simp] theorem placeAtCentre_settingsOf (sc : Screen) (s : State) (j : Computer) : (placeAtCentre sc s).settingsOf j = s.settingsOf j := rfl
@[simp] theorem placeAtCentre_domainOf (sc : Screen) (s : State) (j : Computer) : (placeAtCentre sc s).domainOf j = s.domainOf j := rfl
@[simp] theorem placeAtCentre_isManagement (sc : Screen) (s : State) (j : Computer) : (placeAtCentre sc s).isManagement j = s.isManagement j := rfl
@[simp] theorem placeAtCentre_screen (sc : Screen) (s : State) (t : Screen) : (placeAtCentre sc s).screen t = s.screen t := rfl
@[simp] theorem placeAtCentre_input (sc : Screen) (s : State) (i₁ : Input) : (placeAtCentre sc s).input i₁ = s.input i₁ := rfl
@[simp] theorem placeAtCentre_window (sc : Screen) (s : State) (i₁ : Input) : (placeAtCentre sc s).window i₁ = s.window i₁ := rfl
@[simp] theorem placeAtCentre_placement (sc : Screen) (s : State) (t : Screen) : (placeAtCentre sc s).placement t = s.placement t := rfl
@[simp] theorem placeAtCentre_slotDevice (sc : Screen) (s : State) (i₁ : Slot) : (placeAtCentre sc s).slotDevice i₁ = s.slotDevice i₁ := rfl
@[simp] theorem placeAtCentre_entry (sc : Screen) (s : State) (i₁ : ScheduleIndex) : (placeAtCentre sc s).entry i₁ = s.entry i₁ := rfl
@[simp] theorem placeAtCentre_snapshot (sc : Screen) (s : State) (j : Computer) : (placeAtCentre sc s).snapshot j = s.snapshot j := rfl
@[simp] theorem placeAtCentre_buttonsOf (sc : Screen) (s : State) (j : Computer) : (placeAtCentre sc s).buttonsOf j = s.buttonsOf j := rfl

@[simp] theorem takeOffPlane_port (s : State) (j : Computer) : (takeOffPlane s).port j = s.port j := rfl
@[simp] theorem takeOffPlane_queueable (s : State) (j : Computer) : (takeOffPlane s).queueable j = s.queueable j := rfl
@[simp] theorem takeOffPlane_settingsOf (s : State) (j : Computer) : (takeOffPlane s).settingsOf j = s.settingsOf j := rfl
@[simp] theorem takeOffPlane_domainOf (s : State) (j : Computer) : (takeOffPlane s).domainOf j = s.domainOf j := rfl
@[simp] theorem takeOffPlane_isManagement (s : State) (j : Computer) : (takeOffPlane s).isManagement j = s.isManagement j := rfl
@[simp] theorem takeOffPlane_screen (s : State) (t : Screen) : (takeOffPlane s).screen t = s.screen t := rfl
@[simp] theorem takeOffPlane_input (s : State) (i₁ : Input) : (takeOffPlane s).input i₁ = s.input i₁ := rfl
@[simp] theorem takeOffPlane_window (s : State) (i₁ : Input) : (takeOffPlane s).window i₁ = s.window i₁ := rfl
@[simp] theorem takeOffPlane_placement (s : State) (t : Screen) : (takeOffPlane s).placement t = s.placement t := rfl
@[simp] theorem takeOffPlane_slotDevice (s : State) (i₁ : Slot) : (takeOffPlane s).slotDevice i₁ = s.slotDevice i₁ := rfl
@[simp] theorem takeOffPlane_entry (s : State) (i₁ : ScheduleIndex) : (takeOffPlane s).entry i₁ = s.entry i₁ := rfl
@[simp] theorem takeOffPlane_snapshot (s : State) (j : Computer) : (takeOffPlane s).snapshot j = s.snapshot j := rfl
@[simp] theorem takeOffPlane_buttonsOf (s : State) (j : Computer) : (takeOffPlane s).buttonsOf j = s.buttonsOf j := rfl

@[simp] theorem clearPush_port (s : State) (j : Computer) : (clearPush s).port j = s.port j := rfl
@[simp] theorem clearPush_queueable (s : State) (j : Computer) : (clearPush s).queueable j = s.queueable j := rfl
@[simp] theorem clearPush_settingsOf (s : State) (j : Computer) : (clearPush s).settingsOf j = s.settingsOf j := rfl
@[simp] theorem clearPush_domainOf (s : State) (j : Computer) : (clearPush s).domainOf j = s.domainOf j := rfl
@[simp] theorem clearPush_isManagement (s : State) (j : Computer) : (clearPush s).isManagement j = s.isManagement j := rfl
@[simp] theorem clearPush_screen (s : State) (t : Screen) : (clearPush s).screen t = s.screen t := rfl
@[simp] theorem clearPush_input (s : State) (i₁ : Input) : (clearPush s).input i₁ = s.input i₁ := rfl
@[simp] theorem clearPush_window (s : State) (i₁ : Input) : (clearPush s).window i₁ = s.window i₁ := rfl
@[simp] theorem clearPush_placement (s : State) (t : Screen) : (clearPush s).placement t = s.placement t := rfl
@[simp] theorem clearPush_slotDevice (s : State) (i₁ : Slot) : (clearPush s).slotDevice i₁ = s.slotDevice i₁ := rfl
@[simp] theorem clearPush_entry (s : State) (i₁ : ScheduleIndex) : (clearPush s).entry i₁ = s.entry i₁ := rfl
@[simp] theorem clearPush_snapshot (s : State) (j : Computer) : (clearPush s).snapshot j = s.snapshot j := rfl
@[simp] theorem clearPush_buttonsOf (s : State) (j : Computer) : (clearPush s).buttonsOf j = s.buttonsOf j := rfl

@[simp] theorem setPlace_port (p : Place) (push : Option Push) (s : State) (j : Computer) : (setPlace p push s).port j = s.port j := rfl
@[simp] theorem setPlace_queueable (p : Place) (push : Option Push) (s : State) (j : Computer) : (setPlace p push s).queueable j = s.queueable j := rfl
@[simp] theorem setPlace_settingsOf (p : Place) (push : Option Push) (s : State) (j : Computer) : (setPlace p push s).settingsOf j = s.settingsOf j := rfl
@[simp] theorem setPlace_domainOf (p : Place) (push : Option Push) (s : State) (j : Computer) : (setPlace p push s).domainOf j = s.domainOf j := rfl
@[simp] theorem setPlace_isManagement (p : Place) (push : Option Push) (s : State) (j : Computer) : (setPlace p push s).isManagement j = s.isManagement j := rfl
@[simp] theorem setPlace_screen (p : Place) (push : Option Push) (s : State) (t : Screen) : (setPlace p push s).screen t = s.screen t := rfl
@[simp] theorem setPlace_input (p : Place) (push : Option Push) (s : State) (i₁ : Input) : (setPlace p push s).input i₁ = s.input i₁ := rfl
@[simp] theorem setPlace_window (p : Place) (push : Option Push) (s : State) (i₁ : Input) : (setPlace p push s).window i₁ = s.window i₁ := rfl
@[simp] theorem setPlace_placement (p : Place) (push : Option Push) (s : State) (t : Screen) : (setPlace p push s).placement t = s.placement t := rfl
@[simp] theorem setPlace_slotDevice (p : Place) (push : Option Push) (s : State) (i₁ : Slot) : (setPlace p push s).slotDevice i₁ = s.slotDevice i₁ := rfl
@[simp] theorem setPlace_entry (p : Place) (push : Option Push) (s : State) (i₁ : ScheduleIndex) : (setPlace p push s).entry i₁ = s.entry i₁ := rfl
@[simp] theorem setPlace_snapshot (p : Place) (push : Option Push) (s : State) (j : Computer) : (setPlace p push s).snapshot j = s.snapshot j := rfl
@[simp] theorem setPlace_buttonsOf (p : Place) (push : Option Push) (s : State) (j : Computer) : (setPlace p push s).buttonsOf j = s.buttonsOf j := rfl

@[simp] theorem setResidues_port (rx ry : Int) (s : State) (j : Computer) : (setResidues rx ry s).port j = s.port j := rfl
@[simp] theorem setResidues_queueable (rx ry : Int) (s : State) (j : Computer) : (setResidues rx ry s).queueable j = s.queueable j := rfl
@[simp] theorem setResidues_settingsOf (rx ry : Int) (s : State) (j : Computer) : (setResidues rx ry s).settingsOf j = s.settingsOf j := rfl
@[simp] theorem setResidues_domainOf (rx ry : Int) (s : State) (j : Computer) : (setResidues rx ry s).domainOf j = s.domainOf j := rfl
@[simp] theorem setResidues_isManagement (rx ry : Int) (s : State) (j : Computer) : (setResidues rx ry s).isManagement j = s.isManagement j := rfl
@[simp] theorem setResidues_screen (rx ry : Int) (s : State) (t : Screen) : (setResidues rx ry s).screen t = s.screen t := rfl
@[simp] theorem setResidues_input (rx ry : Int) (s : State) (i₁ : Input) : (setResidues rx ry s).input i₁ = s.input i₁ := rfl
@[simp] theorem setResidues_window (rx ry : Int) (s : State) (i₁ : Input) : (setResidues rx ry s).window i₁ = s.window i₁ := rfl
@[simp] theorem setResidues_placement (rx ry : Int) (s : State) (t : Screen) : (setResidues rx ry s).placement t = s.placement t := rfl
@[simp] theorem setResidues_slotDevice (rx ry : Int) (s : State) (i₁ : Slot) : (setResidues rx ry s).slotDevice i₁ = s.slotDevice i₁ := rfl
@[simp] theorem setResidues_entry (rx ry : Int) (s : State) (i₁ : ScheduleIndex) : (setResidues rx ry s).entry i₁ = s.entry i₁ := rfl
@[simp] theorem setResidues_snapshot (rx ry : Int) (s : State) (j : Computer) : (setResidues rx ry s).snapshot j = s.snapshot j := rfl
@[simp] theorem setResidues_buttonsOf (rx ry : Int) (s : State) (j : Computer) : (setResidues rx ry s).buttonsOf j = s.buttonsOf j := rfl

@[simp] theorem setBroadcast_port (ks : ComputerSet) (s : State) (j : Computer) : (setBroadcast ks s).port j = s.port j := rfl
@[simp] theorem setBroadcast_queueable (ks : ComputerSet) (s : State) (j : Computer) : (setBroadcast ks s).queueable j = s.queueable j := rfl
@[simp] theorem setBroadcast_settingsOf (ks : ComputerSet) (s : State) (j : Computer) : (setBroadcast ks s).settingsOf j = s.settingsOf j := rfl
@[simp] theorem setBroadcast_domainOf (ks : ComputerSet) (s : State) (j : Computer) : (setBroadcast ks s).domainOf j = s.domainOf j := rfl
@[simp] theorem setBroadcast_isManagement (ks : ComputerSet) (s : State) (j : Computer) : (setBroadcast ks s).isManagement j = s.isManagement j := rfl
@[simp] theorem setBroadcast_screen (ks : ComputerSet) (s : State) (t : Screen) : (setBroadcast ks s).screen t = s.screen t := rfl
@[simp] theorem setBroadcast_input (ks : ComputerSet) (s : State) (i₁ : Input) : (setBroadcast ks s).input i₁ = s.input i₁ := rfl
@[simp] theorem setBroadcast_window (ks : ComputerSet) (s : State) (i₁ : Input) : (setBroadcast ks s).window i₁ = s.window i₁ := rfl
@[simp] theorem setBroadcast_placement (ks : ComputerSet) (s : State) (t : Screen) : (setBroadcast ks s).placement t = s.placement t := rfl
@[simp] theorem setBroadcast_slotDevice (ks : ComputerSet) (s : State) (i₁ : Slot) : (setBroadcast ks s).slotDevice i₁ = s.slotDevice i₁ := rfl
@[simp] theorem setBroadcast_entry (ks : ComputerSet) (s : State) (i₁ : ScheduleIndex) : (setBroadcast ks s).entry i₁ = s.entry i₁ := rfl
@[simp] theorem setBroadcast_snapshot (ks : ComputerSet) (s : State) (j : Computer) : (setBroadcast ks s).snapshot j = s.snapshot j := rfl
@[simp] theorem setBroadcast_buttonsOf (ks : ComputerSet) (s : State) (j : Computer) : (setBroadcast ks s).buttonsOf j = s.buttonsOf j := rfl

@[simp] theorem adjustBroadcast_port (previous : Option Computer) (k : Computer) (s : State) (j : Computer) : (adjustBroadcast previous k s).port j = s.port j := rfl
@[simp] theorem adjustBroadcast_queueable (previous : Option Computer) (k : Computer) (s : State) (j : Computer) : (adjustBroadcast previous k s).queueable j = s.queueable j := rfl
@[simp] theorem adjustBroadcast_settingsOf (previous : Option Computer) (k : Computer) (s : State) (j : Computer) : (adjustBroadcast previous k s).settingsOf j = s.settingsOf j := rfl
@[simp] theorem adjustBroadcast_domainOf (previous : Option Computer) (k : Computer) (s : State) (j : Computer) : (adjustBroadcast previous k s).domainOf j = s.domainOf j := rfl
@[simp] theorem adjustBroadcast_isManagement (previous : Option Computer) (k : Computer) (s : State) (j : Computer) : (adjustBroadcast previous k s).isManagement j = s.isManagement j := rfl
@[simp] theorem adjustBroadcast_screen (previous : Option Computer) (k : Computer) (s : State) (t : Screen) : (adjustBroadcast previous k s).screen t = s.screen t := rfl
@[simp] theorem adjustBroadcast_input (previous : Option Computer) (k : Computer) (s : State) (i₁ : Input) : (adjustBroadcast previous k s).input i₁ = s.input i₁ := rfl
@[simp] theorem adjustBroadcast_window (previous : Option Computer) (k : Computer) (s : State) (i₁ : Input) : (adjustBroadcast previous k s).window i₁ = s.window i₁ := rfl
@[simp] theorem adjustBroadcast_placement (previous : Option Computer) (k : Computer) (s : State) (t : Screen) : (adjustBroadcast previous k s).placement t = s.placement t := rfl
@[simp] theorem adjustBroadcast_slotDevice (previous : Option Computer) (k : Computer) (s : State) (i₁ : Slot) : (adjustBroadcast previous k s).slotDevice i₁ = s.slotDevice i₁ := rfl
@[simp] theorem adjustBroadcast_entry (previous : Option Computer) (k : Computer) (s : State) (i₁ : ScheduleIndex) : (adjustBroadcast previous k s).entry i₁ = s.entry i₁ := rfl
@[simp] theorem adjustBroadcast_snapshot (previous : Option Computer) (k : Computer) (s : State) (j : Computer) : (adjustBroadcast previous k s).snapshot j = s.snapshot j := rfl
@[simp] theorem adjustBroadcast_buttonsOf (previous : Option Computer) (k : Computer) (s : State) (j : Computer) : (adjustBroadcast previous k s).buttonsOf j = s.buttonsOf j := rfl

@[simp] theorem setModeWord_port (w : ModeWord) (s : State) (j : Computer) : (setModeWord w s).port j = s.port j := rfl
@[simp] theorem setModeWord_queueable (w : ModeWord) (s : State) (j : Computer) : (setModeWord w s).queueable j = s.queueable j := rfl
@[simp] theorem setModeWord_settingsOf (w : ModeWord) (s : State) (j : Computer) : (setModeWord w s).settingsOf j = s.settingsOf j := rfl
@[simp] theorem setModeWord_domainOf (w : ModeWord) (s : State) (j : Computer) : (setModeWord w s).domainOf j = s.domainOf j := rfl
@[simp] theorem setModeWord_isManagement (w : ModeWord) (s : State) (j : Computer) : (setModeWord w s).isManagement j = s.isManagement j := rfl
@[simp] theorem setModeWord_screen (w : ModeWord) (s : State) (t : Screen) : (setModeWord w s).screen t = s.screen t := rfl
@[simp] theorem setModeWord_input (w : ModeWord) (s : State) (i₁ : Input) : (setModeWord w s).input i₁ = s.input i₁ := rfl
@[simp] theorem setModeWord_window (w : ModeWord) (s : State) (i₁ : Input) : (setModeWord w s).window i₁ = s.window i₁ := rfl
@[simp] theorem setModeWord_placement (w : ModeWord) (s : State) (t : Screen) : (setModeWord w s).placement t = s.placement t := rfl
@[simp] theorem setModeWord_slotDevice (w : ModeWord) (s : State) (i₁ : Slot) : (setModeWord w s).slotDevice i₁ = s.slotDevice i₁ := rfl
@[simp] theorem setModeWord_entry (w : ModeWord) (s : State) (i₁ : ScheduleIndex) : (setModeWord w s).entry i₁ = s.entry i₁ := rfl
@[simp] theorem setModeWord_snapshot (w : ModeWord) (s : State) (j : Computer) : (setModeWord w s).snapshot j = s.snapshot j := rfl
@[simp] theorem setModeWord_buttonsOf (w : ModeWord) (s : State) (j : Computer) : (setModeWord w s).buttonsOf j = s.buttonsOf j := rfl

@[simp] theorem setRecognizer_port (r : Recognizer) (s : State) (j : Computer) : (setRecognizer r s).port j = s.port j := rfl
@[simp] theorem setRecognizer_queueable (r : Recognizer) (s : State) (j : Computer) : (setRecognizer r s).queueable j = s.queueable j := rfl
@[simp] theorem setRecognizer_settingsOf (r : Recognizer) (s : State) (j : Computer) : (setRecognizer r s).settingsOf j = s.settingsOf j := rfl
@[simp] theorem setRecognizer_domainOf (r : Recognizer) (s : State) (j : Computer) : (setRecognizer r s).domainOf j = s.domainOf j := rfl
@[simp] theorem setRecognizer_isManagement (r : Recognizer) (s : State) (j : Computer) : (setRecognizer r s).isManagement j = s.isManagement j := rfl
@[simp] theorem setRecognizer_screen (r : Recognizer) (s : State) (t : Screen) : (setRecognizer r s).screen t = s.screen t := rfl
@[simp] theorem setRecognizer_input (r : Recognizer) (s : State) (i₁ : Input) : (setRecognizer r s).input i₁ = s.input i₁ := rfl
@[simp] theorem setRecognizer_window (r : Recognizer) (s : State) (i₁ : Input) : (setRecognizer r s).window i₁ = s.window i₁ := rfl
@[simp] theorem setRecognizer_placement (r : Recognizer) (s : State) (t : Screen) : (setRecognizer r s).placement t = s.placement t := rfl
@[simp] theorem setRecognizer_slotDevice (r : Recognizer) (s : State) (i₁ : Slot) : (setRecognizer r s).slotDevice i₁ = s.slotDevice i₁ := rfl
@[simp] theorem setRecognizer_entry (r : Recognizer) (s : State) (i₁ : ScheduleIndex) : (setRecognizer r s).entry i₁ = s.entry i₁ := rfl
@[simp] theorem setRecognizer_snapshot (r : Recognizer) (s : State) (j : Computer) : (setRecognizer r s).snapshot j = s.snapshot j := rfl
@[simp] theorem setRecognizer_buttonsOf (r : Recognizer) (s : State) (j : Computer) : (setRecognizer r s).buttonsOf j = s.buttonsOf j := rfl

@[simp] theorem forgetOwner_port (k : Computer) (s : State) (j : Computer) : (forgetOwner k s).port j = s.port j := rfl
@[simp] theorem forgetOwner_queueable (k : Computer) (s : State) (j : Computer) : (forgetOwner k s).queueable j = s.queueable j := rfl
@[simp] theorem forgetOwner_settingsOf (k : Computer) (s : State) (j : Computer) : (forgetOwner k s).settingsOf j = s.settingsOf j := rfl
@[simp] theorem forgetOwner_domainOf (k : Computer) (s : State) (j : Computer) : (forgetOwner k s).domainOf j = s.domainOf j := rfl
@[simp] theorem forgetOwner_isManagement (k : Computer) (s : State) (j : Computer) : (forgetOwner k s).isManagement j = s.isManagement j := rfl
@[simp] theorem forgetOwner_screen (k : Computer) (s : State) (t : Screen) : (forgetOwner k s).screen t = s.screen t := rfl
@[simp] theorem forgetOwner_input (k : Computer) (s : State) (i₁ : Input) : (forgetOwner k s).input i₁ = s.input i₁ := rfl
@[simp] theorem forgetOwner_window (k : Computer) (s : State) (i₁ : Input) : (forgetOwner k s).window i₁ = s.window i₁ := rfl
@[simp] theorem forgetOwner_placement (k : Computer) (s : State) (t : Screen) : (forgetOwner k s).placement t = s.placement t := rfl
@[simp] theorem forgetOwner_slotDevice (k : Computer) (s : State) (i₁ : Slot) : (forgetOwner k s).slotDevice i₁ = s.slotDevice i₁ := rfl
@[simp] theorem forgetOwner_entry (k : Computer) (s : State) (i₁ : ScheduleIndex) : (forgetOwner k s).entry i₁ = s.entry i₁ := rfl

@[simp] theorem advanceClock_port (s : State) (j : Computer) : (advanceClock s).port j = s.port j := rfl
@[simp] theorem advanceClock_queueable (s : State) (j : Computer) : (advanceClock s).queueable j = s.queueable j := rfl
@[simp] theorem advanceClock_settingsOf (s : State) (j : Computer) : (advanceClock s).settingsOf j = s.settingsOf j := rfl
@[simp] theorem advanceClock_domainOf (s : State) (j : Computer) : (advanceClock s).domainOf j = s.domainOf j := rfl
@[simp] theorem advanceClock_isManagement (s : State) (j : Computer) : (advanceClock s).isManagement j = s.isManagement j := rfl
@[simp] theorem advanceClock_screen (s : State) (t : Screen) : (advanceClock s).screen t = s.screen t := rfl
@[simp] theorem advanceClock_input (s : State) (i₁ : Input) : (advanceClock s).input i₁ = s.input i₁ := rfl
@[simp] theorem advanceClock_window (s : State) (i₁ : Input) : (advanceClock s).window i₁ = s.window i₁ := rfl
@[simp] theorem advanceClock_placement (s : State) (t : Screen) : (advanceClock s).placement t = s.placement t := rfl
@[simp] theorem advanceClock_slotDevice (s : State) (i₁ : Slot) : (advanceClock s).slotDevice i₁ = s.slotDevice i₁ := rfl
@[simp] theorem advanceClock_entry (s : State) (i₁ : ScheduleIndex) : (advanceClock s).entry i₁ = s.entry i₁ := rfl
@[simp] theorem advanceClock_snapshot (s : State) (j : Computer) : (advanceClock s).snapshot j = s.snapshot j := rfl
@[simp] theorem advanceClock_buttonsOf (s : State) (j : Computer) : (advanceClock s).buttonsOf j = s.buttonsOf j := rfl

/-! Reading what an update wrote. -/

/-- A vector read where it was set. -/
@[simp] theorem get_set_self {α : Type} {n : Nat} (v : Vector α n) (i : Fin n) (x : α) :
    (v.set i.val x i.isLt).get i = x := by
  simp [Vector.get_eq_getElem]

/-- A vector read elsewhere than where it was set. -/
theorem get_set_of_ne {α : Type} {n : Nat} (v : Vector α n) (i j : Fin n) (x : α) (h : j ≠ i) :
    (v.set i.val x i.isLt).get j = v.get j := by
  have : i.val ≠ j.val := fun e => h (Fin.ext e.symm)
  simp [Vector.get_eq_getElem, this]

/-- A vector read anywhere after it was set. -/
theorem get_set {α : Type} {n : Nat} (v : Vector α n) (i j : Fin n) (x : α) :
    (v.set i.val x i.isLt).get j = if j = i then x else v.get j := by
  split
  · next h => subst h; simp
  · next h => exact get_set_of_ne v i j x h

/-- Two vectors with the same entries are one. -/
theorem vector_ext {α : Type} {n : Nat} {v w : Vector α n} (h : ∀ i : Fin n, v.get i = w.get i) : v = w := by
  refine Vector.ext (fun i hi => ?_)
  simpa [Vector.get_eq_getElem] using h ⟨i, hi⟩

@[simp] theorem get_replicate {α : Type} {n : Nat} (x : α) (i : Fin n) : (Vector.replicate n x).get i = x := by
  simp [Vector.get_eq_getElem]

@[simp] theorem get_map {α β : Type} {n : Nat} (f : α → β) (v : Vector α n) (i : Fin n) :
    (v.map f).get i = f (v.get i) := by
  simp [Vector.get_eq_getElem]

@[simp] theorem get_ofFn {α : Type} {n : Nat} (f : Fin n → α) (i : Fin n) : (Vector.ofFn f).get i = f i := by
  simp [Vector.get_eq_getElem]

/-- A vector set to what it holds is unchanged. -/
@[simp] theorem set_get_self {α : Type} {n : Nat} (v : Vector α n) (i : Fin n) : v.set i.val (v.get i) i.isLt = v :=
  vector_ext (fun j => by rw [get_set]; split <;> simp_all)

@[simp] theorem State.port_setPort_self (s : State) (k : Computer) (p : Port) : (s.setPort k p).port k = p :=
  get_set_self _ _ _

theorem State.port_setPort (s : State) (k : Computer) (p : Port) (j : Computer) :
    (s.setPort k p).port j = if j = k then p else s.port j := get_set _ _ _ _

theorem State.port_setPort_of_ne (s : State) (k : Computer) (p : Port) (j : Computer) (h : j ≠ k) :
    (s.setPort k p).port j = s.port j := get_set_of_ne _ _ _ _ h

@[simp] theorem State.setPort_port_self (s : State) (k : Computer) : s.setPort k (s.port k) = s := by
  simp [State.setPort, State.port]

@[simp] theorem set_set {α : Type} {n : Nat} (v : Vector α n) (i : Fin n) (x y : α) :
    (v.set i.val x i.isLt).set i.val y i.isLt = v.set i.val y i.isLt :=
  vector_ext (fun j => by simp only [get_set]; split <;> rfl)

@[simp] theorem State.setPort_setPort (s : State) (k : Computer) (p q : Port) :
    (s.setPort k p).setPort k q = s.setPort k q := by
  simp [State.setPort]

/-- Changing a port that has been set sets it. -/
theorem onPort_setPort (s : State) (k : Computer) (p : Port) (f : Port → Port) :
    onPort k f (s.setPort k p) = s.setPort k (f p) := by
  simp [onPort]

/-- Two changes of one port are one. -/
theorem onPort_onPort (k : Computer) (f g : Port → Port) (s : State) :
    onPort k g (onPort k f s) = onPort k (fun p => g (f p)) s := by
  simp [onPort]

@[simp] theorem State.setScreen_setScreen (s : State) (sc : Screen) (r q : ScreenRecord) :
    (s.setScreen sc r).setScreen sc q = s.setScreen sc q := by
  simp [State.setScreen]

@[simp] theorem State.setScreen_screen_self (s : State) (sc : Screen) : s.setScreen sc (s.screen sc) = s := by
  simp [State.setScreen, State.screen]

theorem isDue_iff (clock time : Millis) : isDue clock time = true ↔ 0 ≤ (clock - time).toInt := decide_eq_true_iff

@[simp] theorem port_onPort_self (k : Computer) (f : Port → Port) (s : State) :
    (onPort k f s).port k = f (s.port k) := get_set_self _ _ _

theorem port_onPort (k : Computer) (f : Port → Port) (s : State) (j : Computer) :
    (onPort k f s).port j = if j = k then f (s.port k) else s.port j := get_set _ _ _ _

theorem port_onPort_of_ne (k : Computer) (f : Port → Port) (s : State) (j : Computer) (h : j ≠ k) :
    (onPort k f s).port j = s.port j := get_set_of_ne _ _ _ _ h

@[simp] theorem State.screen_setScreen_self (s : State) (sc : Screen) (r : ScreenRecord) :
    (s.setScreen sc r).screen sc = r := get_set_self _ _ _

theorem State.screen_setScreen (s : State) (sc : Screen) (r : ScreenRecord) (t : Screen) :
    (s.setScreen sc r).screen t = if t = sc then r else s.screen t := get_set _ _ _ _

theorem State.screen_setScreen_of_ne (s : State) (sc : Screen) (r : ScreenRecord) (t : Screen) (h : t ≠ sc) :
    (s.setScreen sc r).screen t = s.screen t := get_set_of_ne _ _ _ _ h

@[simp] theorem State.share_setScreen (s : State) (sc : Screen) (r : ScreenRecord) :
    (s.setScreen sc r).video.share = s.video.share := rfl

@[simp] theorem State.inputs_setScreen (s : State) (sc : Screen) (r : ScreenRecord) :
    (s.setScreen sc r).video.inputs = s.video.inputs := rfl

@[simp] theorem State.input_setInput_self (s : State) (i : Input) (r : InputRecord) : (s.setInput i r).input i = r :=
  get_set_self _ _ _

theorem State.input_setInput (s : State) (i : Input) (r : InputRecord) (j : Input) :
    (s.setInput i r).input j = if j = i then r else s.input j := get_set _ _ _ _

@[simp] theorem State.share_setShare (s : State) (r : ShareRecord) : (s.setShare r).video.share = r := rfl

@[simp] theorem State.entry_setEntry_self (s : State) (i : ScheduleIndex) (e : Option ScheduleEntry) :
    (s.setEntry i e).entry i = e := get_set_self _ _ _

theorem State.entry_setEntry (s : State) (i : ScheduleIndex) (e : Option ScheduleEntry) (j : ScheduleIndex) :
    (s.setEntry i e).entry j = if j = i then e else s.entry j := get_set _ _ _ _

@[simp] theorem State.slotDevice_setSlot_self (s : State) (i : Slot) (d : Option Device) :
    (s.setSlot i d).slotDevice i = d := get_set_self _ _ _

theorem State.slotDevice_setSlot (s : State) (i : Slot) (d : Option Device) (j : Slot) :
    (s.setSlot i d).slotDevice j = if j = i then d else s.slotDevice j := get_set _ _ _ _

@[simp] theorem State.setHeld_held (s : State) (es : List HeldKey) : (s.setHeld es).keys.held = es := rfl
@[simp] theorem State.setHeld_buttons (s : State) (es : List HeldKey) : (s.setHeld es).keys.buttons = s.keys.buttons :=
  rfl
@[simp] theorem State.setHeld_snapshots (s : State) (es : List HeldKey) :
    (s.setHeld es).keys.snapshots = s.keys.snapshots := rfl
@[simp] theorem State.setHeld_overflow (s : State) (es : List HeldKey) :
    (s.setHeld es).keys.overflow = s.keys.overflow := rfl
@[simp] theorem State.setButtons_buttons (s : State) (bs : Vector (Option Computer) 5) :
    (s.setButtons bs).keys.buttons = bs := rfl
@[simp] theorem State.setButtons_held (s : State) (bs : Vector (Option Computer) 5) :
    (s.setButtons bs).keys.held = s.keys.held := rfl
@[simp] theorem State.setButtons_snapshots (s : State) (bs : Vector (Option Computer) 5) :
    (s.setButtons bs).keys.snapshots = s.keys.snapshots := rfl
@[simp] theorem State.setButtons_overflow (s : State) (bs : Vector (Option Computer) 5) :
    (s.setButtons bs).keys.overflow = s.keys.overflow := rfl
@[simp] theorem State.setSlot_errors (s : State) (i : Slot) (d : Option Device) :
    (s.setSlot i d).console.errors = s.console.errors := rfl
@[simp] theorem State.setSlot_ledSent (s : State) (i : Slot) (d : Option Device) :
    (s.setSlot i d).console.ledSent = s.console.ledSent := rfl
@[simp] theorem setRecognizer_recognizer (r : Recognizer) (s : State) : (setRecognizer r s).recognizer = r := rfl

/-- Two states with the same port records have the same ports. -/
theorem ports_ext {s t : State} (h : ∀ k, s.port k = t.port k) : s.ports = t.ports := vector_ext h

/-- Two states with the same screen records have the same screens. -/
theorem screens_ext {s t : State} (h : ∀ sc, s.screen sc = t.screen sc) : s.video.screens = t.video.screens :=
  vector_ext h


end Sys2Proof.Machine
end

