-- ==== Sys2Proof/Laws/Frames.lean ====
section
/-! SUPPORT. What each shared operation leaves alone: one lemma for each operation and each field of the state that it
never changes, tagged for simp, so that no proof unfolds an operation to see past it. -/

namespace Sys2Proof.Machine

/-- A reading that every step of a fold keeps is kept by the fold. -/
theorem foldl_keeps {α β : Type} (π : State → β) (f : State → α → State) (h : ∀ t x, π (f t x) = π t) (l : List α)
    (s : State) : π (l.foldl f s) = π s := by
  induction l generalizing s with
  | nil => rfl
  | cons x xs ih => rw [List.foldl_cons, ih, h]

/-- Two states that agree in every field are one. -/
theorem State.eq_of_fields {s t : State} (h0 : s.pending = t.pending) (h1 : s.sent = t.sent) (h2 : s.freeUses = t.freeUses) (h3 : s.clock = t.clock) (h4 : s.settings = t.settings) (h5 : s.tables = t.tables) (h6 : s.console = t.console) (h7 : s.keys = t.keys) (h8 : s.recognizer = t.recognizer) (h9 : s.focusUnit = t.focusUnit) (h10 : s.pointer = t.pointer) (h11 : s.ports = t.ports) (h12 : s.video = t.video) (h13 : s.schedule = t.schedule) (h14 : s.engine = t.engine) (h15 : s.journal = t.journal) (h16 : s.image = t.image) (h17 : s.foreign = t.foreign) (h18 : s.mismatches = t.mismatches) : s = t := by
  cases s; cases t; simp_all

/-- All that offer can change. -/
theorem offer_frame (k : Computer) (r : Report) (s : State) :
    offer k r s = { s with ports := (offer k r s).ports } := by
  apply State.eq_of_fields
  all_goals first
    | with_reducible rfl
    | (unfold offer; simp)
@[simp] theorem offer_pending (k : Computer) (r : Report) (s : State) : (offer k r s).pending = s.pending :=
  (congrArg State.pending (offer_frame k r s) :)
@[simp] theorem offer_sent (k : Computer) (r : Report) (s : State) : (offer k r s).sent = s.sent :=
  (congrArg State.sent (offer_frame k r s) :)
@[simp] theorem offer_freeUses (k : Computer) (r : Report) (s : State) : (offer k r s).freeUses = s.freeUses :=
  (congrArg State.freeUses (offer_frame k r s) :)
@[simp] theorem offer_clock (k : Computer) (r : Report) (s : State) : (offer k r s).clock = s.clock :=
  (congrArg State.clock (offer_frame k r s) :)
@[simp] theorem offer_settings (k : Computer) (r : Report) (s : State) : (offer k r s).settings = s.settings :=
  (congrArg State.settings (offer_frame k r s) :)
@[simp] theorem offer_tables (k : Computer) (r : Report) (s : State) : (offer k r s).tables = s.tables :=
  (congrArg State.tables (offer_frame k r s) :)
@[simp] theorem offer_console (k : Computer) (r : Report) (s : State) : (offer k r s).console = s.console :=
  (congrArg State.console (offer_frame k r s) :)
@[simp] theorem offer_keys (k : Computer) (r : Report) (s : State) : (offer k r s).keys = s.keys :=
  (congrArg State.keys (offer_frame k r s) :)
@[simp] theorem offer_recognizer (k : Computer) (r : Report) (s : State) : (offer k r s).recognizer = s.recognizer :=
  (congrArg State.recognizer (offer_frame k r s) :)
@[simp] theorem offer_focusUnit (k : Computer) (r : Report) (s : State) : (offer k r s).focusUnit = s.focusUnit :=
  (congrArg State.focusUnit (offer_frame k r s) :)
@[simp] theorem offer_pointer (k : Computer) (r : Report) (s : State) : (offer k r s).pointer = s.pointer :=
  (congrArg State.pointer (offer_frame k r s) :)
@[simp] theorem offer_video (k : Computer) (r : Report) (s : State) : (offer k r s).video = s.video :=
  (congrArg State.video (offer_frame k r s) :)
@[simp] theorem offer_schedule (k : Computer) (r : Report) (s : State) : (offer k r s).schedule = s.schedule :=
  (congrArg State.schedule (offer_frame k r s) :)
@[simp] theorem offer_engine (k : Computer) (r : Report) (s : State) : (offer k r s).engine = s.engine :=
  (congrArg State.engine (offer_frame k r s) :)
@[simp] theorem offer_journal (k : Computer) (r : Report) (s : State) : (offer k r s).journal = s.journal :=
  (congrArg State.journal (offer_frame k r s) :)
@[simp] theorem offer_image (k : Computer) (r : Report) (s : State) : (offer k r s).image = s.image :=
  (congrArg State.image (offer_frame k r s) :)
@[simp] theorem offer_foreign (k : Computer) (r : Report) (s : State) : (offer k r s).foreign = s.foreign :=
  (congrArg State.foreign (offer_frame k r s) :)
@[simp] theorem offer_mismatches (k : Computer) (r : Report) (s : State) : (offer k r s).mismatches = s.mismatches :=
  (congrArg State.mismatches (offer_frame k r s) :)

/-- All that refreshSnapshot can change. -/
theorem refreshSnapshot_frame (k : Computer) (s : State) :
    refreshSnapshot k s = { s with keys := (refreshSnapshot k s).keys, ports := (refreshSnapshot k s).ports } := by
  apply State.eq_of_fields
  all_goals first
    | with_reducible rfl
    | (unfold refreshSnapshot; split <;> simp)
@[simp] theorem refreshSnapshot_pending (k : Computer) (s : State) : (refreshSnapshot k s).pending = s.pending :=
  (congrArg State.pending (refreshSnapshot_frame k s) :)
@[simp] theorem refreshSnapshot_sent (k : Computer) (s : State) : (refreshSnapshot k s).sent = s.sent :=
  (congrArg State.sent (refreshSnapshot_frame k s) :)
@[simp] theorem refreshSnapshot_freeUses (k : Computer) (s : State) : (refreshSnapshot k s).freeUses = s.freeUses :=
  (congrArg State.freeUses (refreshSnapshot_frame k s) :)
@[simp] theorem refreshSnapshot_clock (k : Computer) (s : State) : (refreshSnapshot k s).clock = s.clock :=
  (congrArg State.clock (refreshSnapshot_frame k s) :)
@[simp] theorem refreshSnapshot_settings (k : Computer) (s : State) : (refreshSnapshot k s).settings = s.settings :=
  (congrArg State.settings (refreshSnapshot_frame k s) :)
@[simp] theorem refreshSnapshot_tables (k : Computer) (s : State) : (refreshSnapshot k s).tables = s.tables :=
  (congrArg State.tables (refreshSnapshot_frame k s) :)
@[simp] theorem refreshSnapshot_console (k : Computer) (s : State) : (refreshSnapshot k s).console = s.console :=
  (congrArg State.console (refreshSnapshot_frame k s) :)
@[simp] theorem refreshSnapshot_recognizer (k : Computer) (s : State) : (refreshSnapshot k s).recognizer = s.recognizer :=
  (congrArg State.recognizer (refreshSnapshot_frame k s) :)
@[simp] theorem refreshSnapshot_focusUnit (k : Computer) (s : State) : (refreshSnapshot k s).focusUnit = s.focusUnit :=
  (congrArg State.focusUnit (refreshSnapshot_frame k s) :)
@[simp] theorem refreshSnapshot_pointer (k : Computer) (s : State) : (refreshSnapshot k s).pointer = s.pointer :=
  (congrArg State.pointer (refreshSnapshot_frame k s) :)
@[simp] theorem refreshSnapshot_video (k : Computer) (s : State) : (refreshSnapshot k s).video = s.video :=
  (congrArg State.video (refreshSnapshot_frame k s) :)
@[simp] theorem refreshSnapshot_schedule (k : Computer) (s : State) : (refreshSnapshot k s).schedule = s.schedule :=
  (congrArg State.schedule (refreshSnapshot_frame k s) :)
@[simp] theorem refreshSnapshot_engine (k : Computer) (s : State) : (refreshSnapshot k s).engine = s.engine :=
  (congrArg State.engine (refreshSnapshot_frame k s) :)
@[simp] theorem refreshSnapshot_journal (k : Computer) (s : State) : (refreshSnapshot k s).journal = s.journal :=
  (congrArg State.journal (refreshSnapshot_frame k s) :)
@[simp] theorem refreshSnapshot_image (k : Computer) (s : State) : (refreshSnapshot k s).image = s.image :=
  (congrArg State.image (refreshSnapshot_frame k s) :)
@[simp] theorem refreshSnapshot_foreign (k : Computer) (s : State) : (refreshSnapshot k s).foreign = s.foreign :=
  (congrArg State.foreign (refreshSnapshot_frame k s) :)
@[simp] theorem refreshSnapshot_mismatches (k : Computer) (s : State) : (refreshSnapshot k s).mismatches = s.mismatches :=
  (congrArg State.mismatches (refreshSnapshot_frame k s) :)

/-- All that refreshSnapshots can change. -/
theorem refreshSnapshots_frame (ks : ComputerSet) (s : State) :
    refreshSnapshots ks s = { s with keys := (refreshSnapshots ks s).keys, ports := (refreshSnapshots ks s).ports } := by
  apply State.eq_of_fields
  all_goals first
    | with_reducible rfl
    | (exact foldl_keeps State.pending _ (fun t x => by split <;> simp) _ _)
    | (exact foldl_keeps State.sent _ (fun t x => by split <;> simp) _ _)
    | (exact foldl_keeps State.freeUses _ (fun t x => by split <;> simp) _ _)
    | (exact foldl_keeps State.clock _ (fun t x => by split <;> simp) _ _)
    | (exact foldl_keeps State.settings _ (fun t x => by split <;> simp) _ _)
    | (exact foldl_keeps State.tables _ (fun t x => by split <;> simp) _ _)
    | (exact foldl_keeps State.console _ (fun t x => by split <;> simp) _ _)
    | (exact foldl_keeps State.recognizer _ (fun t x => by split <;> simp) _ _)
    | (exact foldl_keeps State.focusUnit _ (fun t x => by split <;> simp) _ _)
    | (exact foldl_keeps State.pointer _ (fun t x => by split <;> simp) _ _)
    | (exact foldl_keeps State.video _ (fun t x => by split <;> simp) _ _)
    | (exact foldl_keeps State.schedule _ (fun t x => by split <;> simp) _ _)
    | (exact foldl_keeps State.engine _ (fun t x => by split <;> simp) _ _)
    | (exact foldl_keeps State.journal _ (fun t x => by split <;> simp) _ _)
    | (exact foldl_keeps State.image _ (fun t x => by split <;> simp) _ _)
    | (exact foldl_keeps State.foreign _ (fun t x => by split <;> simp) _ _)
    | (exact foldl_keeps State.mismatches _ (fun t x => by split <;> simp) _ _)
@[simp] theorem refreshSnapshots_pending (ks : ComputerSet) (s : State) : (refreshSnapshots ks s).pending = s.pending :=
  (congrArg State.pending (refreshSnapshots_frame ks s) :)
@[simp] theorem refreshSnapshots_sent (ks : ComputerSet) (s : State) : (refreshSnapshots ks s).sent = s.sent :=
  (congrArg State.sent (refreshSnapshots_frame ks s) :)
@[simp] theorem refreshSnapshots_freeUses (ks : ComputerSet) (s : State) : (refreshSnapshots ks s).freeUses = s.freeUses :=
  (congrArg State.freeUses (refreshSnapshots_frame ks s) :)
@[simp] theorem refreshSnapshots_clock (ks : ComputerSet) (s : State) : (refreshSnapshots ks s).clock = s.clock :=
  (congrArg State.clock (refreshSnapshots_frame ks s) :)
@[simp] theorem refreshSnapshots_settings (ks : ComputerSet) (s : State) : (refreshSnapshots ks s).settings = s.settings :=
  (congrArg State.settings (refreshSnapshots_frame ks s) :)
@[simp] theorem refreshSnapshots_tables (ks : ComputerSet) (s : State) : (refreshSnapshots ks s).tables = s.tables :=
  (congrArg State.tables (refreshSnapshots_frame ks s) :)
@[simp] theorem refreshSnapshots_console (ks : ComputerSet) (s : State) : (refreshSnapshots ks s).console = s.console :=
  (congrArg State.console (refreshSnapshots_frame ks s) :)
@[simp] theorem refreshSnapshots_recognizer (ks : ComputerSet) (s : State) : (refreshSnapshots ks s).recognizer = s.recognizer :=
  (congrArg State.recognizer (refreshSnapshots_frame ks s) :)
@[simp] theorem refreshSnapshots_focusUnit (ks : ComputerSet) (s : State) : (refreshSnapshots ks s).focusUnit = s.focusUnit :=
  (congrArg State.focusUnit (refreshSnapshots_frame ks s) :)
@[simp] theorem refreshSnapshots_pointer (ks : ComputerSet) (s : State) : (refreshSnapshots ks s).pointer = s.pointer :=
  (congrArg State.pointer (refreshSnapshots_frame ks s) :)
@[simp] theorem refreshSnapshots_video (ks : ComputerSet) (s : State) : (refreshSnapshots ks s).video = s.video :=
  (congrArg State.video (refreshSnapshots_frame ks s) :)
@[simp] theorem refreshSnapshots_schedule (ks : ComputerSet) (s : State) : (refreshSnapshots ks s).schedule = s.schedule :=
  (congrArg State.schedule (refreshSnapshots_frame ks s) :)
@[simp] theorem refreshSnapshots_engine (ks : ComputerSet) (s : State) : (refreshSnapshots ks s).engine = s.engine :=
  (congrArg State.engine (refreshSnapshots_frame ks s) :)
@[simp] theorem refreshSnapshots_journal (ks : ComputerSet) (s : State) : (refreshSnapshots ks s).journal = s.journal :=
  (congrArg State.journal (refreshSnapshots_frame ks s) :)
@[simp] theorem refreshSnapshots_image (ks : ComputerSet) (s : State) : (refreshSnapshots ks s).image = s.image :=
  (congrArg State.image (refreshSnapshots_frame ks s) :)
@[simp] theorem refreshSnapshots_foreign (ks : ComputerSet) (s : State) : (refreshSnapshots ks s).foreign = s.foreign :=
  (congrArg State.foreign (refreshSnapshots_frame ks s) :)
@[simp] theorem refreshSnapshots_mismatches (ks : ComputerSet) (s : State) : (refreshSnapshots ks s).mismatches = s.mismatches :=
  (congrArg State.mismatches (refreshSnapshots_frame ks s) :)

/-- All that releaseEntries can change. -/
theorem releaseEntries_frame (p : HeldKey → Bool) (s : State) :
    releaseEntries p s = { s with keys := (releaseEntries p s).keys, ports := (releaseEntries p s).ports } := by
  apply State.eq_of_fields
  all_goals first
    | with_reducible rfl
    | (unfold releaseEntries; simp)
@[simp] theorem releaseEntries_pending (p : HeldKey → Bool) (s : State) : (releaseEntries p s).pending = s.pending :=
  (congrArg State.pending (releaseEntries_frame p s) :)
@[simp] theorem releaseEntries_sent (p : HeldKey → Bool) (s : State) : (releaseEntries p s).sent = s.sent :=
  (congrArg State.sent (releaseEntries_frame p s) :)
@[simp] theorem releaseEntries_freeUses (p : HeldKey → Bool) (s : State) : (releaseEntries p s).freeUses = s.freeUses :=
  (congrArg State.freeUses (releaseEntries_frame p s) :)
@[simp] theorem releaseEntries_clock (p : HeldKey → Bool) (s : State) : (releaseEntries p s).clock = s.clock :=
  (congrArg State.clock (releaseEntries_frame p s) :)
@[simp] theorem releaseEntries_settings (p : HeldKey → Bool) (s : State) : (releaseEntries p s).settings = s.settings :=
  (congrArg State.settings (releaseEntries_frame p s) :)
@[simp] theorem releaseEntries_tables (p : HeldKey → Bool) (s : State) : (releaseEntries p s).tables = s.tables :=
  (congrArg State.tables (releaseEntries_frame p s) :)
@[simp] theorem releaseEntries_console (p : HeldKey → Bool) (s : State) : (releaseEntries p s).console = s.console :=
  (congrArg State.console (releaseEntries_frame p s) :)
@[simp] theorem releaseEntries_recognizer (p : HeldKey → Bool) (s : State) : (releaseEntries p s).recognizer = s.recognizer :=
  (congrArg State.recognizer (releaseEntries_frame p s) :)
@[simp] theorem releaseEntries_focusUnit (p : HeldKey → Bool) (s : State) : (releaseEntries p s).focusUnit = s.focusUnit :=
  (congrArg State.focusUnit (releaseEntries_frame p s) :)
@[simp] theorem releaseEntries_pointer (p : HeldKey → Bool) (s : State) : (releaseEntries p s).pointer = s.pointer :=
  (congrArg State.pointer (releaseEntries_frame p s) :)
@[simp] theorem releaseEntries_video (p : HeldKey → Bool) (s : State) : (releaseEntries p s).video = s.video :=
  (congrArg State.video (releaseEntries_frame p s) :)
@[simp] theorem releaseEntries_schedule (p : HeldKey → Bool) (s : State) : (releaseEntries p s).schedule = s.schedule :=
  (congrArg State.schedule (releaseEntries_frame p s) :)
@[simp] theorem releaseEntries_engine (p : HeldKey → Bool) (s : State) : (releaseEntries p s).engine = s.engine :=
  (congrArg State.engine (releaseEntries_frame p s) :)
@[simp] theorem releaseEntries_journal (p : HeldKey → Bool) (s : State) : (releaseEntries p s).journal = s.journal :=
  (congrArg State.journal (releaseEntries_frame p s) :)
@[simp] theorem releaseEntries_image (p : HeldKey → Bool) (s : State) : (releaseEntries p s).image = s.image :=
  (congrArg State.image (releaseEntries_frame p s) :)
@[simp] theorem releaseEntries_foreign (p : HeldKey → Bool) (s : State) : (releaseEntries p s).foreign = s.foreign :=
  (congrArg State.foreign (releaseEntries_frame p s) :)
@[simp] theorem releaseEntries_mismatches (p : HeldKey → Bool) (s : State) : (releaseEntries p s).mismatches = s.mismatches :=
  (congrArg State.mismatches (releaseEntries_frame p s) :)

/-- All that offerOwed can change. -/
theorem offerOwed_frame (k : Computer) (s : State) :
    offerOwed k s = { s with ports := (offerOwed k s).ports } := by
  apply State.eq_of_fields
  all_goals first
    | with_reducible rfl
    | (unfold offerOwed; simp)
@[simp] theorem offerOwed_pending (k : Computer) (s : State) : (offerOwed k s).pending = s.pending :=
  (congrArg State.pending (offerOwed_frame k s) :)
@[simp] theorem offerOwed_sent (k : Computer) (s : State) : (offerOwed k s).sent = s.sent :=
  (congrArg State.sent (offerOwed_frame k s) :)
@[simp] theorem offerOwed_freeUses (k : Computer) (s : State) : (offerOwed k s).freeUses = s.freeUses :=
  (congrArg State.freeUses (offerOwed_frame k s) :)
@[simp] theorem offerOwed_clock (k : Computer) (s : State) : (offerOwed k s).clock = s.clock :=
  (congrArg State.clock (offerOwed_frame k s) :)
@[simp] theorem offerOwed_settings (k : Computer) (s : State) : (offerOwed k s).settings = s.settings :=
  (congrArg State.settings (offerOwed_frame k s) :)
@[simp] theorem offerOwed_tables (k : Computer) (s : State) : (offerOwed k s).tables = s.tables :=
  (congrArg State.tables (offerOwed_frame k s) :)
@[simp] theorem offerOwed_console (k : Computer) (s : State) : (offerOwed k s).console = s.console :=
  (congrArg State.console (offerOwed_frame k s) :)
@[simp] theorem offerOwed_keys (k : Computer) (s : State) : (offerOwed k s).keys = s.keys :=
  (congrArg State.keys (offerOwed_frame k s) :)
@[simp] theorem offerOwed_recognizer (k : Computer) (s : State) : (offerOwed k s).recognizer = s.recognizer :=
  (congrArg State.recognizer (offerOwed_frame k s) :)
@[simp] theorem offerOwed_focusUnit (k : Computer) (s : State) : (offerOwed k s).focusUnit = s.focusUnit :=
  (congrArg State.focusUnit (offerOwed_frame k s) :)
@[simp] theorem offerOwed_pointer (k : Computer) (s : State) : (offerOwed k s).pointer = s.pointer :=
  (congrArg State.pointer (offerOwed_frame k s) :)
@[simp] theorem offerOwed_video (k : Computer) (s : State) : (offerOwed k s).video = s.video :=
  (congrArg State.video (offerOwed_frame k s) :)
@[simp] theorem offerOwed_schedule (k : Computer) (s : State) : (offerOwed k s).schedule = s.schedule :=
  (congrArg State.schedule (offerOwed_frame k s) :)
@[simp] theorem offerOwed_engine (k : Computer) (s : State) : (offerOwed k s).engine = s.engine :=
  (congrArg State.engine (offerOwed_frame k s) :)
@[simp] theorem offerOwed_journal (k : Computer) (s : State) : (offerOwed k s).journal = s.journal :=
  (congrArg State.journal (offerOwed_frame k s) :)
@[simp] theorem offerOwed_image (k : Computer) (s : State) : (offerOwed k s).image = s.image :=
  (congrArg State.image (offerOwed_frame k s) :)
@[simp] theorem offerOwed_foreign (k : Computer) (s : State) : (offerOwed k s).foreign = s.foreign :=
  (congrArg State.foreign (offerOwed_frame k s) :)
@[simp] theorem offerOwed_mismatches (k : Computer) (s : State) : (offerOwed k s).mismatches = s.mismatches :=
  (congrArg State.mismatches (offerOwed_frame k s) :)

/-- All that offerOwedTo can change. -/
theorem offerOwedTo_frame (ks : ComputerSet) (s : State) :
    offerOwedTo ks s = { s with ports := (offerOwedTo ks s).ports } := by
  apply State.eq_of_fields
  all_goals first
    | with_reducible rfl
    | (exact foldl_keeps State.pending _ (fun t x => by split <;> simp) _ _)
    | (exact foldl_keeps State.sent _ (fun t x => by split <;> simp) _ _)
    | (exact foldl_keeps State.freeUses _ (fun t x => by split <;> simp) _ _)
    | (exact foldl_keeps State.clock _ (fun t x => by split <;> simp) _ _)
    | (exact foldl_keeps State.settings _ (fun t x => by split <;> simp) _ _)
    | (exact foldl_keeps State.tables _ (fun t x => by split <;> simp) _ _)
    | (exact foldl_keeps State.console _ (fun t x => by split <;> simp) _ _)
    | (exact foldl_keeps State.keys _ (fun t x => by split <;> simp) _ _)
    | (exact foldl_keeps State.recognizer _ (fun t x => by split <;> simp) _ _)
    | (exact foldl_keeps State.focusUnit _ (fun t x => by split <;> simp) _ _)
    | (exact foldl_keeps State.pointer _ (fun t x => by split <;> simp) _ _)
    | (exact foldl_keeps State.video _ (fun t x => by split <;> simp) _ _)
    | (exact foldl_keeps State.schedule _ (fun t x => by split <;> simp) _ _)
    | (exact foldl_keeps State.engine _ (fun t x => by split <;> simp) _ _)
    | (exact foldl_keeps State.journal _ (fun t x => by split <;> simp) _ _)
    | (exact foldl_keeps State.image _ (fun t x => by split <;> simp) _ _)
    | (exact foldl_keeps State.foreign _ (fun t x => by split <;> simp) _ _)
    | (exact foldl_keeps State.mismatches _ (fun t x => by split <;> simp) _ _)
@[simp] theorem offerOwedTo_pending (ks : ComputerSet) (s : State) : (offerOwedTo ks s).pending = s.pending :=
  (congrArg State.pending (offerOwedTo_frame ks s) :)
@[simp] theorem offerOwedTo_sent (ks : ComputerSet) (s : State) : (offerOwedTo ks s).sent = s.sent :=
  (congrArg State.sent (offerOwedTo_frame ks s) :)
@[simp] theorem offerOwedTo_freeUses (ks : ComputerSet) (s : State) : (offerOwedTo ks s).freeUses = s.freeUses :=
  (congrArg State.freeUses (offerOwedTo_frame ks s) :)
@[simp] theorem offerOwedTo_clock (ks : ComputerSet) (s : State) : (offerOwedTo ks s).clock = s.clock :=
  (congrArg State.clock (offerOwedTo_frame ks s) :)
@[simp] theorem offerOwedTo_settings (ks : ComputerSet) (s : State) : (offerOwedTo ks s).settings = s.settings :=
  (congrArg State.settings (offerOwedTo_frame ks s) :)
@[simp] theorem offerOwedTo_tables (ks : ComputerSet) (s : State) : (offerOwedTo ks s).tables = s.tables :=
  (congrArg State.tables (offerOwedTo_frame ks s) :)
@[simp] theorem offerOwedTo_console (ks : ComputerSet) (s : State) : (offerOwedTo ks s).console = s.console :=
  (congrArg State.console (offerOwedTo_frame ks s) :)
@[simp] theorem offerOwedTo_keys (ks : ComputerSet) (s : State) : (offerOwedTo ks s).keys = s.keys :=
  (congrArg State.keys (offerOwedTo_frame ks s) :)
@[simp] theorem offerOwedTo_recognizer (ks : ComputerSet) (s : State) : (offerOwedTo ks s).recognizer = s.recognizer :=
  (congrArg State.recognizer (offerOwedTo_frame ks s) :)
@[simp] theorem offerOwedTo_focusUnit (ks : ComputerSet) (s : State) : (offerOwedTo ks s).focusUnit = s.focusUnit :=
  (congrArg State.focusUnit (offerOwedTo_frame ks s) :)
@[simp] theorem offerOwedTo_pointer (ks : ComputerSet) (s : State) : (offerOwedTo ks s).pointer = s.pointer :=
  (congrArg State.pointer (offerOwedTo_frame ks s) :)
@[simp] theorem offerOwedTo_video (ks : ComputerSet) (s : State) : (offerOwedTo ks s).video = s.video :=
  (congrArg State.video (offerOwedTo_frame ks s) :)
@[simp] theorem offerOwedTo_schedule (ks : ComputerSet) (s : State) : (offerOwedTo ks s).schedule = s.schedule :=
  (congrArg State.schedule (offerOwedTo_frame ks s) :)
@[simp] theorem offerOwedTo_engine (ks : ComputerSet) (s : State) : (offerOwedTo ks s).engine = s.engine :=
  (congrArg State.engine (offerOwedTo_frame ks s) :)
@[simp] theorem offerOwedTo_journal (ks : ComputerSet) (s : State) : (offerOwedTo ks s).journal = s.journal :=
  (congrArg State.journal (offerOwedTo_frame ks s) :)
@[simp] theorem offerOwedTo_image (ks : ComputerSet) (s : State) : (offerOwedTo ks s).image = s.image :=
  (congrArg State.image (offerOwedTo_frame ks s) :)
@[simp] theorem offerOwedTo_foreign (ks : ComputerSet) (s : State) : (offerOwedTo ks s).foreign = s.foreign :=
  (congrArg State.foreign (offerOwedTo_frame ks s) :)
@[simp] theorem offerOwedTo_mismatches (ks : ComputerSet) (s : State) : (offerOwedTo ks s).mismatches = s.mismatches :=
  (congrArg State.mismatches (offerOwedTo_frame ks s) :)

/-- All that releaseButtons can change. -/
theorem releaseButtons_frame (s : State) :
    releaseButtons s = { s with keys := (releaseButtons s).keys, ports := (releaseButtons s).ports } := by
  apply State.eq_of_fields
  all_goals first
    | with_reducible rfl
    | (unfold releaseButtons; simp)
@[simp] theorem releaseButtons_pending (s : State) : (releaseButtons s).pending = s.pending :=
  (congrArg State.pending (releaseButtons_frame s) :)
@[simp] theorem releaseButtons_sent (s : State) : (releaseButtons s).sent = s.sent :=
  (congrArg State.sent (releaseButtons_frame s) :)
@[simp] theorem releaseButtons_freeUses (s : State) : (releaseButtons s).freeUses = s.freeUses :=
  (congrArg State.freeUses (releaseButtons_frame s) :)
@[simp] theorem releaseButtons_clock (s : State) : (releaseButtons s).clock = s.clock :=
  (congrArg State.clock (releaseButtons_frame s) :)
@[simp] theorem releaseButtons_settings (s : State) : (releaseButtons s).settings = s.settings :=
  (congrArg State.settings (releaseButtons_frame s) :)
@[simp] theorem releaseButtons_tables (s : State) : (releaseButtons s).tables = s.tables :=
  (congrArg State.tables (releaseButtons_frame s) :)
@[simp] theorem releaseButtons_console (s : State) : (releaseButtons s).console = s.console :=
  (congrArg State.console (releaseButtons_frame s) :)
@[simp] theorem releaseButtons_recognizer (s : State) : (releaseButtons s).recognizer = s.recognizer :=
  (congrArg State.recognizer (releaseButtons_frame s) :)
@[simp] theorem releaseButtons_focusUnit (s : State) : (releaseButtons s).focusUnit = s.focusUnit :=
  (congrArg State.focusUnit (releaseButtons_frame s) :)
@[simp] theorem releaseButtons_pointer (s : State) : (releaseButtons s).pointer = s.pointer :=
  (congrArg State.pointer (releaseButtons_frame s) :)
@[simp] theorem releaseButtons_video (s : State) : (releaseButtons s).video = s.video :=
  (congrArg State.video (releaseButtons_frame s) :)
@[simp] theorem releaseButtons_schedule (s : State) : (releaseButtons s).schedule = s.schedule :=
  (congrArg State.schedule (releaseButtons_frame s) :)
@[simp] theorem releaseButtons_engine (s : State) : (releaseButtons s).engine = s.engine :=
  (congrArg State.engine (releaseButtons_frame s) :)
@[simp] theorem releaseButtons_journal (s : State) : (releaseButtons s).journal = s.journal :=
  (congrArg State.journal (releaseButtons_frame s) :)
@[simp] theorem releaseButtons_image (s : State) : (releaseButtons s).image = s.image :=
  (congrArg State.image (releaseButtons_frame s) :)
@[simp] theorem releaseButtons_foreign (s : State) : (releaseButtons s).foreign = s.foreign :=
  (congrArg State.foreign (releaseButtons_frame s) :)
@[simp] theorem releaseButtons_mismatches (s : State) : (releaseButtons s).mismatches = s.mismatches :=
  (congrArg State.mismatches (releaseButtons_frame s) :)

/-- All that refreshLeds can change. -/
theorem refreshLeds_frame (s : State) :
    refreshLeds s = { s with sent := (refreshLeds s).sent, console := (refreshLeds s).console } := by
  apply State.eq_of_fields
  all_goals first
    | with_reducible rfl
    | (unfold refreshLeds; split <;> simp)
@[simp] theorem refreshLeds_pending (s : State) : (refreshLeds s).pending = s.pending :=
  (congrArg State.pending (refreshLeds_frame s) :)
@[simp] theorem refreshLeds_freeUses (s : State) : (refreshLeds s).freeUses = s.freeUses :=
  (congrArg State.freeUses (refreshLeds_frame s) :)
@[simp] theorem refreshLeds_clock (s : State) : (refreshLeds s).clock = s.clock :=
  (congrArg State.clock (refreshLeds_frame s) :)
@[simp] theorem refreshLeds_settings (s : State) : (refreshLeds s).settings = s.settings :=
  (congrArg State.settings (refreshLeds_frame s) :)
@[simp] theorem refreshLeds_tables (s : State) : (refreshLeds s).tables = s.tables :=
  (congrArg State.tables (refreshLeds_frame s) :)
@[simp] theorem refreshLeds_keys (s : State) : (refreshLeds s).keys = s.keys :=
  (congrArg State.keys (refreshLeds_frame s) :)
@[simp] theorem refreshLeds_recognizer (s : State) : (refreshLeds s).recognizer = s.recognizer :=
  (congrArg State.recognizer (refreshLeds_frame s) :)
@[simp] theorem refreshLeds_focusUnit (s : State) : (refreshLeds s).focusUnit = s.focusUnit :=
  (congrArg State.focusUnit (refreshLeds_frame s) :)
@[simp] theorem refreshLeds_pointer (s : State) : (refreshLeds s).pointer = s.pointer :=
  (congrArg State.pointer (refreshLeds_frame s) :)
@[simp] theorem refreshLeds_ports (s : State) : (refreshLeds s).ports = s.ports :=
  (congrArg State.ports (refreshLeds_frame s) :)
@[simp] theorem refreshLeds_video (s : State) : (refreshLeds s).video = s.video :=
  (congrArg State.video (refreshLeds_frame s) :)
@[simp] theorem refreshLeds_schedule (s : State) : (refreshLeds s).schedule = s.schedule :=
  (congrArg State.schedule (refreshLeds_frame s) :)
@[simp] theorem refreshLeds_engine (s : State) : (refreshLeds s).engine = s.engine :=
  (congrArg State.engine (refreshLeds_frame s) :)
@[simp] theorem refreshLeds_journal (s : State) : (refreshLeds s).journal = s.journal :=
  (congrArg State.journal (refreshLeds_frame s) :)
@[simp] theorem refreshLeds_image (s : State) : (refreshLeds s).image = s.image :=
  (congrArg State.image (refreshLeds_frame s) :)
@[simp] theorem refreshLeds_foreign (s : State) : (refreshLeds s).foreign = s.foreign :=
  (congrArg State.foreign (refreshLeds_frame s) :)
@[simp] theorem refreshLeds_mismatches (s : State) : (refreshLeds s).mismatches = s.mismatches :=
  (congrArg State.mismatches (refreshLeds_frame s) :)

/-- All that askAlert can change. -/
theorem askAlert_frame (kind : AlertKind) (s : State) :
    askAlert kind s = { s with sent := (askAlert kind s).sent } := by
  apply State.eq_of_fields
  all_goals first
    | with_reducible rfl
    | (unfold askAlert; split <;> simp)
@[simp] theorem askAlert_pending (kind : AlertKind) (s : State) : (askAlert kind s).pending = s.pending :=
  (congrArg State.pending (askAlert_frame kind s) :)
@[simp] theorem askAlert_freeUses (kind : AlertKind) (s : State) : (askAlert kind s).freeUses = s.freeUses :=
  (congrArg State.freeUses (askAlert_frame kind s) :)
@[simp] theorem askAlert_clock (kind : AlertKind) (s : State) : (askAlert kind s).clock = s.clock :=
  (congrArg State.clock (askAlert_frame kind s) :)
@[simp] theorem askAlert_settings (kind : AlertKind) (s : State) : (askAlert kind s).settings = s.settings :=
  (congrArg State.settings (askAlert_frame kind s) :)
@[simp] theorem askAlert_tables (kind : AlertKind) (s : State) : (askAlert kind s).tables = s.tables :=
  (congrArg State.tables (askAlert_frame kind s) :)
@[simp] theorem askAlert_console (kind : AlertKind) (s : State) : (askAlert kind s).console = s.console :=
  (congrArg State.console (askAlert_frame kind s) :)
@[simp] theorem askAlert_keys (kind : AlertKind) (s : State) : (askAlert kind s).keys = s.keys :=
  (congrArg State.keys (askAlert_frame kind s) :)
@[simp] theorem askAlert_recognizer (kind : AlertKind) (s : State) : (askAlert kind s).recognizer = s.recognizer :=
  (congrArg State.recognizer (askAlert_frame kind s) :)
@[simp] theorem askAlert_focusUnit (kind : AlertKind) (s : State) : (askAlert kind s).focusUnit = s.focusUnit :=
  (congrArg State.focusUnit (askAlert_frame kind s) :)
@[simp] theorem askAlert_pointer (kind : AlertKind) (s : State) : (askAlert kind s).pointer = s.pointer :=
  (congrArg State.pointer (askAlert_frame kind s) :)
@[simp] theorem askAlert_ports (kind : AlertKind) (s : State) : (askAlert kind s).ports = s.ports :=
  (congrArg State.ports (askAlert_frame kind s) :)
@[simp] theorem askAlert_video (kind : AlertKind) (s : State) : (askAlert kind s).video = s.video :=
  (congrArg State.video (askAlert_frame kind s) :)
@[simp] theorem askAlert_schedule (kind : AlertKind) (s : State) : (askAlert kind s).schedule = s.schedule :=
  (congrArg State.schedule (askAlert_frame kind s) :)
@[simp] theorem askAlert_engine (kind : AlertKind) (s : State) : (askAlert kind s).engine = s.engine :=
  (congrArg State.engine (askAlert_frame kind s) :)
@[simp] theorem askAlert_journal (kind : AlertKind) (s : State) : (askAlert kind s).journal = s.journal :=
  (congrArg State.journal (askAlert_frame kind s) :)
@[simp] theorem askAlert_image (kind : AlertKind) (s : State) : (askAlert kind s).image = s.image :=
  (congrArg State.image (askAlert_frame kind s) :)
@[simp] theorem askAlert_foreign (kind : AlertKind) (s : State) : (askAlert kind s).foreign = s.foreign :=
  (congrArg State.foreign (askAlert_frame kind s) :)
@[simp] theorem askAlert_mismatches (kind : AlertKind) (s : State) : (askAlert kind s).mismatches = s.mismatches :=
  (congrArg State.mismatches (askAlert_frame kind s) :)

/-- All that startWake can change. -/
theorem startWake_frame (k : Computer) (s : State) :
    startWake k s = { s with sent := (startWake k s).sent, ports := (startWake k s).ports, journal := (startWake k s).journal } := by
  apply State.eq_of_fields
  all_goals first
    | with_reducible rfl
    | (unfold startWake; simp)
@[simp] theorem startWake_pending (k : Computer) (s : State) : (startWake k s).pending = s.pending :=
  (congrArg State.pending (startWake_frame k s) :)
@[simp] theorem startWake_freeUses (k : Computer) (s : State) : (startWake k s).freeUses = s.freeUses :=
  (congrArg State.freeUses (startWake_frame k s) :)
@[simp] theorem startWake_clock (k : Computer) (s : State) : (startWake k s).clock = s.clock :=
  (congrArg State.clock (startWake_frame k s) :)
@[simp] theorem startWake_settings (k : Computer) (s : State) : (startWake k s).settings = s.settings :=
  (congrArg State.settings (startWake_frame k s) :)
@[simp] theorem startWake_tables (k : Computer) (s : State) : (startWake k s).tables = s.tables :=
  (congrArg State.tables (startWake_frame k s) :)
@[simp] theorem startWake_console (k : Computer) (s : State) : (startWake k s).console = s.console :=
  (congrArg State.console (startWake_frame k s) :)
@[simp] theorem startWake_keys (k : Computer) (s : State) : (startWake k s).keys = s.keys :=
  (congrArg State.keys (startWake_frame k s) :)
@[simp] theorem startWake_recognizer (k : Computer) (s : State) : (startWake k s).recognizer = s.recognizer :=
  (congrArg State.recognizer (startWake_frame k s) :)
@[simp] theorem startWake_focusUnit (k : Computer) (s : State) : (startWake k s).focusUnit = s.focusUnit :=
  (congrArg State.focusUnit (startWake_frame k s) :)
@[simp] theorem startWake_pointer (k : Computer) (s : State) : (startWake k s).pointer = s.pointer :=
  (congrArg State.pointer (startWake_frame k s) :)
@[simp] theorem startWake_video (k : Computer) (s : State) : (startWake k s).video = s.video :=
  (congrArg State.video (startWake_frame k s) :)
@[simp] theorem startWake_schedule (k : Computer) (s : State) : (startWake k s).schedule = s.schedule :=
  (congrArg State.schedule (startWake_frame k s) :)
@[simp] theorem startWake_engine (k : Computer) (s : State) : (startWake k s).engine = s.engine :=
  (congrArg State.engine (startWake_frame k s) :)
@[simp] theorem startWake_image (k : Computer) (s : State) : (startWake k s).image = s.image :=
  (congrArg State.image (startWake_frame k s) :)
@[simp] theorem startWake_foreign (k : Computer) (s : State) : (startWake k s).foreign = s.foreign :=
  (congrArg State.foreign (startWake_frame k s) :)
@[simp] theorem startWake_mismatches (k : Computer) (s : State) : (startWake k s).mismatches = s.mismatches :=
  (congrArg State.mismatches (startWake_frame k s) :)

/-- All that wakeRequest can change. -/
theorem wakeRequest_frame (k : Computer) (s : State) :
    wakeRequest k s = { s with sent := (wakeRequest k s).sent, ports := (wakeRequest k s).ports, journal := (wakeRequest k s).journal } := by
  apply State.eq_of_fields
  all_goals first
    | with_reducible rfl
    | (unfold wakeRequest; split <;> simp)
@[simp] theorem wakeRequest_pending (k : Computer) (s : State) : (wakeRequest k s).pending = s.pending :=
  (congrArg State.pending (wakeRequest_frame k s) :)
@[simp] theorem wakeRequest_freeUses (k : Computer) (s : State) : (wakeRequest k s).freeUses = s.freeUses :=
  (congrArg State.freeUses (wakeRequest_frame k s) :)
@[simp] theorem wakeRequest_clock (k : Computer) (s : State) : (wakeRequest k s).clock = s.clock :=
  (congrArg State.clock (wakeRequest_frame k s) :)
@[simp] theorem wakeRequest_settings (k : Computer) (s : State) : (wakeRequest k s).settings = s.settings :=
  (congrArg State.settings (wakeRequest_frame k s) :)
@[simp] theorem wakeRequest_tables (k : Computer) (s : State) : (wakeRequest k s).tables = s.tables :=
  (congrArg State.tables (wakeRequest_frame k s) :)
@[simp] theorem wakeRequest_console (k : Computer) (s : State) : (wakeRequest k s).console = s.console :=
  (congrArg State.console (wakeRequest_frame k s) :)
@[simp] theorem wakeRequest_keys (k : Computer) (s : State) : (wakeRequest k s).keys = s.keys :=
  (congrArg State.keys (wakeRequest_frame k s) :)
@[simp] theorem wakeRequest_recognizer (k : Computer) (s : State) : (wakeRequest k s).recognizer = s.recognizer :=
  (congrArg State.recognizer (wakeRequest_frame k s) :)
@[simp] theorem wakeRequest_focusUnit (k : Computer) (s : State) : (wakeRequest k s).focusUnit = s.focusUnit :=
  (congrArg State.focusUnit (wakeRequest_frame k s) :)
@[simp] theorem wakeRequest_pointer (k : Computer) (s : State) : (wakeRequest k s).pointer = s.pointer :=
  (congrArg State.pointer (wakeRequest_frame k s) :)
@[simp] theorem wakeRequest_video (k : Computer) (s : State) : (wakeRequest k s).video = s.video :=
  (congrArg State.video (wakeRequest_frame k s) :)
@[simp] theorem wakeRequest_schedule (k : Computer) (s : State) : (wakeRequest k s).schedule = s.schedule :=
  (congrArg State.schedule (wakeRequest_frame k s) :)
@[simp] theorem wakeRequest_engine (k : Computer) (s : State) : (wakeRequest k s).engine = s.engine :=
  (congrArg State.engine (wakeRequest_frame k s) :)
@[simp] theorem wakeRequest_image (k : Computer) (s : State) : (wakeRequest k s).image = s.image :=
  (congrArg State.image (wakeRequest_frame k s) :)
@[simp] theorem wakeRequest_foreign (k : Computer) (s : State) : (wakeRequest k s).foreign = s.foreign :=
  (congrArg State.foreign (wakeRequest_frame k s) :)
@[simp] theorem wakeRequest_mismatches (k : Computer) (s : State) : (wakeRequest k s).mismatches = s.mismatches :=
  (congrArg State.mismatches (wakeRequest_frame k s) :)

/-- All that wakeOnFocus can change. -/
theorem wakeOnFocus_frame (k : Computer) (s : State) :
    wakeOnFocus k s = { s with sent := (wakeOnFocus k s).sent, ports := (wakeOnFocus k s).ports, journal := (wakeOnFocus k s).journal } := by
  apply State.eq_of_fields
  all_goals first
    | with_reducible rfl
    | (unfold wakeOnFocus; split <;> simp)
@[simp] theorem wakeOnFocus_pending (k : Computer) (s : State) : (wakeOnFocus k s).pending = s.pending :=
  (congrArg State.pending (wakeOnFocus_frame k s) :)
@[simp] theorem wakeOnFocus_freeUses (k : Computer) (s : State) : (wakeOnFocus k s).freeUses = s.freeUses :=
  (congrArg State.freeUses (wakeOnFocus_frame k s) :)
@[simp] theorem wakeOnFocus_clock (k : Computer) (s : State) : (wakeOnFocus k s).clock = s.clock :=
  (congrArg State.clock (wakeOnFocus_frame k s) :)
@[simp] theorem wakeOnFocus_settings (k : Computer) (s : State) : (wakeOnFocus k s).settings = s.settings :=
  (congrArg State.settings (wakeOnFocus_frame k s) :)
@[simp] theorem wakeOnFocus_tables (k : Computer) (s : State) : (wakeOnFocus k s).tables = s.tables :=
  (congrArg State.tables (wakeOnFocus_frame k s) :)
@[simp] theorem wakeOnFocus_console (k : Computer) (s : State) : (wakeOnFocus k s).console = s.console :=
  (congrArg State.console (wakeOnFocus_frame k s) :)
@[simp] theorem wakeOnFocus_keys (k : Computer) (s : State) : (wakeOnFocus k s).keys = s.keys :=
  (congrArg State.keys (wakeOnFocus_frame k s) :)
@[simp] theorem wakeOnFocus_recognizer (k : Computer) (s : State) : (wakeOnFocus k s).recognizer = s.recognizer :=
  (congrArg State.recognizer (wakeOnFocus_frame k s) :)
@[simp] theorem wakeOnFocus_focusUnit (k : Computer) (s : State) : (wakeOnFocus k s).focusUnit = s.focusUnit :=
  (congrArg State.focusUnit (wakeOnFocus_frame k s) :)
@[simp] theorem wakeOnFocus_pointer (k : Computer) (s : State) : (wakeOnFocus k s).pointer = s.pointer :=
  (congrArg State.pointer (wakeOnFocus_frame k s) :)
@[simp] theorem wakeOnFocus_video (k : Computer) (s : State) : (wakeOnFocus k s).video = s.video :=
  (congrArg State.video (wakeOnFocus_frame k s) :)
@[simp] theorem wakeOnFocus_schedule (k : Computer) (s : State) : (wakeOnFocus k s).schedule = s.schedule :=
  (congrArg State.schedule (wakeOnFocus_frame k s) :)
@[simp] theorem wakeOnFocus_engine (k : Computer) (s : State) : (wakeOnFocus k s).engine = s.engine :=
  (congrArg State.engine (wakeOnFocus_frame k s) :)
@[simp] theorem wakeOnFocus_image (k : Computer) (s : State) : (wakeOnFocus k s).image = s.image :=
  (congrArg State.image (wakeOnFocus_frame k s) :)
@[simp] theorem wakeOnFocus_foreign (k : Computer) (s : State) : (wakeOnFocus k s).foreign = s.foreign :=
  (congrArg State.foreign (wakeOnFocus_frame k s) :)
@[simp] theorem wakeOnFocus_mismatches (k : Computer) (s : State) : (wakeOnFocus k s).mismatches = s.mismatches :=
  (congrArg State.mismatches (wakeOnFocus_frame k s) :)

/-- All that wakeOnKey can change. -/
theorem wakeOnKey_frame (owners : ComputerSet) (s : State) :
    wakeOnKey owners s = { s with sent := (wakeOnKey owners s).sent, ports := (wakeOnKey owners s).ports, journal := (wakeOnKey owners s).journal } := by
  apply State.eq_of_fields
  all_goals first
    | with_reducible rfl
    | (exact foldl_keeps State.pending _ (fun t x => by split <;> simp) _ _)
    | (exact foldl_keeps State.freeUses _ (fun t x => by split <;> simp) _ _)
    | (exact foldl_keeps State.clock _ (fun t x => by split <;> simp) _ _)
    | (exact foldl_keeps State.settings _ (fun t x => by split <;> simp) _ _)
    | (exact foldl_keeps State.tables _ (fun t x => by split <;> simp) _ _)
    | (exact foldl_keeps State.console _ (fun t x => by split <;> simp) _ _)
    | (exact foldl_keeps State.keys _ (fun t x => by split <;> simp) _ _)
    | (exact foldl_keeps State.recognizer _ (fun t x => by split <;> simp) _ _)
    | (exact foldl_keeps State.focusUnit _ (fun t x => by split <;> simp) _ _)
    | (exact foldl_keeps State.pointer _ (fun t x => by split <;> simp) _ _)
    | (exact foldl_keeps State.video _ (fun t x => by split <;> simp) _ _)
    | (exact foldl_keeps State.schedule _ (fun t x => by split <;> simp) _ _)
    | (exact foldl_keeps State.engine _ (fun t x => by split <;> simp) _ _)
    | (exact foldl_keeps State.image _ (fun t x => by split <;> simp) _ _)
    | (exact foldl_keeps State.foreign _ (fun t x => by split <;> simp) _ _)
    | (exact foldl_keeps State.mismatches _ (fun t x => by split <;> simp) _ _)
@[simp] theorem wakeOnKey_pending (owners : ComputerSet) (s : State) : (wakeOnKey owners s).pending = s.pending :=
  (congrArg State.pending (wakeOnKey_frame owners s) :)
@[simp] theorem wakeOnKey_freeUses (owners : ComputerSet) (s : State) : (wakeOnKey owners s).freeUses = s.freeUses :=
  (congrArg State.freeUses (wakeOnKey_frame owners s) :)
@[simp] theorem wakeOnKey_clock (owners : ComputerSet) (s : State) : (wakeOnKey owners s).clock = s.clock :=
  (congrArg State.clock (wakeOnKey_frame owners s) :)
@[simp] theorem wakeOnKey_settings (owners : ComputerSet) (s : State) : (wakeOnKey owners s).settings = s.settings :=
  (congrArg State.settings (wakeOnKey_frame owners s) :)
@[simp] theorem wakeOnKey_tables (owners : ComputerSet) (s : State) : (wakeOnKey owners s).tables = s.tables :=
  (congrArg State.tables (wakeOnKey_frame owners s) :)
@[simp] theorem wakeOnKey_console (owners : ComputerSet) (s : State) : (wakeOnKey owners s).console = s.console :=
  (congrArg State.console (wakeOnKey_frame owners s) :)
@[simp] theorem wakeOnKey_keys (owners : ComputerSet) (s : State) : (wakeOnKey owners s).keys = s.keys :=
  (congrArg State.keys (wakeOnKey_frame owners s) :)
@[simp] theorem wakeOnKey_recognizer (owners : ComputerSet) (s : State) : (wakeOnKey owners s).recognizer = s.recognizer :=
  (congrArg State.recognizer (wakeOnKey_frame owners s) :)
@[simp] theorem wakeOnKey_focusUnit (owners : ComputerSet) (s : State) : (wakeOnKey owners s).focusUnit = s.focusUnit :=
  (congrArg State.focusUnit (wakeOnKey_frame owners s) :)
@[simp] theorem wakeOnKey_pointer (owners : ComputerSet) (s : State) : (wakeOnKey owners s).pointer = s.pointer :=
  (congrArg State.pointer (wakeOnKey_frame owners s) :)
@[simp] theorem wakeOnKey_video (owners : ComputerSet) (s : State) : (wakeOnKey owners s).video = s.video :=
  (congrArg State.video (wakeOnKey_frame owners s) :)
@[simp] theorem wakeOnKey_schedule (owners : ComputerSet) (s : State) : (wakeOnKey owners s).schedule = s.schedule :=
  (congrArg State.schedule (wakeOnKey_frame owners s) :)
@[simp] theorem wakeOnKey_engine (owners : ComputerSet) (s : State) : (wakeOnKey owners s).engine = s.engine :=
  (congrArg State.engine (wakeOnKey_frame owners s) :)
@[simp] theorem wakeOnKey_image (owners : ComputerSet) (s : State) : (wakeOnKey owners s).image = s.image :=
  (congrArg State.image (wakeOnKey_frame owners s) :)
@[simp] theorem wakeOnKey_foreign (owners : ComputerSet) (s : State) : (wakeOnKey owners s).foreign = s.foreign :=
  (congrArg State.foreign (wakeOnKey_frame owners s) :)
@[simp] theorem wakeOnKey_mismatches (owners : ComputerSet) (s : State) : (wakeOnKey owners s).mismatches = s.mismatches :=
  (congrArg State.mismatches (wakeOnKey_frame owners s) :)

/-- All that writeSlot can change. -/
theorem writeSlot_frame (k : Computer) (r : ResultSlot) (s : State) :
    writeSlot k r s = { s with ports := (writeSlot k r s).ports } := by
  apply State.eq_of_fields
  all_goals first
    | with_reducible rfl
    | (unfold writeSlot; split <;> simp)
@[simp] theorem writeSlot_pending (k : Computer) (r : ResultSlot) (s : State) : (writeSlot k r s).pending = s.pending :=
  (congrArg State.pending (writeSlot_frame k r s) :)
@[simp] theorem writeSlot_sent (k : Computer) (r : ResultSlot) (s : State) : (writeSlot k r s).sent = s.sent :=
  (congrArg State.sent (writeSlot_frame k r s) :)
@[simp] theorem writeSlot_freeUses (k : Computer) (r : ResultSlot) (s : State) : (writeSlot k r s).freeUses = s.freeUses :=
  (congrArg State.freeUses (writeSlot_frame k r s) :)
@[simp] theorem writeSlot_clock (k : Computer) (r : ResultSlot) (s : State) : (writeSlot k r s).clock = s.clock :=
  (congrArg State.clock (writeSlot_frame k r s) :)
@[simp] theorem writeSlot_settings (k : Computer) (r : ResultSlot) (s : State) : (writeSlot k r s).settings = s.settings :=
  (congrArg State.settings (writeSlot_frame k r s) :)
@[simp] theorem writeSlot_tables (k : Computer) (r : ResultSlot) (s : State) : (writeSlot k r s).tables = s.tables :=
  (congrArg State.tables (writeSlot_frame k r s) :)
@[simp] theorem writeSlot_console (k : Computer) (r : ResultSlot) (s : State) : (writeSlot k r s).console = s.console :=
  (congrArg State.console (writeSlot_frame k r s) :)
@[simp] theorem writeSlot_keys (k : Computer) (r : ResultSlot) (s : State) : (writeSlot k r s).keys = s.keys :=
  (congrArg State.keys (writeSlot_frame k r s) :)
@[simp] theorem writeSlot_recognizer (k : Computer) (r : ResultSlot) (s : State) : (writeSlot k r s).recognizer = s.recognizer :=
  (congrArg State.recognizer (writeSlot_frame k r s) :)
@[simp] theorem writeSlot_focusUnit (k : Computer) (r : ResultSlot) (s : State) : (writeSlot k r s).focusUnit = s.focusUnit :=
  (congrArg State.focusUnit (writeSlot_frame k r s) :)
@[simp] theorem writeSlot_pointer (k : Computer) (r : ResultSlot) (s : State) : (writeSlot k r s).pointer = s.pointer :=
  (congrArg State.pointer (writeSlot_frame k r s) :)
@[simp] theorem writeSlot_video (k : Computer) (r : ResultSlot) (s : State) : (writeSlot k r s).video = s.video :=
  (congrArg State.video (writeSlot_frame k r s) :)
@[simp] theorem writeSlot_schedule (k : Computer) (r : ResultSlot) (s : State) : (writeSlot k r s).schedule = s.schedule :=
  (congrArg State.schedule (writeSlot_frame k r s) :)
@[simp] theorem writeSlot_engine (k : Computer) (r : ResultSlot) (s : State) : (writeSlot k r s).engine = s.engine :=
  (congrArg State.engine (writeSlot_frame k r s) :)
@[simp] theorem writeSlot_journal (k : Computer) (r : ResultSlot) (s : State) : (writeSlot k r s).journal = s.journal :=
  (congrArg State.journal (writeSlot_frame k r s) :)
@[simp] theorem writeSlot_image (k : Computer) (r : ResultSlot) (s : State) : (writeSlot k r s).image = s.image :=
  (congrArg State.image (writeSlot_frame k r s) :)
@[simp] theorem writeSlot_foreign (k : Computer) (r : ResultSlot) (s : State) : (writeSlot k r s).foreign = s.foreign :=
  (congrArg State.foreign (writeSlot_frame k r s) :)
@[simp] theorem writeSlot_mismatches (k : Computer) (r : ResultSlot) (s : State) : (writeSlot k r s).mismatches = s.mismatches :=
  (congrArg State.mismatches (writeSlot_frame k r s) :)

/-- All that completeDeferred can change. -/
theorem completeDeferred_frame (d : Deferred) (result : Result) (s : State) :
    completeDeferred d result s = { s with ports := (completeDeferred d result s).ports, engine := (completeDeferred d result s).engine } := by
  apply State.eq_of_fields
  all_goals first
    | with_reducible rfl
    | (unfold completeDeferred; simp)
@[simp] theorem completeDeferred_pending (d : Deferred) (result : Result) (s : State) : (completeDeferred d result s).pending = s.pending :=
  (congrArg State.pending (completeDeferred_frame d result s) :)
@[simp] theorem completeDeferred_sent (d : Deferred) (result : Result) (s : State) : (completeDeferred d result s).sent = s.sent :=
  (congrArg State.sent (completeDeferred_frame d result s) :)
@[simp] theorem completeDeferred_freeUses (d : Deferred) (result : Result) (s : State) : (completeDeferred d result s).freeUses = s.freeUses :=
  (congrArg State.freeUses (completeDeferred_frame d result s) :)
@[simp] theorem completeDeferred_clock (d : Deferred) (result : Result) (s : State) : (completeDeferred d result s).clock = s.clock :=
  (congrArg State.clock (completeDeferred_frame d result s) :)
@[simp] theorem completeDeferred_settings (d : Deferred) (result : Result) (s : State) : (completeDeferred d result s).settings = s.settings :=
  (congrArg State.settings (completeDeferred_frame d result s) :)
@[simp] theorem completeDeferred_tables (d : Deferred) (result : Result) (s : State) : (completeDeferred d result s).tables = s.tables :=
  (congrArg State.tables (completeDeferred_frame d result s) :)
@[simp] theorem completeDeferred_console (d : Deferred) (result : Result) (s : State) : (completeDeferred d result s).console = s.console :=
  (congrArg State.console (completeDeferred_frame d result s) :)
@[simp] theorem completeDeferred_keys (d : Deferred) (result : Result) (s : State) : (completeDeferred d result s).keys = s.keys :=
  (congrArg State.keys (completeDeferred_frame d result s) :)
@[simp] theorem completeDeferred_recognizer (d : Deferred) (result : Result) (s : State) : (completeDeferred d result s).recognizer = s.recognizer :=
  (congrArg State.recognizer (completeDeferred_frame d result s) :)
@[simp] theorem completeDeferred_focusUnit (d : Deferred) (result : Result) (s : State) : (completeDeferred d result s).focusUnit = s.focusUnit :=
  (congrArg State.focusUnit (completeDeferred_frame d result s) :)
@[simp] theorem completeDeferred_pointer (d : Deferred) (result : Result) (s : State) : (completeDeferred d result s).pointer = s.pointer :=
  (congrArg State.pointer (completeDeferred_frame d result s) :)
@[simp] theorem completeDeferred_video (d : Deferred) (result : Result) (s : State) : (completeDeferred d result s).video = s.video :=
  (congrArg State.video (completeDeferred_frame d result s) :)
@[simp] theorem completeDeferred_schedule (d : Deferred) (result : Result) (s : State) : (completeDeferred d result s).schedule = s.schedule :=
  (congrArg State.schedule (completeDeferred_frame d result s) :)
@[simp] theorem completeDeferred_journal (d : Deferred) (result : Result) (s : State) : (completeDeferred d result s).journal = s.journal :=
  (congrArg State.journal (completeDeferred_frame d result s) :)
@[simp] theorem completeDeferred_image (d : Deferred) (result : Result) (s : State) : (completeDeferred d result s).image = s.image :=
  (congrArg State.image (completeDeferred_frame d result s) :)
@[simp] theorem completeDeferred_foreign (d : Deferred) (result : Result) (s : State) : (completeDeferred d result s).foreign = s.foreign :=
  (congrArg State.foreign (completeDeferred_frame d result s) :)
@[simp] theorem completeDeferred_mismatches (d : Deferred) (result : Result) (s : State) : (completeDeferred d result s).mismatches = s.mismatches :=
  (congrArg State.mismatches (completeDeferred_frame d result s) :)

/-- All that engineCommit can change. -/
theorem engineCommit_frame (sc : Screen) (src : Source) (s : State) :
    engineCommit sc src s = { s with ports := (engineCommit sc src s).ports, engine := (engineCommit sc src s).engine } := by
  apply State.eq_of_fields
  all_goals first
    | with_reducible rfl
    | (unfold engineCommit; (try dsimp only); repeat' split
       all_goals simp)
@[simp] theorem engineCommit_pending (sc : Screen) (src : Source) (s : State) : (engineCommit sc src s).pending = s.pending :=
  (congrArg State.pending (engineCommit_frame sc src s) :)
@[simp] theorem engineCommit_sent (sc : Screen) (src : Source) (s : State) : (engineCommit sc src s).sent = s.sent :=
  (congrArg State.sent (engineCommit_frame sc src s) :)
@[simp] theorem engineCommit_freeUses (sc : Screen) (src : Source) (s : State) : (engineCommit sc src s).freeUses = s.freeUses :=
  (congrArg State.freeUses (engineCommit_frame sc src s) :)
@[simp] theorem engineCommit_clock (sc : Screen) (src : Source) (s : State) : (engineCommit sc src s).clock = s.clock :=
  (congrArg State.clock (engineCommit_frame sc src s) :)
@[simp] theorem engineCommit_settings (sc : Screen) (src : Source) (s : State) : (engineCommit sc src s).settings = s.settings :=
  (congrArg State.settings (engineCommit_frame sc src s) :)
@[simp] theorem engineCommit_tables (sc : Screen) (src : Source) (s : State) : (engineCommit sc src s).tables = s.tables :=
  (congrArg State.tables (engineCommit_frame sc src s) :)
@[simp] theorem engineCommit_console (sc : Screen) (src : Source) (s : State) : (engineCommit sc src s).console = s.console :=
  (congrArg State.console (engineCommit_frame sc src s) :)
@[simp] theorem engineCommit_keys (sc : Screen) (src : Source) (s : State) : (engineCommit sc src s).keys = s.keys :=
  (congrArg State.keys (engineCommit_frame sc src s) :)
@[simp] theorem engineCommit_recognizer (sc : Screen) (src : Source) (s : State) : (engineCommit sc src s).recognizer = s.recognizer :=
  (congrArg State.recognizer (engineCommit_frame sc src s) :)
@[simp] theorem engineCommit_focusUnit (sc : Screen) (src : Source) (s : State) : (engineCommit sc src s).focusUnit = s.focusUnit :=
  (congrArg State.focusUnit (engineCommit_frame sc src s) :)
@[simp] theorem engineCommit_pointer (sc : Screen) (src : Source) (s : State) : (engineCommit sc src s).pointer = s.pointer :=
  (congrArg State.pointer (engineCommit_frame sc src s) :)
@[simp] theorem engineCommit_video (sc : Screen) (src : Source) (s : State) : (engineCommit sc src s).video = s.video :=
  (congrArg State.video (engineCommit_frame sc src s) :)
@[simp] theorem engineCommit_schedule (sc : Screen) (src : Source) (s : State) : (engineCommit sc src s).schedule = s.schedule :=
  (congrArg State.schedule (engineCommit_frame sc src s) :)
@[simp] theorem engineCommit_journal (sc : Screen) (src : Source) (s : State) : (engineCommit sc src s).journal = s.journal :=
  (congrArg State.journal (engineCommit_frame sc src s) :)
@[simp] theorem engineCommit_image (sc : Screen) (src : Source) (s : State) : (engineCommit sc src s).image = s.image :=
  (congrArg State.image (engineCommit_frame sc src s) :)
@[simp] theorem engineCommit_foreign (sc : Screen) (src : Source) (s : State) : (engineCommit sc src s).foreign = s.foreign :=
  (congrArg State.foreign (engineCommit_frame sc src s) :)
@[simp] theorem engineCommit_mismatches (sc : Screen) (src : Source) (s : State) : (engineCommit sc src s).mismatches = s.mismatches :=
  (congrArg State.mismatches (engineCommit_frame sc src s) :)

/-- All that engineWakeEnded can change. -/
theorem engineWakeEnded_frame (k : Computer) (outcome : Result) (s : State) :
    engineWakeEnded k outcome s = { s with ports := (engineWakeEnded k outcome s).ports, engine := (engineWakeEnded k outcome s).engine } := by
  apply State.eq_of_fields
  all_goals first
    | with_reducible rfl
    | (unfold engineWakeEnded; (try dsimp only); repeat' split
       all_goals simp)
@[simp] theorem engineWakeEnded_pending (k : Computer) (outcome : Result) (s : State) : (engineWakeEnded k outcome s).pending = s.pending :=
  (congrArg State.pending (engineWakeEnded_frame k outcome s) :)
@[simp] theorem engineWakeEnded_sent (k : Computer) (outcome : Result) (s : State) : (engineWakeEnded k outcome s).sent = s.sent :=
  (congrArg State.sent (engineWakeEnded_frame k outcome s) :)
@[simp] theorem engineWakeEnded_freeUses (k : Computer) (outcome : Result) (s : State) : (engineWakeEnded k outcome s).freeUses = s.freeUses :=
  (congrArg State.freeUses (engineWakeEnded_frame k outcome s) :)
@[simp] theorem engineWakeEnded_clock (k : Computer) (outcome : Result) (s : State) : (engineWakeEnded k outcome s).clock = s.clock :=
  (congrArg State.clock (engineWakeEnded_frame k outcome s) :)
@[simp] theorem engineWakeEnded_settings (k : Computer) (outcome : Result) (s : State) : (engineWakeEnded k outcome s).settings = s.settings :=
  (congrArg State.settings (engineWakeEnded_frame k outcome s) :)
@[simp] theorem engineWakeEnded_tables (k : Computer) (outcome : Result) (s : State) : (engineWakeEnded k outcome s).tables = s.tables :=
  (congrArg State.tables (engineWakeEnded_frame k outcome s) :)
@[simp] theorem engineWakeEnded_console (k : Computer) (outcome : Result) (s : State) : (engineWakeEnded k outcome s).console = s.console :=
  (congrArg State.console (engineWakeEnded_frame k outcome s) :)
@[simp] theorem engineWakeEnded_keys (k : Computer) (outcome : Result) (s : State) : (engineWakeEnded k outcome s).keys = s.keys :=
  (congrArg State.keys (engineWakeEnded_frame k outcome s) :)
@[simp] theorem engineWakeEnded_recognizer (k : Computer) (outcome : Result) (s : State) : (engineWakeEnded k outcome s).recognizer = s.recognizer :=
  (congrArg State.recognizer (engineWakeEnded_frame k outcome s) :)
@[simp] theorem engineWakeEnded_focusUnit (k : Computer) (outcome : Result) (s : State) : (engineWakeEnded k outcome s).focusUnit = s.focusUnit :=
  (congrArg State.focusUnit (engineWakeEnded_frame k outcome s) :)
@[simp] theorem engineWakeEnded_pointer (k : Computer) (outcome : Result) (s : State) : (engineWakeEnded k outcome s).pointer = s.pointer :=
  (congrArg State.pointer (engineWakeEnded_frame k outcome s) :)
@[simp] theorem engineWakeEnded_video (k : Computer) (outcome : Result) (s : State) : (engineWakeEnded k outcome s).video = s.video :=
  (congrArg State.video (engineWakeEnded_frame k outcome s) :)
@[simp] theorem engineWakeEnded_schedule (k : Computer) (outcome : Result) (s : State) : (engineWakeEnded k outcome s).schedule = s.schedule :=
  (congrArg State.schedule (engineWakeEnded_frame k outcome s) :)
@[simp] theorem engineWakeEnded_journal (k : Computer) (outcome : Result) (s : State) : (engineWakeEnded k outcome s).journal = s.journal :=
  (congrArg State.journal (engineWakeEnded_frame k outcome s) :)
@[simp] theorem engineWakeEnded_image (k : Computer) (outcome : Result) (s : State) : (engineWakeEnded k outcome s).image = s.image :=
  (congrArg State.image (engineWakeEnded_frame k outcome s) :)
@[simp] theorem engineWakeEnded_foreign (k : Computer) (outcome : Result) (s : State) : (engineWakeEnded k outcome s).foreign = s.foreign :=
  (congrArg State.foreign (engineWakeEnded_frame k outcome s) :)
@[simp] theorem engineWakeEnded_mismatches (k : Computer) (outcome : Result) (s : State) : (engineWakeEnded k outcome s).mismatches = s.mismatches :=
  (congrArg State.mismatches (engineWakeEnded_frame k outcome s) :)

/-- All that engineIssuerLost can change. -/
theorem engineIssuerLost_frame (k : Computer) (s : State) :
    engineIssuerLost k s = { s with ports := (engineIssuerLost k s).ports, engine := (engineIssuerLost k s).engine } := by
  apply State.eq_of_fields
  all_goals first
    | with_reducible rfl
    | (unfold engineIssuerLost; (try dsimp only); repeat' split
       all_goals simp)
@[simp] theorem engineIssuerLost_pending (k : Computer) (s : State) : (engineIssuerLost k s).pending = s.pending :=
  (congrArg State.pending (engineIssuerLost_frame k s) :)
@[simp] theorem engineIssuerLost_sent (k : Computer) (s : State) : (engineIssuerLost k s).sent = s.sent :=
  (congrArg State.sent (engineIssuerLost_frame k s) :)
@[simp] theorem engineIssuerLost_freeUses (k : Computer) (s : State) : (engineIssuerLost k s).freeUses = s.freeUses :=
  (congrArg State.freeUses (engineIssuerLost_frame k s) :)
@[simp] theorem engineIssuerLost_clock (k : Computer) (s : State) : (engineIssuerLost k s).clock = s.clock :=
  (congrArg State.clock (engineIssuerLost_frame k s) :)
@[simp] theorem engineIssuerLost_settings (k : Computer) (s : State) : (engineIssuerLost k s).settings = s.settings :=
  (congrArg State.settings (engineIssuerLost_frame k s) :)
@[simp] theorem engineIssuerLost_tables (k : Computer) (s : State) : (engineIssuerLost k s).tables = s.tables :=
  (congrArg State.tables (engineIssuerLost_frame k s) :)
@[simp] theorem engineIssuerLost_console (k : Computer) (s : State) : (engineIssuerLost k s).console = s.console :=
  (congrArg State.console (engineIssuerLost_frame k s) :)
@[simp] theorem engineIssuerLost_keys (k : Computer) (s : State) : (engineIssuerLost k s).keys = s.keys :=
  (congrArg State.keys (engineIssuerLost_frame k s) :)
@[simp] theorem engineIssuerLost_recognizer (k : Computer) (s : State) : (engineIssuerLost k s).recognizer = s.recognizer :=
  (congrArg State.recognizer (engineIssuerLost_frame k s) :)
@[simp] theorem engineIssuerLost_focusUnit (k : Computer) (s : State) : (engineIssuerLost k s).focusUnit = s.focusUnit :=
  (congrArg State.focusUnit (engineIssuerLost_frame k s) :)
@[simp] theorem engineIssuerLost_pointer (k : Computer) (s : State) : (engineIssuerLost k s).pointer = s.pointer :=
  (congrArg State.pointer (engineIssuerLost_frame k s) :)
@[simp] theorem engineIssuerLost_video (k : Computer) (s : State) : (engineIssuerLost k s).video = s.video :=
  (congrArg State.video (engineIssuerLost_frame k s) :)
@[simp] theorem engineIssuerLost_schedule (k : Computer) (s : State) : (engineIssuerLost k s).schedule = s.schedule :=
  (congrArg State.schedule (engineIssuerLost_frame k s) :)
@[simp] theorem engineIssuerLost_journal (k : Computer) (s : State) : (engineIssuerLost k s).journal = s.journal :=
  (congrArg State.journal (engineIssuerLost_frame k s) :)
@[simp] theorem engineIssuerLost_image (k : Computer) (s : State) : (engineIssuerLost k s).image = s.image :=
  (congrArg State.image (engineIssuerLost_frame k s) :)
@[simp] theorem engineIssuerLost_foreign (k : Computer) (s : State) : (engineIssuerLost k s).foreign = s.foreign :=
  (congrArg State.foreign (engineIssuerLost_frame k s) :)
@[simp] theorem engineIssuerLost_mismatches (k : Computer) (s : State) : (engineIssuerLost k s).mismatches = s.mismatches :=
  (congrArg State.mismatches (engineIssuerLost_frame k s) :)

/-- All that warp can change. -/
theorem warp_frame (k : Computer) (s : State) :
    warp k s = { s with pointer := (warp k s).pointer } := by
  apply State.eq_of_fields
  all_goals first
    | with_reducible rfl
    | (unfold warp; split <;> simp)
@[simp] theorem warp_pending (k : Computer) (s : State) : (warp k s).pending = s.pending :=
  (congrArg State.pending (warp_frame k s) :)
@[simp] theorem warp_sent (k : Computer) (s : State) : (warp k s).sent = s.sent :=
  (congrArg State.sent (warp_frame k s) :)
@[simp] theorem warp_freeUses (k : Computer) (s : State) : (warp k s).freeUses = s.freeUses :=
  (congrArg State.freeUses (warp_frame k s) :)
@[simp] theorem warp_clock (k : Computer) (s : State) : (warp k s).clock = s.clock :=
  (congrArg State.clock (warp_frame k s) :)
@[simp] theorem warp_settings (k : Computer) (s : State) : (warp k s).settings = s.settings :=
  (congrArg State.settings (warp_frame k s) :)
@[simp] theorem warp_tables (k : Computer) (s : State) : (warp k s).tables = s.tables :=
  (congrArg State.tables (warp_frame k s) :)
@[simp] theorem warp_console (k : Computer) (s : State) : (warp k s).console = s.console :=
  (congrArg State.console (warp_frame k s) :)
@[simp] theorem warp_keys (k : Computer) (s : State) : (warp k s).keys = s.keys :=
  (congrArg State.keys (warp_frame k s) :)
@[simp] theorem warp_recognizer (k : Computer) (s : State) : (warp k s).recognizer = s.recognizer :=
  (congrArg State.recognizer (warp_frame k s) :)
@[simp] theorem warp_focusUnit (k : Computer) (s : State) : (warp k s).focusUnit = s.focusUnit :=
  (congrArg State.focusUnit (warp_frame k s) :)
@[simp] theorem warp_ports (k : Computer) (s : State) : (warp k s).ports = s.ports :=
  (congrArg State.ports (warp_frame k s) :)
@[simp] theorem warp_video (k : Computer) (s : State) : (warp k s).video = s.video :=
  (congrArg State.video (warp_frame k s) :)
@[simp] theorem warp_schedule (k : Computer) (s : State) : (warp k s).schedule = s.schedule :=
  (congrArg State.schedule (warp_frame k s) :)
@[simp] theorem warp_engine (k : Computer) (s : State) : (warp k s).engine = s.engine :=
  (congrArg State.engine (warp_frame k s) :)
@[simp] theorem warp_journal (k : Computer) (s : State) : (warp k s).journal = s.journal :=
  (congrArg State.journal (warp_frame k s) :)
@[simp] theorem warp_image (k : Computer) (s : State) : (warp k s).image = s.image :=
  (congrArg State.image (warp_frame k s) :)
@[simp] theorem warp_foreign (k : Computer) (s : State) : (warp k s).foreign = s.foreign :=
  (congrArg State.foreign (warp_frame k s) :)
@[simp] theorem warp_mismatches (k : Computer) (s : State) : (warp k s).mismatches = s.mismatches :=
  (congrArg State.mismatches (warp_frame k s) :)

/-- All that carryModifiers can change. -/
theorem carryModifiers_frame (previous : Option Computer) (k : Computer) (s : State) :
    carryModifiers previous k s = { s with keys := (carryModifiers previous k s).keys, ports := (carryModifiers previous k s).ports } := by
  apply State.eq_of_fields
  all_goals first
    | with_reducible rfl
    | (unfold carryModifiers; (try dsimp only); repeat' split
       all_goals simp)
@[simp] theorem carryModifiers_pending (previous : Option Computer) (k : Computer) (s : State) : (carryModifiers previous k s).pending = s.pending :=
  (congrArg State.pending (carryModifiers_frame previous k s) :)
@[simp] theorem carryModifiers_sent (previous : Option Computer) (k : Computer) (s : State) : (carryModifiers previous k s).sent = s.sent :=
  (congrArg State.sent (carryModifiers_frame previous k s) :)
@[simp] theorem carryModifiers_freeUses (previous : Option Computer) (k : Computer) (s : State) : (carryModifiers previous k s).freeUses = s.freeUses :=
  (congrArg State.freeUses (carryModifiers_frame previous k s) :)
@[simp] theorem carryModifiers_clock (previous : Option Computer) (k : Computer) (s : State) : (carryModifiers previous k s).clock = s.clock :=
  (congrArg State.clock (carryModifiers_frame previous k s) :)
@[simp] theorem carryModifiers_settings (previous : Option Computer) (k : Computer) (s : State) : (carryModifiers previous k s).settings = s.settings :=
  (congrArg State.settings (carryModifiers_frame previous k s) :)
@[simp] theorem carryModifiers_tables (previous : Option Computer) (k : Computer) (s : State) : (carryModifiers previous k s).tables = s.tables :=
  (congrArg State.tables (carryModifiers_frame previous k s) :)
@[simp] theorem carryModifiers_console (previous : Option Computer) (k : Computer) (s : State) : (carryModifiers previous k s).console = s.console :=
  (congrArg State.console (carryModifiers_frame previous k s) :)
@[simp] theorem carryModifiers_recognizer (previous : Option Computer) (k : Computer) (s : State) : (carryModifiers previous k s).recognizer = s.recognizer :=
  (congrArg State.recognizer (carryModifiers_frame previous k s) :)
@[simp] theorem carryModifiers_focusUnit (previous : Option Computer) (k : Computer) (s : State) : (carryModifiers previous k s).focusUnit = s.focusUnit :=
  (congrArg State.focusUnit (carryModifiers_frame previous k s) :)
@[simp] theorem carryModifiers_pointer (previous : Option Computer) (k : Computer) (s : State) : (carryModifiers previous k s).pointer = s.pointer :=
  (congrArg State.pointer (carryModifiers_frame previous k s) :)
@[simp] theorem carryModifiers_video (previous : Option Computer) (k : Computer) (s : State) : (carryModifiers previous k s).video = s.video :=
  (congrArg State.video (carryModifiers_frame previous k s) :)
@[simp] theorem carryModifiers_schedule (previous : Option Computer) (k : Computer) (s : State) : (carryModifiers previous k s).schedule = s.schedule :=
  (congrArg State.schedule (carryModifiers_frame previous k s) :)
@[simp] theorem carryModifiers_engine (previous : Option Computer) (k : Computer) (s : State) : (carryModifiers previous k s).engine = s.engine :=
  (congrArg State.engine (carryModifiers_frame previous k s) :)
@[simp] theorem carryModifiers_journal (previous : Option Computer) (k : Computer) (s : State) : (carryModifiers previous k s).journal = s.journal :=
  (congrArg State.journal (carryModifiers_frame previous k s) :)
@[simp] theorem carryModifiers_image (previous : Option Computer) (k : Computer) (s : State) : (carryModifiers previous k s).image = s.image :=
  (congrArg State.image (carryModifiers_frame previous k s) :)
@[simp] theorem carryModifiers_foreign (previous : Option Computer) (k : Computer) (s : State) : (carryModifiers previous k s).foreign = s.foreign :=
  (congrArg State.foreign (carryModifiers_frame previous k s) :)
@[simp] theorem carryModifiers_mismatches (previous : Option Computer) (k : Computer) (s : State) : (carryModifiers previous k s).mismatches = s.mismatches :=
  (congrArg State.mismatches (carryModifiers_frame previous k s) :)

/-- All that placeForFocus can change. -/
theorem placeForFocus_frame (cause : Cause) (k : Computer) (s : State) :
    placeForFocus cause k s = { s with pointer := (placeForFocus cause k s).pointer } := by
  apply State.eq_of_fields
  all_goals first
    | with_reducible rfl
    | (unfold placeForFocus; cases cause <;> simp)
@[simp] theorem placeForFocus_pending (cause : Cause) (k : Computer) (s : State) : (placeForFocus cause k s).pending = s.pending :=
  (congrArg State.pending (placeForFocus_frame cause k s) :)
@[simp] theorem placeForFocus_sent (cause : Cause) (k : Computer) (s : State) : (placeForFocus cause k s).sent = s.sent :=
  (congrArg State.sent (placeForFocus_frame cause k s) :)
@[simp] theorem placeForFocus_freeUses (cause : Cause) (k : Computer) (s : State) : (placeForFocus cause k s).freeUses = s.freeUses :=
  (congrArg State.freeUses (placeForFocus_frame cause k s) :)
@[simp] theorem placeForFocus_clock (cause : Cause) (k : Computer) (s : State) : (placeForFocus cause k s).clock = s.clock :=
  (congrArg State.clock (placeForFocus_frame cause k s) :)
@[simp] theorem placeForFocus_settings (cause : Cause) (k : Computer) (s : State) : (placeForFocus cause k s).settings = s.settings :=
  (congrArg State.settings (placeForFocus_frame cause k s) :)
@[simp] theorem placeForFocus_tables (cause : Cause) (k : Computer) (s : State) : (placeForFocus cause k s).tables = s.tables :=
  (congrArg State.tables (placeForFocus_frame cause k s) :)
@[simp] theorem placeForFocus_console (cause : Cause) (k : Computer) (s : State) : (placeForFocus cause k s).console = s.console :=
  (congrArg State.console (placeForFocus_frame cause k s) :)
@[simp] theorem placeForFocus_keys (cause : Cause) (k : Computer) (s : State) : (placeForFocus cause k s).keys = s.keys :=
  (congrArg State.keys (placeForFocus_frame cause k s) :)
@[simp] theorem placeForFocus_recognizer (cause : Cause) (k : Computer) (s : State) : (placeForFocus cause k s).recognizer = s.recognizer :=
  (congrArg State.recognizer (placeForFocus_frame cause k s) :)
@[simp] theorem placeForFocus_focusUnit (cause : Cause) (k : Computer) (s : State) : (placeForFocus cause k s).focusUnit = s.focusUnit :=
  (congrArg State.focusUnit (placeForFocus_frame cause k s) :)
@[simp] theorem placeForFocus_ports (cause : Cause) (k : Computer) (s : State) : (placeForFocus cause k s).ports = s.ports :=
  (congrArg State.ports (placeForFocus_frame cause k s) :)
@[simp] theorem placeForFocus_video (cause : Cause) (k : Computer) (s : State) : (placeForFocus cause k s).video = s.video :=
  (congrArg State.video (placeForFocus_frame cause k s) :)
@[simp] theorem placeForFocus_schedule (cause : Cause) (k : Computer) (s : State) : (placeForFocus cause k s).schedule = s.schedule :=
  (congrArg State.schedule (placeForFocus_frame cause k s) :)
@[simp] theorem placeForFocus_engine (cause : Cause) (k : Computer) (s : State) : (placeForFocus cause k s).engine = s.engine :=
  (congrArg State.engine (placeForFocus_frame cause k s) :)
@[simp] theorem placeForFocus_journal (cause : Cause) (k : Computer) (s : State) : (placeForFocus cause k s).journal = s.journal :=
  (congrArg State.journal (placeForFocus_frame cause k s) :)
@[simp] theorem placeForFocus_image (cause : Cause) (k : Computer) (s : State) : (placeForFocus cause k s).image = s.image :=
  (congrArg State.image (placeForFocus_frame cause k s) :)
@[simp] theorem placeForFocus_foreign (cause : Cause) (k : Computer) (s : State) : (placeForFocus cause k s).foreign = s.foreign :=
  (congrArg State.foreign (placeForFocus_frame cause k s) :)
@[simp] theorem placeForFocus_mismatches (cause : Cause) (k : Computer) (s : State) : (placeForFocus cause k s).mismatches = s.mismatches :=
  (congrArg State.mismatches (placeForFocus_frame cause k s) :)

/-- All that focusChange can change. -/
theorem focusChange_frame (k : Computer) (cause : Cause) (s : State) :
    focusChange k cause s = { s with sent := (focusChange k cause s).sent, console := (focusChange k cause s).console, keys := (focusChange k cause s).keys, focusUnit := (focusChange k cause s).focusUnit, pointer := (focusChange k cause s).pointer, ports := (focusChange k cause s).ports, journal := (focusChange k cause s).journal } := by
  apply State.eq_of_fields
  all_goals first
    | with_reducible rfl
    | (unfold focusChange; simp)
@[simp] theorem focusChange_pending (k : Computer) (cause : Cause) (s : State) : (focusChange k cause s).pending = s.pending :=
  (congrArg State.pending (focusChange_frame k cause s) :)
@[simp] theorem focusChange_freeUses (k : Computer) (cause : Cause) (s : State) : (focusChange k cause s).freeUses = s.freeUses :=
  (congrArg State.freeUses (focusChange_frame k cause s) :)
@[simp] theorem focusChange_clock (k : Computer) (cause : Cause) (s : State) : (focusChange k cause s).clock = s.clock :=
  (congrArg State.clock (focusChange_frame k cause s) :)
@[simp] theorem focusChange_settings (k : Computer) (cause : Cause) (s : State) : (focusChange k cause s).settings = s.settings :=
  (congrArg State.settings (focusChange_frame k cause s) :)
@[simp] theorem focusChange_tables (k : Computer) (cause : Cause) (s : State) : (focusChange k cause s).tables = s.tables :=
  (congrArg State.tables (focusChange_frame k cause s) :)
@[simp] theorem focusChange_recognizer (k : Computer) (cause : Cause) (s : State) : (focusChange k cause s).recognizer = s.recognizer :=
  (congrArg State.recognizer (focusChange_frame k cause s) :)
@[simp] theorem focusChange_video (k : Computer) (cause : Cause) (s : State) : (focusChange k cause s).video = s.video :=
  (congrArg State.video (focusChange_frame k cause s) :)
@[simp] theorem focusChange_schedule (k : Computer) (cause : Cause) (s : State) : (focusChange k cause s).schedule = s.schedule :=
  (congrArg State.schedule (focusChange_frame k cause s) :)
@[simp] theorem focusChange_engine (k : Computer) (cause : Cause) (s : State) : (focusChange k cause s).engine = s.engine :=
  (congrArg State.engine (focusChange_frame k cause s) :)
@[simp] theorem focusChange_image (k : Computer) (cause : Cause) (s : State) : (focusChange k cause s).image = s.image :=
  (congrArg State.image (focusChange_frame k cause s) :)
@[simp] theorem focusChange_foreign (k : Computer) (cause : Cause) (s : State) : (focusChange k cause s).foreign = s.foreign :=
  (congrArg State.foreign (focusChange_frame k cause s) :)
@[simp] theorem focusChange_mismatches (k : Computer) (cause : Cause) (s : State) : (focusChange k cause s).mismatches = s.mismatches :=
  (congrArg State.mismatches (focusChange_frame k cause s) :)

/-- All that relocateTo can change. -/
theorem relocateTo_frame (sc : Screen) (s : State) :
    relocateTo sc s = { s with sent := (relocateTo sc s).sent, console := (relocateTo sc s).console, keys := (relocateTo sc s).keys, focusUnit := (relocateTo sc s).focusUnit, pointer := (relocateTo sc s).pointer, ports := (relocateTo sc s).ports, journal := (relocateTo sc s).journal } := by
  apply State.eq_of_fields
  all_goals first
    | with_reducible rfl
    | (unfold relocateTo; split <;> simp)
@[simp] theorem relocateTo_pending (sc : Screen) (s : State) : (relocateTo sc s).pending = s.pending :=
  (congrArg State.pending (relocateTo_frame sc s) :)
@[simp] theorem relocateTo_freeUses (sc : Screen) (s : State) : (relocateTo sc s).freeUses = s.freeUses :=
  (congrArg State.freeUses (relocateTo_frame sc s) :)
@[simp] theorem relocateTo_clock (sc : Screen) (s : State) : (relocateTo sc s).clock = s.clock :=
  (congrArg State.clock (relocateTo_frame sc s) :)
@[simp] theorem relocateTo_settings (sc : Screen) (s : State) : (relocateTo sc s).settings = s.settings :=
  (congrArg State.settings (relocateTo_frame sc s) :)
@[simp] theorem relocateTo_tables (sc : Screen) (s : State) : (relocateTo sc s).tables = s.tables :=
  (congrArg State.tables (relocateTo_frame sc s) :)
@[simp] theorem relocateTo_recognizer (sc : Screen) (s : State) : (relocateTo sc s).recognizer = s.recognizer :=
  (congrArg State.recognizer (relocateTo_frame sc s) :)
@[simp] theorem relocateTo_video (sc : Screen) (s : State) : (relocateTo sc s).video = s.video :=
  (congrArg State.video (relocateTo_frame sc s) :)
@[simp] theorem relocateTo_schedule (sc : Screen) (s : State) : (relocateTo sc s).schedule = s.schedule :=
  (congrArg State.schedule (relocateTo_frame sc s) :)
@[simp] theorem relocateTo_engine (sc : Screen) (s : State) : (relocateTo sc s).engine = s.engine :=
  (congrArg State.engine (relocateTo_frame sc s) :)
@[simp] theorem relocateTo_image (sc : Screen) (s : State) : (relocateTo sc s).image = s.image :=
  (congrArg State.image (relocateTo_frame sc s) :)
@[simp] theorem relocateTo_foreign (sc : Screen) (s : State) : (relocateTo sc s).foreign = s.foreign :=
  (congrArg State.foreign (relocateTo_frame sc s) :)
@[simp] theorem relocateTo_mismatches (sc : Screen) (s : State) : (relocateTo sc s).mismatches = s.mismatches :=
  (congrArg State.mismatches (relocateTo_frame sc s) :)

/-- All that relocate can change. -/
theorem relocate_frame (s : State) :
    relocate s = { s with sent := (relocate s).sent, console := (relocate s).console, keys := (relocate s).keys, focusUnit := (relocate s).focusUnit, pointer := (relocate s).pointer, ports := (relocate s).ports, journal := (relocate s).journal } := by
  apply State.eq_of_fields
  all_goals first
    | with_reducible rfl
    | (unfold relocate; (try dsimp only); repeat' split
       all_goals simp)
@[simp] theorem relocate_pending (s : State) : (relocate s).pending = s.pending :=
  (congrArg State.pending (relocate_frame s) :)
@[simp] theorem relocate_freeUses (s : State) : (relocate s).freeUses = s.freeUses :=
  (congrArg State.freeUses (relocate_frame s) :)
@[simp] theorem relocate_clock (s : State) : (relocate s).clock = s.clock :=
  (congrArg State.clock (relocate_frame s) :)
@[simp] theorem relocate_settings (s : State) : (relocate s).settings = s.settings :=
  (congrArg State.settings (relocate_frame s) :)
@[simp] theorem relocate_tables (s : State) : (relocate s).tables = s.tables :=
  (congrArg State.tables (relocate_frame s) :)
@[simp] theorem relocate_recognizer (s : State) : (relocate s).recognizer = s.recognizer :=
  (congrArg State.recognizer (relocate_frame s) :)
@[simp] theorem relocate_video (s : State) : (relocate s).video = s.video :=
  (congrArg State.video (relocate_frame s) :)
@[simp] theorem relocate_schedule (s : State) : (relocate s).schedule = s.schedule :=
  (congrArg State.schedule (relocate_frame s) :)
@[simp] theorem relocate_engine (s : State) : (relocate s).engine = s.engine :=
  (congrArg State.engine (relocate_frame s) :)
@[simp] theorem relocate_image (s : State) : (relocate s).image = s.image :=
  (congrArg State.image (relocate_frame s) :)
@[simp] theorem relocate_foreign (s : State) : (relocate s).foreign = s.foreign :=
  (congrArg State.foreign (relocate_frame s) :)
@[simp] theorem relocate_mismatches (s : State) : (relocate s).mismatches = s.mismatches :=
  (congrArg State.mismatches (relocate_frame s) :)

/-- All that recheckPointer can change. -/
theorem recheckPointer_frame (concerned : Screen → Bool) (s : State) :
    recheckPointer concerned s = { s with sent := (recheckPointer concerned s).sent, console := (recheckPointer concerned s).console, keys := (recheckPointer concerned s).keys, focusUnit := (recheckPointer concerned s).focusUnit, pointer := (recheckPointer concerned s).pointer, ports := (recheckPointer concerned s).ports, journal := (recheckPointer concerned s).journal } := by
  apply State.eq_of_fields
  all_goals first
    | with_reducible rfl
    | (unfold recheckPointer; (try dsimp only); repeat' split
       all_goals simp)
@[simp] theorem recheckPointer_pending (concerned : Screen → Bool) (s : State) : (recheckPointer concerned s).pending = s.pending :=
  (congrArg State.pending (recheckPointer_frame concerned s) :)
@[simp] theorem recheckPointer_freeUses (concerned : Screen → Bool) (s : State) : (recheckPointer concerned s).freeUses = s.freeUses :=
  (congrArg State.freeUses (recheckPointer_frame concerned s) :)
@[simp] theorem recheckPointer_clock (concerned : Screen → Bool) (s : State) : (recheckPointer concerned s).clock = s.clock :=
  (congrArg State.clock (recheckPointer_frame concerned s) :)
@[simp] theorem recheckPointer_settings (concerned : Screen → Bool) (s : State) : (recheckPointer concerned s).settings = s.settings :=
  (congrArg State.settings (recheckPointer_frame concerned s) :)
@[simp] theorem recheckPointer_tables (concerned : Screen → Bool) (s : State) : (recheckPointer concerned s).tables = s.tables :=
  (congrArg State.tables (recheckPointer_frame concerned s) :)
@[simp] theorem recheckPointer_recognizer (concerned : Screen → Bool) (s : State) : (recheckPointer concerned s).recognizer = s.recognizer :=
  (congrArg State.recognizer (recheckPointer_frame concerned s) :)
@[simp] theorem recheckPointer_video (concerned : Screen → Bool) (s : State) : (recheckPointer concerned s).video = s.video :=
  (congrArg State.video (recheckPointer_frame concerned s) :)
@[simp] theorem recheckPointer_schedule (concerned : Screen → Bool) (s : State) : (recheckPointer concerned s).schedule = s.schedule :=
  (congrArg State.schedule (recheckPointer_frame concerned s) :)
@[simp] theorem recheckPointer_engine (concerned : Screen → Bool) (s : State) : (recheckPointer concerned s).engine = s.engine :=
  (congrArg State.engine (recheckPointer_frame concerned s) :)
@[simp] theorem recheckPointer_image (concerned : Screen → Bool) (s : State) : (recheckPointer concerned s).image = s.image :=
  (congrArg State.image (recheckPointer_frame concerned s) :)
@[simp] theorem recheckPointer_foreign (concerned : Screen → Bool) (s : State) : (recheckPointer concerned s).foreign = s.foreign :=
  (congrArg State.foreign (recheckPointer_frame concerned s) :)
@[simp] theorem recheckPointer_mismatches (concerned : Screen → Bool) (s : State) : (recheckPointer concerned s).mismatches = s.mismatches :=
  (congrArg State.mismatches (recheckPointer_frame concerned s) :)

/-- All that doFocus can change. -/
theorem doFocus_frame (k : Computer) (cause : Cause) (s : State) :
    doFocus k cause s = { s with sent := (doFocus k cause s).sent, console := (doFocus k cause s).console, keys := (doFocus k cause s).keys, focusUnit := (doFocus k cause s).focusUnit, pointer := (doFocus k cause s).pointer, ports := (doFocus k cause s).ports, journal := (doFocus k cause s).journal } := by
  apply State.eq_of_fields
  all_goals first
    | with_reducible rfl
    | (unfold doFocus; split <;> simp)
@[simp] theorem doFocus_pending (k : Computer) (cause : Cause) (s : State) : (doFocus k cause s).pending = s.pending :=
  (congrArg State.pending (doFocus_frame k cause s) :)
@[simp] theorem doFocus_freeUses (k : Computer) (cause : Cause) (s : State) : (doFocus k cause s).freeUses = s.freeUses :=
  (congrArg State.freeUses (doFocus_frame k cause s) :)
@[simp] theorem doFocus_clock (k : Computer) (cause : Cause) (s : State) : (doFocus k cause s).clock = s.clock :=
  (congrArg State.clock (doFocus_frame k cause s) :)
@[simp] theorem doFocus_settings (k : Computer) (cause : Cause) (s : State) : (doFocus k cause s).settings = s.settings :=
  (congrArg State.settings (doFocus_frame k cause s) :)
@[simp] theorem doFocus_tables (k : Computer) (cause : Cause) (s : State) : (doFocus k cause s).tables = s.tables :=
  (congrArg State.tables (doFocus_frame k cause s) :)
@[simp] theorem doFocus_recognizer (k : Computer) (cause : Cause) (s : State) : (doFocus k cause s).recognizer = s.recognizer :=
  (congrArg State.recognizer (doFocus_frame k cause s) :)
@[simp] theorem doFocus_video (k : Computer) (cause : Cause) (s : State) : (doFocus k cause s).video = s.video :=
  (congrArg State.video (doFocus_frame k cause s) :)
@[simp] theorem doFocus_schedule (k : Computer) (cause : Cause) (s : State) : (doFocus k cause s).schedule = s.schedule :=
  (congrArg State.schedule (doFocus_frame k cause s) :)
@[simp] theorem doFocus_engine (k : Computer) (cause : Cause) (s : State) : (doFocus k cause s).engine = s.engine :=
  (congrArg State.engine (doFocus_frame k cause s) :)
@[simp] theorem doFocus_image (k : Computer) (cause : Cause) (s : State) : (doFocus k cause s).image = s.image :=
  (congrArg State.image (doFocus_frame k cause s) :)
@[simp] theorem doFocus_foreign (k : Computer) (cause : Cause) (s : State) : (doFocus k cause s).foreign = s.foreign :=
  (congrArg State.foreign (doFocus_frame k cause s) :)
@[simp] theorem doFocus_mismatches (k : Computer) (cause : Cause) (s : State) : (doFocus k cause s).mismatches = s.mismatches :=
  (congrArg State.mismatches (doFocus_frame k cause s) :)

/-- All that doCycle can change. -/
theorem doCycle_frame (cause : Cause) (s : State) :
    doCycle cause s = { s with sent := (doCycle cause s).sent, console := (doCycle cause s).console, keys := (doCycle cause s).keys, focusUnit := (doCycle cause s).focusUnit, pointer := (doCycle cause s).pointer, ports := (doCycle cause s).ports, journal := (doCycle cause s).journal } := by
  apply State.eq_of_fields
  all_goals first
    | with_reducible rfl
    | (unfold doCycle; split <;> simp)
@[simp] theorem doCycle_pending (cause : Cause) (s : State) : (doCycle cause s).pending = s.pending :=
  (congrArg State.pending (doCycle_frame cause s) :)
@[simp] theorem doCycle_freeUses (cause : Cause) (s : State) : (doCycle cause s).freeUses = s.freeUses :=
  (congrArg State.freeUses (doCycle_frame cause s) :)
@[simp] theorem doCycle_clock (cause : Cause) (s : State) : (doCycle cause s).clock = s.clock :=
  (congrArg State.clock (doCycle_frame cause s) :)
@[simp] theorem doCycle_settings (cause : Cause) (s : State) : (doCycle cause s).settings = s.settings :=
  (congrArg State.settings (doCycle_frame cause s) :)
@[simp] theorem doCycle_tables (cause : Cause) (s : State) : (doCycle cause s).tables = s.tables :=
  (congrArg State.tables (doCycle_frame cause s) :)
@[simp] theorem doCycle_recognizer (cause : Cause) (s : State) : (doCycle cause s).recognizer = s.recognizer :=
  (congrArg State.recognizer (doCycle_frame cause s) :)
@[simp] theorem doCycle_video (cause : Cause) (s : State) : (doCycle cause s).video = s.video :=
  (congrArg State.video (doCycle_frame cause s) :)
@[simp] theorem doCycle_schedule (cause : Cause) (s : State) : (doCycle cause s).schedule = s.schedule :=
  (congrArg State.schedule (doCycle_frame cause s) :)
@[simp] theorem doCycle_engine (cause : Cause) (s : State) : (doCycle cause s).engine = s.engine :=
  (congrArg State.engine (doCycle_frame cause s) :)
@[simp] theorem doCycle_image (cause : Cause) (s : State) : (doCycle cause s).image = s.image :=
  (congrArg State.image (doCycle_frame cause s) :)
@[simp] theorem doCycle_foreign (cause : Cause) (s : State) : (doCycle cause s).foreign = s.foreign :=
  (congrArg State.foreign (doCycle_frame cause s) :)
@[simp] theorem doCycle_mismatches (cause : Cause) (s : State) : (doCycle cause s).mismatches = s.mismatches :=
  (congrArg State.mismatches (doCycle_frame cause s) :)

/-- All that doToggle can change. -/
theorem doToggle_frame (k : Computer) (s : State) :
    doToggle k s = { s with focusUnit := (doToggle k s).focusUnit } := by
  apply State.eq_of_fields
  all_goals first
    | with_reducible rfl
    | (unfold doToggle; (try dsimp only); repeat' split
       all_goals simp)
@[simp] theorem doToggle_pending (k : Computer) (s : State) : (doToggle k s).pending = s.pending :=
  (congrArg State.pending (doToggle_frame k s) :)
@[simp] theorem doToggle_sent (k : Computer) (s : State) : (doToggle k s).sent = s.sent :=
  (congrArg State.sent (doToggle_frame k s) :)
@[simp] theorem doToggle_freeUses (k : Computer) (s : State) : (doToggle k s).freeUses = s.freeUses :=
  (congrArg State.freeUses (doToggle_frame k s) :)
@[simp] theorem doToggle_clock (k : Computer) (s : State) : (doToggle k s).clock = s.clock :=
  (congrArg State.clock (doToggle_frame k s) :)
@[simp] theorem doToggle_settings (k : Computer) (s : State) : (doToggle k s).settings = s.settings :=
  (congrArg State.settings (doToggle_frame k s) :)
@[simp] theorem doToggle_tables (k : Computer) (s : State) : (doToggle k s).tables = s.tables :=
  (congrArg State.tables (doToggle_frame k s) :)
@[simp] theorem doToggle_console (k : Computer) (s : State) : (doToggle k s).console = s.console :=
  (congrArg State.console (doToggle_frame k s) :)
@[simp] theorem doToggle_keys (k : Computer) (s : State) : (doToggle k s).keys = s.keys :=
  (congrArg State.keys (doToggle_frame k s) :)
@[simp] theorem doToggle_recognizer (k : Computer) (s : State) : (doToggle k s).recognizer = s.recognizer :=
  (congrArg State.recognizer (doToggle_frame k s) :)
@[simp] theorem doToggle_pointer (k : Computer) (s : State) : (doToggle k s).pointer = s.pointer :=
  (congrArg State.pointer (doToggle_frame k s) :)
@[simp] theorem doToggle_ports (k : Computer) (s : State) : (doToggle k s).ports = s.ports :=
  (congrArg State.ports (doToggle_frame k s) :)
@[simp] theorem doToggle_video (k : Computer) (s : State) : (doToggle k s).video = s.video :=
  (congrArg State.video (doToggle_frame k s) :)
@[simp] theorem doToggle_schedule (k : Computer) (s : State) : (doToggle k s).schedule = s.schedule :=
  (congrArg State.schedule (doToggle_frame k s) :)
@[simp] theorem doToggle_engine (k : Computer) (s : State) : (doToggle k s).engine = s.engine :=
  (congrArg State.engine (doToggle_frame k s) :)
@[simp] theorem doToggle_journal (k : Computer) (s : State) : (doToggle k s).journal = s.journal :=
  (congrArg State.journal (doToggle_frame k s) :)
@[simp] theorem doToggle_image (k : Computer) (s : State) : (doToggle k s).image = s.image :=
  (congrArg State.image (doToggle_frame k s) :)
@[simp] theorem doToggle_foreign (k : Computer) (s : State) : (doToggle k s).foreign = s.foreign :=
  (congrArg State.foreign (doToggle_frame k s) :)
@[simp] theorem doToggle_mismatches (k : Computer) (s : State) : (doToggle k s).mismatches = s.mismatches :=
  (congrArg State.mismatches (doToggle_frame k s) :)

/-- All that emptyOwners can change. -/
theorem emptyOwners_frame (s : State) :
    emptyOwners s = { s with keys := (emptyOwners s).keys, ports := (emptyOwners s).ports } := by
  apply State.eq_of_fields
  all_goals first
    | with_reducible rfl
    | (unfold emptyOwners; simp)
@[simp] theorem emptyOwners_pending (s : State) : (emptyOwners s).pending = s.pending :=
  (congrArg State.pending (emptyOwners_frame s) :)
@[simp] theorem emptyOwners_sent (s : State) : (emptyOwners s).sent = s.sent :=
  (congrArg State.sent (emptyOwners_frame s) :)
@[simp] theorem emptyOwners_freeUses (s : State) : (emptyOwners s).freeUses = s.freeUses :=
  (congrArg State.freeUses (emptyOwners_frame s) :)
@[simp] theorem emptyOwners_clock (s : State) : (emptyOwners s).clock = s.clock :=
  (congrArg State.clock (emptyOwners_frame s) :)
@[simp] theorem emptyOwners_settings (s : State) : (emptyOwners s).settings = s.settings :=
  (congrArg State.settings (emptyOwners_frame s) :)
@[simp] theorem emptyOwners_tables (s : State) : (emptyOwners s).tables = s.tables :=
  (congrArg State.tables (emptyOwners_frame s) :)
@[simp] theorem emptyOwners_console (s : State) : (emptyOwners s).console = s.console :=
  (congrArg State.console (emptyOwners_frame s) :)
@[simp] theorem emptyOwners_recognizer (s : State) : (emptyOwners s).recognizer = s.recognizer :=
  (congrArg State.recognizer (emptyOwners_frame s) :)
@[simp] theorem emptyOwners_focusUnit (s : State) : (emptyOwners s).focusUnit = s.focusUnit :=
  (congrArg State.focusUnit (emptyOwners_frame s) :)
@[simp] theorem emptyOwners_pointer (s : State) : (emptyOwners s).pointer = s.pointer :=
  (congrArg State.pointer (emptyOwners_frame s) :)
@[simp] theorem emptyOwners_video (s : State) : (emptyOwners s).video = s.video :=
  (congrArg State.video (emptyOwners_frame s) :)
@[simp] theorem emptyOwners_schedule (s : State) : (emptyOwners s).schedule = s.schedule :=
  (congrArg State.schedule (emptyOwners_frame s) :)
@[simp] theorem emptyOwners_engine (s : State) : (emptyOwners s).engine = s.engine :=
  (congrArg State.engine (emptyOwners_frame s) :)
@[simp] theorem emptyOwners_journal (s : State) : (emptyOwners s).journal = s.journal :=
  (congrArg State.journal (emptyOwners_frame s) :)
@[simp] theorem emptyOwners_image (s : State) : (emptyOwners s).image = s.image :=
  (congrArg State.image (emptyOwners_frame s) :)
@[simp] theorem emptyOwners_foreign (s : State) : (emptyOwners s).foreign = s.foreign :=
  (congrArg State.foreign (emptyOwners_frame s) :)
@[simp] theorem emptyOwners_mismatches (s : State) : (emptyOwners s).mismatches = s.mismatches :=
  (congrArg State.mismatches (emptyOwners_frame s) :)

/-- All that doLock can change. -/
theorem doLock_frame (s : State) :
    doLock s = { s with keys := (doLock s).keys, ports := (doLock s).ports, focusUnit := (doLock s).focusUnit, pointer := (doLock s).pointer, journal := (doLock s).journal } := by
  apply State.eq_of_fields
  all_goals first
    | with_reducible rfl
    | (unfold doLock; split <;> simp)
@[simp] theorem doLock_pending (s : State) : (doLock s).pending = s.pending :=
  (congrArg State.pending (doLock_frame s) :)
@[simp] theorem doLock_sent (s : State) : (doLock s).sent = s.sent :=
  (congrArg State.sent (doLock_frame s) :)
@[simp] theorem doLock_freeUses (s : State) : (doLock s).freeUses = s.freeUses :=
  (congrArg State.freeUses (doLock_frame s) :)
@[simp] theorem doLock_clock (s : State) : (doLock s).clock = s.clock :=
  (congrArg State.clock (doLock_frame s) :)
@[simp] theorem doLock_settings (s : State) : (doLock s).settings = s.settings :=
  (congrArg State.settings (doLock_frame s) :)
@[simp] theorem doLock_tables (s : State) : (doLock s).tables = s.tables :=
  (congrArg State.tables (doLock_frame s) :)
@[simp] theorem doLock_console (s : State) : (doLock s).console = s.console :=
  (congrArg State.console (doLock_frame s) :)
@[simp] theorem doLock_recognizer (s : State) : (doLock s).recognizer = s.recognizer :=
  (congrArg State.recognizer (doLock_frame s) :)
@[simp] theorem doLock_video (s : State) : (doLock s).video = s.video :=
  (congrArg State.video (doLock_frame s) :)
@[simp] theorem doLock_schedule (s : State) : (doLock s).schedule = s.schedule :=
  (congrArg State.schedule (doLock_frame s) :)
@[simp] theorem doLock_engine (s : State) : (doLock s).engine = s.engine :=
  (congrArg State.engine (doLock_frame s) :)
@[simp] theorem doLock_image (s : State) : (doLock s).image = s.image :=
  (congrArg State.image (doLock_frame s) :)
@[simp] theorem doLock_foreign (s : State) : (doLock s).foreign = s.foreign :=
  (congrArg State.foreign (doLock_frame s) :)
@[simp] theorem doLock_mismatches (s : State) : (doLock s).mismatches = s.mismatches :=
  (congrArg State.mismatches (doLock_frame s) :)

/-- All that doUnlock can change. -/
theorem doUnlock_frame (s : State) :
    doUnlock s = { s with focusUnit := (doUnlock s).focusUnit, journal := (doUnlock s).journal } := by
  apply State.eq_of_fields
  all_goals first
    | with_reducible rfl
    | (unfold doUnlock; split <;> simp)
@[simp] theorem doUnlock_pending (s : State) : (doUnlock s).pending = s.pending :=
  (congrArg State.pending (doUnlock_frame s) :)
@[simp] theorem doUnlock_sent (s : State) : (doUnlock s).sent = s.sent :=
  (congrArg State.sent (doUnlock_frame s) :)
@[simp] theorem doUnlock_freeUses (s : State) : (doUnlock s).freeUses = s.freeUses :=
  (congrArg State.freeUses (doUnlock_frame s) :)
@[simp] theorem doUnlock_clock (s : State) : (doUnlock s).clock = s.clock :=
  (congrArg State.clock (doUnlock_frame s) :)
@[simp] theorem doUnlock_settings (s : State) : (doUnlock s).settings = s.settings :=
  (congrArg State.settings (doUnlock_frame s) :)
@[simp] theorem doUnlock_tables (s : State) : (doUnlock s).tables = s.tables :=
  (congrArg State.tables (doUnlock_frame s) :)
@[simp] theorem doUnlock_console (s : State) : (doUnlock s).console = s.console :=
  (congrArg State.console (doUnlock_frame s) :)
@[simp] theorem doUnlock_keys (s : State) : (doUnlock s).keys = s.keys :=
  (congrArg State.keys (doUnlock_frame s) :)
@[simp] theorem doUnlock_recognizer (s : State) : (doUnlock s).recognizer = s.recognizer :=
  (congrArg State.recognizer (doUnlock_frame s) :)
@[simp] theorem doUnlock_pointer (s : State) : (doUnlock s).pointer = s.pointer :=
  (congrArg State.pointer (doUnlock_frame s) :)
@[simp] theorem doUnlock_ports (s : State) : (doUnlock s).ports = s.ports :=
  (congrArg State.ports (doUnlock_frame s) :)
@[simp] theorem doUnlock_video (s : State) : (doUnlock s).video = s.video :=
  (congrArg State.video (doUnlock_frame s) :)
@[simp] theorem doUnlock_schedule (s : State) : (doUnlock s).schedule = s.schedule :=
  (congrArg State.schedule (doUnlock_frame s) :)
@[simp] theorem doUnlock_engine (s : State) : (doUnlock s).engine = s.engine :=
  (congrArg State.engine (doUnlock_frame s) :)
@[simp] theorem doUnlock_image (s : State) : (doUnlock s).image = s.image :=
  (congrArg State.image (doUnlock_frame s) :)
@[simp] theorem doUnlock_foreign (s : State) : (doUnlock s).foreign = s.foreign :=
  (congrArg State.foreign (doUnlock_frame s) :)
@[simp] theorem doUnlock_mismatches (s : State) : (doUnlock s).mismatches = s.mismatches :=
  (congrArg State.mismatches (doUnlock_frame s) :)

/-- All that doHoldToggle can change. -/
theorem doHoldToggle_frame (s : State) :
    doHoldToggle s = { s with tables := (doHoldToggle s).tables } := by
  apply State.eq_of_fields
  all_goals first
    | with_reducible rfl
    | (unfold doHoldToggle; simp)
@[simp] theorem doHoldToggle_pending (s : State) : (doHoldToggle s).pending = s.pending :=
  (congrArg State.pending (doHoldToggle_frame s) :)
@[simp] theorem doHoldToggle_sent (s : State) : (doHoldToggle s).sent = s.sent :=
  (congrArg State.sent (doHoldToggle_frame s) :)
@[simp] theorem doHoldToggle_freeUses (s : State) : (doHoldToggle s).freeUses = s.freeUses :=
  (congrArg State.freeUses (doHoldToggle_frame s) :)
@[simp] theorem doHoldToggle_clock (s : State) : (doHoldToggle s).clock = s.clock :=
  (congrArg State.clock (doHoldToggle_frame s) :)
@[simp] theorem doHoldToggle_settings (s : State) : (doHoldToggle s).settings = s.settings :=
  (congrArg State.settings (doHoldToggle_frame s) :)
@[simp] theorem doHoldToggle_console (s : State) : (doHoldToggle s).console = s.console :=
  (congrArg State.console (doHoldToggle_frame s) :)
@[simp] theorem doHoldToggle_keys (s : State) : (doHoldToggle s).keys = s.keys :=
  (congrArg State.keys (doHoldToggle_frame s) :)
@[simp] theorem doHoldToggle_recognizer (s : State) : (doHoldToggle s).recognizer = s.recognizer :=
  (congrArg State.recognizer (doHoldToggle_frame s) :)
@[simp] theorem doHoldToggle_focusUnit (s : State) : (doHoldToggle s).focusUnit = s.focusUnit :=
  (congrArg State.focusUnit (doHoldToggle_frame s) :)
@[simp] theorem doHoldToggle_pointer (s : State) : (doHoldToggle s).pointer = s.pointer :=
  (congrArg State.pointer (doHoldToggle_frame s) :)
@[simp] theorem doHoldToggle_ports (s : State) : (doHoldToggle s).ports = s.ports :=
  (congrArg State.ports (doHoldToggle_frame s) :)
@[simp] theorem doHoldToggle_video (s : State) : (doHoldToggle s).video = s.video :=
  (congrArg State.video (doHoldToggle_frame s) :)
@[simp] theorem doHoldToggle_schedule (s : State) : (doHoldToggle s).schedule = s.schedule :=
  (congrArg State.schedule (doHoldToggle_frame s) :)
@[simp] theorem doHoldToggle_engine (s : State) : (doHoldToggle s).engine = s.engine :=
  (congrArg State.engine (doHoldToggle_frame s) :)
@[simp] theorem doHoldToggle_journal (s : State) : (doHoldToggle s).journal = s.journal :=
  (congrArg State.journal (doHoldToggle_frame s) :)
@[simp] theorem doHoldToggle_image (s : State) : (doHoldToggle s).image = s.image :=
  (congrArg State.image (doHoldToggle_frame s) :)
@[simp] theorem doHoldToggle_foreign (s : State) : (doHoldToggle s).foreign = s.foreign :=
  (congrArg State.foreign (doHoldToggle_frame s) :)
@[simp] theorem doHoldToggle_mismatches (s : State) : (doHoldToggle s).mismatches = s.mismatches :=
  (congrArg State.mismatches (doHoldToggle_frame s) :)

/-- All that placementStep can change. -/
theorem placementStep_frame (s : State) :
    placementStep s = { s with sent := (placementStep s).sent, console := (placementStep s).console, keys := (placementStep s).keys, focusUnit := (placementStep s).focusUnit, pointer := (placementStep s).pointer, ports := (placementStep s).ports, journal := (placementStep s).journal } := by
  apply State.eq_of_fields
  all_goals first
    | with_reducible rfl
    | (unfold placementStep; (try dsimp only); repeat' split
       all_goals simp)
@[simp] theorem placementStep_pending (s : State) : (placementStep s).pending = s.pending :=
  (congrArg State.pending (placementStep_frame s) :)
@[simp] theorem placementStep_freeUses (s : State) : (placementStep s).freeUses = s.freeUses :=
  (congrArg State.freeUses (placementStep_frame s) :)
@[simp] theorem placementStep_clock (s : State) : (placementStep s).clock = s.clock :=
  (congrArg State.clock (placementStep_frame s) :)
@[simp] theorem placementStep_settings (s : State) : (placementStep s).settings = s.settings :=
  (congrArg State.settings (placementStep_frame s) :)
@[simp] theorem placementStep_tables (s : State) : (placementStep s).tables = s.tables :=
  (congrArg State.tables (placementStep_frame s) :)
@[simp] theorem placementStep_recognizer (s : State) : (placementStep s).recognizer = s.recognizer :=
  (congrArg State.recognizer (placementStep_frame s) :)
@[simp] theorem placementStep_video (s : State) : (placementStep s).video = s.video :=
  (congrArg State.video (placementStep_frame s) :)
@[simp] theorem placementStep_schedule (s : State) : (placementStep s).schedule = s.schedule :=
  (congrArg State.schedule (placementStep_frame s) :)
@[simp] theorem placementStep_engine (s : State) : (placementStep s).engine = s.engine :=
  (congrArg State.engine (placementStep_frame s) :)
@[simp] theorem placementStep_image (s : State) : (placementStep s).image = s.image :=
  (congrArg State.image (placementStep_frame s) :)
@[simp] theorem placementStep_foreign (s : State) : (placementStep s).foreign = s.foreign :=
  (congrArg State.foreign (placementStep_frame s) :)
@[simp] theorem placementStep_mismatches (s : State) : (placementStep s).mismatches = s.mismatches :=
  (congrArg State.mismatches (placementStep_frame s) :)

/-- All that applyGain can change. -/
theorem applyGain_frame (dx dy : Int) (s : State) :
    applyGain dx dy s = { s with pointer := (applyGain dx dy s).pointer } := by
  apply State.eq_of_fields
  all_goals first
    | with_reducible rfl
    | (unfold applyGain; simp)
@[simp] theorem applyGain_pending (dx dy : Int) (s : State) : (applyGain dx dy s).pending = s.pending :=
  (congrArg State.pending (applyGain_frame dx dy s) :)
@[simp] theorem applyGain_sent (dx dy : Int) (s : State) : (applyGain dx dy s).sent = s.sent :=
  (congrArg State.sent (applyGain_frame dx dy s) :)
@[simp] theorem applyGain_freeUses (dx dy : Int) (s : State) : (applyGain dx dy s).freeUses = s.freeUses :=
  (congrArg State.freeUses (applyGain_frame dx dy s) :)
@[simp] theorem applyGain_clock (dx dy : Int) (s : State) : (applyGain dx dy s).clock = s.clock :=
  (congrArg State.clock (applyGain_frame dx dy s) :)
@[simp] theorem applyGain_settings (dx dy : Int) (s : State) : (applyGain dx dy s).settings = s.settings :=
  (congrArg State.settings (applyGain_frame dx dy s) :)
@[simp] theorem applyGain_tables (dx dy : Int) (s : State) : (applyGain dx dy s).tables = s.tables :=
  (congrArg State.tables (applyGain_frame dx dy s) :)
@[simp] theorem applyGain_console (dx dy : Int) (s : State) : (applyGain dx dy s).console = s.console :=
  (congrArg State.console (applyGain_frame dx dy s) :)
@[simp] theorem applyGain_keys (dx dy : Int) (s : State) : (applyGain dx dy s).keys = s.keys :=
  (congrArg State.keys (applyGain_frame dx dy s) :)
@[simp] theorem applyGain_recognizer (dx dy : Int) (s : State) : (applyGain dx dy s).recognizer = s.recognizer :=
  (congrArg State.recognizer (applyGain_frame dx dy s) :)
@[simp] theorem applyGain_focusUnit (dx dy : Int) (s : State) : (applyGain dx dy s).focusUnit = s.focusUnit :=
  (congrArg State.focusUnit (applyGain_frame dx dy s) :)
@[simp] theorem applyGain_ports (dx dy : Int) (s : State) : (applyGain dx dy s).ports = s.ports :=
  (congrArg State.ports (applyGain_frame dx dy s) :)
@[simp] theorem applyGain_video (dx dy : Int) (s : State) : (applyGain dx dy s).video = s.video :=
  (congrArg State.video (applyGain_frame dx dy s) :)
@[simp] theorem applyGain_schedule (dx dy : Int) (s : State) : (applyGain dx dy s).schedule = s.schedule :=
  (congrArg State.schedule (applyGain_frame dx dy s) :)
@[simp] theorem applyGain_engine (dx dy : Int) (s : State) : (applyGain dx dy s).engine = s.engine :=
  (congrArg State.engine (applyGain_frame dx dy s) :)
@[simp] theorem applyGain_journal (dx dy : Int) (s : State) : (applyGain dx dy s).journal = s.journal :=
  (congrArg State.journal (applyGain_frame dx dy s) :)
@[simp] theorem applyGain_image (dx dy : Int) (s : State) : (applyGain dx dy s).image = s.image :=
  (congrArg State.image (applyGain_frame dx dy s) :)
@[simp] theorem applyGain_foreign (dx dy : Int) (s : State) : (applyGain dx dy s).foreign = s.foreign :=
  (congrArg State.foreign (applyGain_frame dx dy s) :)
@[simp] theorem applyGain_mismatches (dx dy : Int) (s : State) : (applyGain dx dy s).mismatches = s.mismatches :=
  (congrArg State.mismatches (applyGain_frame dx dy s) :)

/-- All that crossTo can change. -/
theorem crossTo_frame (p : Place) (c : Computer) (s : State) :
    (crossTo p c s).state = { s with sent := ((crossTo p c s).state).sent, console := ((crossTo p c s).state).console, keys := ((crossTo p c s).state).keys, focusUnit := ((crossTo p c s).state).focusUnit, pointer := ((crossTo p c s).state).pointer, ports := ((crossTo p c s).state).ports, journal := ((crossTo p c s).state).journal } := by
  apply State.eq_of_fields
  all_goals first
    | with_reducible rfl
    | (unfold crossTo; simp)
@[simp] theorem crossTo_pending (p : Place) (c : Computer) (s : State) : ((crossTo p c s).state).pending = s.pending :=
  (congrArg State.pending (crossTo_frame p c s) :)
@[simp] theorem crossTo_freeUses (p : Place) (c : Computer) (s : State) : ((crossTo p c s).state).freeUses = s.freeUses :=
  (congrArg State.freeUses (crossTo_frame p c s) :)
@[simp] theorem crossTo_clock (p : Place) (c : Computer) (s : State) : ((crossTo p c s).state).clock = s.clock :=
  (congrArg State.clock (crossTo_frame p c s) :)
@[simp] theorem crossTo_settings (p : Place) (c : Computer) (s : State) : ((crossTo p c s).state).settings = s.settings :=
  (congrArg State.settings (crossTo_frame p c s) :)
@[simp] theorem crossTo_tables (p : Place) (c : Computer) (s : State) : ((crossTo p c s).state).tables = s.tables :=
  (congrArg State.tables (crossTo_frame p c s) :)
@[simp] theorem crossTo_recognizer (p : Place) (c : Computer) (s : State) : ((crossTo p c s).state).recognizer = s.recognizer :=
  (congrArg State.recognizer (crossTo_frame p c s) :)
@[simp] theorem crossTo_video (p : Place) (c : Computer) (s : State) : ((crossTo p c s).state).video = s.video :=
  (congrArg State.video (crossTo_frame p c s) :)
@[simp] theorem crossTo_schedule (p : Place) (c : Computer) (s : State) : ((crossTo p c s).state).schedule = s.schedule :=
  (congrArg State.schedule (crossTo_frame p c s) :)
@[simp] theorem crossTo_engine (p : Place) (c : Computer) (s : State) : ((crossTo p c s).state).engine = s.engine :=
  (congrArg State.engine (crossTo_frame p c s) :)
@[simp] theorem crossTo_image (p : Place) (c : Computer) (s : State) : ((crossTo p c s).state).image = s.image :=
  (congrArg State.image (crossTo_frame p c s) :)
@[simp] theorem crossTo_foreign (p : Place) (c : Computer) (s : State) : ((crossTo p c s).state).foreign = s.foreign :=
  (congrArg State.foreign (crossTo_frame p c s) :)
@[simp] theorem crossTo_mismatches (p : Place) (c : Computer) (s : State) : ((crossTo p c s).state).mismatches = s.mismatches :=
  (congrArg State.mismatches (crossTo_frame p c s) :)

/-- All that pushAgainst can change. -/
theorem pushAgainst_frame (b : Bool) (a : Axis) (toHigh : Bool) (m : Nat) (n : Screen) (c : Computer) (p entry : Place) (s : State) :
    (pushAgainst b a toHigh m n c p entry s).state = { s with sent := ((pushAgainst b a toHigh m n c p entry s).state).sent, console := ((pushAgainst b a toHigh m n c p entry s).state).console, keys := ((pushAgainst b a toHigh m n c p entry s).state).keys, focusUnit := ((pushAgainst b a toHigh m n c p entry s).state).focusUnit, pointer := ((pushAgainst b a toHigh m n c p entry s).state).pointer, ports := ((pushAgainst b a toHigh m n c p entry s).state).ports, journal := ((pushAgainst b a toHigh m n c p entry s).state).journal } := by
  apply State.eq_of_fields
  all_goals first
    | with_reducible rfl
    | (unfold pushAgainst; (try dsimp only); repeat' split
       all_goals simp)
@[simp] theorem pushAgainst_pending (b : Bool) (a : Axis) (toHigh : Bool) (m : Nat) (n : Screen) (c : Computer) (p entry : Place) (s : State) : ((pushAgainst b a toHigh m n c p entry s).state).pending = s.pending :=
  (congrArg State.pending (pushAgainst_frame b a toHigh m n c p entry s) :)
@[simp] theorem pushAgainst_freeUses (b : Bool) (a : Axis) (toHigh : Bool) (m : Nat) (n : Screen) (c : Computer) (p entry : Place) (s : State) : ((pushAgainst b a toHigh m n c p entry s).state).freeUses = s.freeUses :=
  (congrArg State.freeUses (pushAgainst_frame b a toHigh m n c p entry s) :)
@[simp] theorem pushAgainst_clock (b : Bool) (a : Axis) (toHigh : Bool) (m : Nat) (n : Screen) (c : Computer) (p entry : Place) (s : State) : ((pushAgainst b a toHigh m n c p entry s).state).clock = s.clock :=
  (congrArg State.clock (pushAgainst_frame b a toHigh m n c p entry s) :)
@[simp] theorem pushAgainst_settings (b : Bool) (a : Axis) (toHigh : Bool) (m : Nat) (n : Screen) (c : Computer) (p entry : Place) (s : State) : ((pushAgainst b a toHigh m n c p entry s).state).settings = s.settings :=
  (congrArg State.settings (pushAgainst_frame b a toHigh m n c p entry s) :)
@[simp] theorem pushAgainst_tables (b : Bool) (a : Axis) (toHigh : Bool) (m : Nat) (n : Screen) (c : Computer) (p entry : Place) (s : State) : ((pushAgainst b a toHigh m n c p entry s).state).tables = s.tables :=
  (congrArg State.tables (pushAgainst_frame b a toHigh m n c p entry s) :)
@[simp] theorem pushAgainst_recognizer (b : Bool) (a : Axis) (toHigh : Bool) (m : Nat) (n : Screen) (c : Computer) (p entry : Place) (s : State) : ((pushAgainst b a toHigh m n c p entry s).state).recognizer = s.recognizer :=
  (congrArg State.recognizer (pushAgainst_frame b a toHigh m n c p entry s) :)
@[simp] theorem pushAgainst_video (b : Bool) (a : Axis) (toHigh : Bool) (m : Nat) (n : Screen) (c : Computer) (p entry : Place) (s : State) : ((pushAgainst b a toHigh m n c p entry s).state).video = s.video :=
  (congrArg State.video (pushAgainst_frame b a toHigh m n c p entry s) :)
@[simp] theorem pushAgainst_schedule (b : Bool) (a : Axis) (toHigh : Bool) (m : Nat) (n : Screen) (c : Computer) (p entry : Place) (s : State) : ((pushAgainst b a toHigh m n c p entry s).state).schedule = s.schedule :=
  (congrArg State.schedule (pushAgainst_frame b a toHigh m n c p entry s) :)
@[simp] theorem pushAgainst_engine (b : Bool) (a : Axis) (toHigh : Bool) (m : Nat) (n : Screen) (c : Computer) (p entry : Place) (s : State) : ((pushAgainst b a toHigh m n c p entry s).state).engine = s.engine :=
  (congrArg State.engine (pushAgainst_frame b a toHigh m n c p entry s) :)
@[simp] theorem pushAgainst_image (b : Bool) (a : Axis) (toHigh : Bool) (m : Nat) (n : Screen) (c : Computer) (p entry : Place) (s : State) : ((pushAgainst b a toHigh m n c p entry s).state).image = s.image :=
  (congrArg State.image (pushAgainst_frame b a toHigh m n c p entry s) :)
@[simp] theorem pushAgainst_foreign (b : Bool) (a : Axis) (toHigh : Bool) (m : Nat) (n : Screen) (c : Computer) (p entry : Place) (s : State) : ((pushAgainst b a toHigh m n c p entry s).state).foreign = s.foreign :=
  (congrArg State.foreign (pushAgainst_frame b a toHigh m n c p entry s) :)
@[simp] theorem pushAgainst_mismatches (b : Bool) (a : Axis) (toHigh : Bool) (m : Nat) (n : Screen) (c : Computer) (p entry : Place) (s : State) : ((pushAgainst b a toHigh m n c p entry s).state).mismatches = s.mismatches :=
  (congrArg State.mismatches (pushAgainst_frame b a toHigh m n c p entry s) :)

/-- All that walk can change. -/
theorem walk_frame (b : Bool) (a : Axis) (target : Int) (visits : Nat) (s : State) :
    (walk b a target visits s).state = { s with sent := ((walk b a target visits s).state).sent, console := ((walk b a target visits s).state).console, keys := ((walk b a target visits s).state).keys, focusUnit := ((walk b a target visits s).state).focusUnit, pointer := ((walk b a target visits s).state).pointer, ports := ((walk b a target visits s).state).ports, journal := ((walk b a target visits s).state).journal } := by
  apply State.eq_of_fields
  all_goals first
    | with_reducible rfl
    | (induction visits generalizing s with
       | zero => rfl
       | succ n ih =>
         unfold walk
         dsimp only
         repeat' split
         all_goals simp [ih])
@[simp] theorem walk_pending (b : Bool) (a : Axis) (target : Int) (visits : Nat) (s : State) : ((walk b a target visits s).state).pending = s.pending :=
  (congrArg State.pending (walk_frame b a target visits s) :)
@[simp] theorem walk_freeUses (b : Bool) (a : Axis) (target : Int) (visits : Nat) (s : State) : ((walk b a target visits s).state).freeUses = s.freeUses :=
  (congrArg State.freeUses (walk_frame b a target visits s) :)
@[simp] theorem walk_clock (b : Bool) (a : Axis) (target : Int) (visits : Nat) (s : State) : ((walk b a target visits s).state).clock = s.clock :=
  (congrArg State.clock (walk_frame b a target visits s) :)
@[simp] theorem walk_settings (b : Bool) (a : Axis) (target : Int) (visits : Nat) (s : State) : ((walk b a target visits s).state).settings = s.settings :=
  (congrArg State.settings (walk_frame b a target visits s) :)
@[simp] theorem walk_tables (b : Bool) (a : Axis) (target : Int) (visits : Nat) (s : State) : ((walk b a target visits s).state).tables = s.tables :=
  (congrArg State.tables (walk_frame b a target visits s) :)
@[simp] theorem walk_recognizer (b : Bool) (a : Axis) (target : Int) (visits : Nat) (s : State) : ((walk b a target visits s).state).recognizer = s.recognizer :=
  (congrArg State.recognizer (walk_frame b a target visits s) :)
@[simp] theorem walk_video (b : Bool) (a : Axis) (target : Int) (visits : Nat) (s : State) : ((walk b a target visits s).state).video = s.video :=
  (congrArg State.video (walk_frame b a target visits s) :)
@[simp] theorem walk_schedule (b : Bool) (a : Axis) (target : Int) (visits : Nat) (s : State) : ((walk b a target visits s).state).schedule = s.schedule :=
  (congrArg State.schedule (walk_frame b a target visits s) :)
@[simp] theorem walk_engine (b : Bool) (a : Axis) (target : Int) (visits : Nat) (s : State) : ((walk b a target visits s).state).engine = s.engine :=
  (congrArg State.engine (walk_frame b a target visits s) :)
@[simp] theorem walk_image (b : Bool) (a : Axis) (target : Int) (visits : Nat) (s : State) : ((walk b a target visits s).state).image = s.image :=
  (congrArg State.image (walk_frame b a target visits s) :)
@[simp] theorem walk_foreign (b : Bool) (a : Axis) (target : Int) (visits : Nat) (s : State) : ((walk b a target visits s).state).foreign = s.foreign :=
  (congrArg State.foreign (walk_frame b a target visits s) :)
@[simp] theorem walk_mismatches (b : Bool) (a : Axis) (target : Int) (visits : Nat) (s : State) : ((walk b a target visits s).state).mismatches = s.mismatches :=
  (congrArg State.mismatches (walk_frame b a target visits s) :)

/-- All that walkAxis can change. -/
theorem walkAxis_frame (b : Bool) (a : Axis) (units : Int) (s : State) :
    (walkAxis b a units s).state = { s with sent := ((walkAxis b a units s).state).sent, console := ((walkAxis b a units s).state).console, keys := ((walkAxis b a units s).state).keys, focusUnit := ((walkAxis b a units s).state).focusUnit, pointer := ((walkAxis b a units s).state).pointer, ports := ((walkAxis b a units s).state).ports, journal := ((walkAxis b a units s).state).journal } := by
  apply State.eq_of_fields
  all_goals first
    | with_reducible rfl
    | (unfold walkAxis; (try dsimp only); repeat' split
       all_goals simp)
@[simp] theorem walkAxis_pending (b : Bool) (a : Axis) (units : Int) (s : State) : ((walkAxis b a units s).state).pending = s.pending :=
  (congrArg State.pending (walkAxis_frame b a units s) :)
@[simp] theorem walkAxis_freeUses (b : Bool) (a : Axis) (units : Int) (s : State) : ((walkAxis b a units s).state).freeUses = s.freeUses :=
  (congrArg State.freeUses (walkAxis_frame b a units s) :)
@[simp] theorem walkAxis_clock (b : Bool) (a : Axis) (units : Int) (s : State) : ((walkAxis b a units s).state).clock = s.clock :=
  (congrArg State.clock (walkAxis_frame b a units s) :)
@[simp] theorem walkAxis_settings (b : Bool) (a : Axis) (units : Int) (s : State) : ((walkAxis b a units s).state).settings = s.settings :=
  (congrArg State.settings (walkAxis_frame b a units s) :)
@[simp] theorem walkAxis_tables (b : Bool) (a : Axis) (units : Int) (s : State) : ((walkAxis b a units s).state).tables = s.tables :=
  (congrArg State.tables (walkAxis_frame b a units s) :)
@[simp] theorem walkAxis_recognizer (b : Bool) (a : Axis) (units : Int) (s : State) : ((walkAxis b a units s).state).recognizer = s.recognizer :=
  (congrArg State.recognizer (walkAxis_frame b a units s) :)
@[simp] theorem walkAxis_video (b : Bool) (a : Axis) (units : Int) (s : State) : ((walkAxis b a units s).state).video = s.video :=
  (congrArg State.video (walkAxis_frame b a units s) :)
@[simp] theorem walkAxis_schedule (b : Bool) (a : Axis) (units : Int) (s : State) : ((walkAxis b a units s).state).schedule = s.schedule :=
  (congrArg State.schedule (walkAxis_frame b a units s) :)
@[simp] theorem walkAxis_engine (b : Bool) (a : Axis) (units : Int) (s : State) : ((walkAxis b a units s).state).engine = s.engine :=
  (congrArg State.engine (walkAxis_frame b a units s) :)
@[simp] theorem walkAxis_image (b : Bool) (a : Axis) (units : Int) (s : State) : ((walkAxis b a units s).state).image = s.image :=
  (congrArg State.image (walkAxis_frame b a units s) :)
@[simp] theorem walkAxis_foreign (b : Bool) (a : Axis) (units : Int) (s : State) : ((walkAxis b a units s).state).foreign = s.foreign :=
  (congrArg State.foreign (walkAxis_frame b a units s) :)
@[simp] theorem walkAxis_mismatches (b : Bool) (a : Axis) (units : Int) (s : State) : ((walkAxis b a units s).state).mismatches = s.mismatches :=
  (congrArg State.mismatches (walkAxis_frame b a units s) :)

/-- All that walkBoth can change. -/
theorem walkBoth_frame (b : Bool) (ux uy : Int) (s : State) :
    (walkBoth b ux uy s).state = { s with sent := ((walkBoth b ux uy s).state).sent, console := ((walkBoth b ux uy s).state).console, keys := ((walkBoth b ux uy s).state).keys, focusUnit := ((walkBoth b ux uy s).state).focusUnit, pointer := ((walkBoth b ux uy s).state).pointer, ports := ((walkBoth b ux uy s).state).ports, journal := ((walkBoth b ux uy s).state).journal } := by
  apply State.eq_of_fields
  all_goals first
    | with_reducible rfl
    | (unfold walkBoth; dsimp only; split <;> simp)
@[simp] theorem walkBoth_pending (b : Bool) (ux uy : Int) (s : State) : ((walkBoth b ux uy s).state).pending = s.pending :=
  (congrArg State.pending (walkBoth_frame b ux uy s) :)
@[simp] theorem walkBoth_freeUses (b : Bool) (ux uy : Int) (s : State) : ((walkBoth b ux uy s).state).freeUses = s.freeUses :=
  (congrArg State.freeUses (walkBoth_frame b ux uy s) :)
@[simp] theorem walkBoth_clock (b : Bool) (ux uy : Int) (s : State) : ((walkBoth b ux uy s).state).clock = s.clock :=
  (congrArg State.clock (walkBoth_frame b ux uy s) :)
@[simp] theorem walkBoth_settings (b : Bool) (ux uy : Int) (s : State) : ((walkBoth b ux uy s).state).settings = s.settings :=
  (congrArg State.settings (walkBoth_frame b ux uy s) :)
@[simp] theorem walkBoth_tables (b : Bool) (ux uy : Int) (s : State) : ((walkBoth b ux uy s).state).tables = s.tables :=
  (congrArg State.tables (walkBoth_frame b ux uy s) :)
@[simp] theorem walkBoth_recognizer (b : Bool) (ux uy : Int) (s : State) : ((walkBoth b ux uy s).state).recognizer = s.recognizer :=
  (congrArg State.recognizer (walkBoth_frame b ux uy s) :)
@[simp] theorem walkBoth_video (b : Bool) (ux uy : Int) (s : State) : ((walkBoth b ux uy s).state).video = s.video :=
  (congrArg State.video (walkBoth_frame b ux uy s) :)
@[simp] theorem walkBoth_schedule (b : Bool) (ux uy : Int) (s : State) : ((walkBoth b ux uy s).state).schedule = s.schedule :=
  (congrArg State.schedule (walkBoth_frame b ux uy s) :)
@[simp] theorem walkBoth_engine (b : Bool) (ux uy : Int) (s : State) : ((walkBoth b ux uy s).state).engine = s.engine :=
  (congrArg State.engine (walkBoth_frame b ux uy s) :)
@[simp] theorem walkBoth_image (b : Bool) (ux uy : Int) (s : State) : ((walkBoth b ux uy s).state).image = s.image :=
  (congrArg State.image (walkBoth_frame b ux uy s) :)
@[simp] theorem walkBoth_foreign (b : Bool) (ux uy : Int) (s : State) : ((walkBoth b ux uy s).state).foreign = s.foreign :=
  (congrArg State.foreign (walkBoth_frame b ux uy s) :)
@[simp] theorem walkBoth_mismatches (b : Bool) (ux uy : Int) (s : State) : ((walkBoth b ux uy s).state).mismatches = s.mismatches :=
  (congrArg State.mismatches (walkBoth_frame b ux uy s) :)

/-- All that useMotion can change. -/
theorem useMotion_frame (f : Computer) (b : Bool) (dx dy wheel : Int) (s : State) :
    (useMotion f b dx dy wheel s).1 = { s with sent := ((useMotion f b dx dy wheel s).1).sent, console := ((useMotion f b dx dy wheel s).1).console, keys := ((useMotion f b dx dy wheel s).1).keys, focusUnit := ((useMotion f b dx dy wheel s).1).focusUnit, pointer := ((useMotion f b dx dy wheel s).1).pointer, ports := ((useMotion f b dx dy wheel s).1).ports, journal := ((useMotion f b dx dy wheel s).1).journal } := by
  apply State.eq_of_fields
  all_goals first
    | with_reducible rfl
    | (unfold useMotion; split <;> simp)
@[simp] theorem useMotion_pending (f : Computer) (b : Bool) (dx dy wheel : Int) (s : State) : ((useMotion f b dx dy wheel s).1).pending = s.pending :=
  (congrArg State.pending (useMotion_frame f b dx dy wheel s) :)
@[simp] theorem useMotion_freeUses (f : Computer) (b : Bool) (dx dy wheel : Int) (s : State) : ((useMotion f b dx dy wheel s).1).freeUses = s.freeUses :=
  (congrArg State.freeUses (useMotion_frame f b dx dy wheel s) :)
@[simp] theorem useMotion_clock (f : Computer) (b : Bool) (dx dy wheel : Int) (s : State) : ((useMotion f b dx dy wheel s).1).clock = s.clock :=
  (congrArg State.clock (useMotion_frame f b dx dy wheel s) :)
@[simp] theorem useMotion_settings (f : Computer) (b : Bool) (dx dy wheel : Int) (s : State) : ((useMotion f b dx dy wheel s).1).settings = s.settings :=
  (congrArg State.settings (useMotion_frame f b dx dy wheel s) :)
@[simp] theorem useMotion_tables (f : Computer) (b : Bool) (dx dy wheel : Int) (s : State) : ((useMotion f b dx dy wheel s).1).tables = s.tables :=
  (congrArg State.tables (useMotion_frame f b dx dy wheel s) :)
@[simp] theorem useMotion_recognizer (f : Computer) (b : Bool) (dx dy wheel : Int) (s : State) : ((useMotion f b dx dy wheel s).1).recognizer = s.recognizer :=
  (congrArg State.recognizer (useMotion_frame f b dx dy wheel s) :)
@[simp] theorem useMotion_video (f : Computer) (b : Bool) (dx dy wheel : Int) (s : State) : ((useMotion f b dx dy wheel s).1).video = s.video :=
  (congrArg State.video (useMotion_frame f b dx dy wheel s) :)
@[simp] theorem useMotion_schedule (f : Computer) (b : Bool) (dx dy wheel : Int) (s : State) : ((useMotion f b dx dy wheel s).1).schedule = s.schedule :=
  (congrArg State.schedule (useMotion_frame f b dx dy wheel s) :)
@[simp] theorem useMotion_engine (f : Computer) (b : Bool) (dx dy wheel : Int) (s : State) : ((useMotion f b dx dy wheel s).1).engine = s.engine :=
  (congrArg State.engine (useMotion_frame f b dx dy wheel s) :)
@[simp] theorem useMotion_image (f : Computer) (b : Bool) (dx dy wheel : Int) (s : State) : ((useMotion f b dx dy wheel s).1).image = s.image :=
  (congrArg State.image (useMotion_frame f b dx dy wheel s) :)
@[simp] theorem useMotion_foreign (f : Computer) (b : Bool) (dx dy wheel : Int) (s : State) : ((useMotion f b dx dy wheel s).1).foreign = s.foreign :=
  (congrArg State.foreign (useMotion_frame f b dx dy wheel s) :)
@[simp] theorem useMotion_mismatches (f : Computer) (b : Bool) (dx dy wheel : Int) (s : State) : ((useMotion f b dx dy wheel s).1).mismatches = s.mismatches :=
  (congrArg State.mismatches (useMotion_frame f b dx dy wheel s) :)

/-- All that motionStep can change. -/
theorem motionStep_frame (b : Bool) (dx dy wheel : Int) (s : State) :
    (motionStep b dx dy wheel s).1 = { s with sent := ((motionStep b dx dy wheel s).1).sent, console := ((motionStep b dx dy wheel s).1).console, keys := ((motionStep b dx dy wheel s).1).keys, focusUnit := ((motionStep b dx dy wheel s).1).focusUnit, pointer := ((motionStep b dx dy wheel s).1).pointer, ports := ((motionStep b dx dy wheel s).1).ports, journal := ((motionStep b dx dy wheel s).1).journal } := by
  apply State.eq_of_fields
  all_goals first
    | with_reducible rfl
    | (unfold motionStep; (try dsimp only); repeat' split
       all_goals simp)
@[simp] theorem motionStep_pending (b : Bool) (dx dy wheel : Int) (s : State) : ((motionStep b dx dy wheel s).1).pending = s.pending :=
  (congrArg State.pending (motionStep_frame b dx dy wheel s) :)
@[simp] theorem motionStep_freeUses (b : Bool) (dx dy wheel : Int) (s : State) : ((motionStep b dx dy wheel s).1).freeUses = s.freeUses :=
  (congrArg State.freeUses (motionStep_frame b dx dy wheel s) :)
@[simp] theorem motionStep_clock (b : Bool) (dx dy wheel : Int) (s : State) : ((motionStep b dx dy wheel s).1).clock = s.clock :=
  (congrArg State.clock (motionStep_frame b dx dy wheel s) :)
@[simp] theorem motionStep_settings (b : Bool) (dx dy wheel : Int) (s : State) : ((motionStep b dx dy wheel s).1).settings = s.settings :=
  (congrArg State.settings (motionStep_frame b dx dy wheel s) :)
@[simp] theorem motionStep_tables (b : Bool) (dx dy wheel : Int) (s : State) : ((motionStep b dx dy wheel s).1).tables = s.tables :=
  (congrArg State.tables (motionStep_frame b dx dy wheel s) :)
@[simp] theorem motionStep_recognizer (b : Bool) (dx dy wheel : Int) (s : State) : ((motionStep b dx dy wheel s).1).recognizer = s.recognizer :=
  (congrArg State.recognizer (motionStep_frame b dx dy wheel s) :)
@[simp] theorem motionStep_video (b : Bool) (dx dy wheel : Int) (s : State) : ((motionStep b dx dy wheel s).1).video = s.video :=
  (congrArg State.video (motionStep_frame b dx dy wheel s) :)
@[simp] theorem motionStep_schedule (b : Bool) (dx dy wheel : Int) (s : State) : ((motionStep b dx dy wheel s).1).schedule = s.schedule :=
  (congrArg State.schedule (motionStep_frame b dx dy wheel s) :)
@[simp] theorem motionStep_engine (b : Bool) (dx dy wheel : Int) (s : State) : ((motionStep b dx dy wheel s).1).engine = s.engine :=
  (congrArg State.engine (motionStep_frame b dx dy wheel s) :)
@[simp] theorem motionStep_image (b : Bool) (dx dy wheel : Int) (s : State) : ((motionStep b dx dy wheel s).1).image = s.image :=
  (congrArg State.image (motionStep_frame b dx dy wheel s) :)
@[simp] theorem motionStep_foreign (b : Bool) (dx dy wheel : Int) (s : State) : ((motionStep b dx dy wheel s).1).foreign = s.foreign :=
  (congrArg State.foreign (motionStep_frame b dx dy wheel s) :)
@[simp] theorem motionStep_mismatches (b : Bool) (dx dy wheel : Int) (s : State) : ((motionStep b dx dy wheel s).1).mismatches = s.mismatches :=
  (congrArg State.mismatches (motionStep_frame b dx dy wheel s) :)

/-- All that recheckAfterCommit can change. -/
theorem recheckAfterCommit_frame (old : Vector Placement 8) (s : State) :
    recheckAfterCommit old s = { s with sent := (recheckAfterCommit old s).sent, console := (recheckAfterCommit old s).console, keys := (recheckAfterCommit old s).keys, focusUnit := (recheckAfterCommit old s).focusUnit, pointer := (recheckAfterCommit old s).pointer, ports := (recheckAfterCommit old s).ports, journal := (recheckAfterCommit old s).journal } := by
  apply State.eq_of_fields
  all_goals first
    | with_reducible rfl
    | (unfold recheckAfterCommit; (try dsimp only); repeat' split
       all_goals simp)
@[simp] theorem recheckAfterCommit_pending (old : Vector Placement 8) (s : State) : (recheckAfterCommit old s).pending = s.pending :=
  (congrArg State.pending (recheckAfterCommit_frame old s) :)
@[simp] theorem recheckAfterCommit_freeUses (old : Vector Placement 8) (s : State) : (recheckAfterCommit old s).freeUses = s.freeUses :=
  (congrArg State.freeUses (recheckAfterCommit_frame old s) :)
@[simp] theorem recheckAfterCommit_clock (old : Vector Placement 8) (s : State) : (recheckAfterCommit old s).clock = s.clock :=
  (congrArg State.clock (recheckAfterCommit_frame old s) :)
@[simp] theorem recheckAfterCommit_settings (old : Vector Placement 8) (s : State) : (recheckAfterCommit old s).settings = s.settings :=
  (congrArg State.settings (recheckAfterCommit_frame old s) :)
@[simp] theorem recheckAfterCommit_tables (old : Vector Placement 8) (s : State) : (recheckAfterCommit old s).tables = s.tables :=
  (congrArg State.tables (recheckAfterCommit_frame old s) :)
@[simp] theorem recheckAfterCommit_recognizer (old : Vector Placement 8) (s : State) : (recheckAfterCommit old s).recognizer = s.recognizer :=
  (congrArg State.recognizer (recheckAfterCommit_frame old s) :)
@[simp] theorem recheckAfterCommit_video (old : Vector Placement 8) (s : State) : (recheckAfterCommit old s).video = s.video :=
  (congrArg State.video (recheckAfterCommit_frame old s) :)
@[simp] theorem recheckAfterCommit_schedule (old : Vector Placement 8) (s : State) : (recheckAfterCommit old s).schedule = s.schedule :=
  (congrArg State.schedule (recheckAfterCommit_frame old s) :)
@[simp] theorem recheckAfterCommit_engine (old : Vector Placement 8) (s : State) : (recheckAfterCommit old s).engine = s.engine :=
  (congrArg State.engine (recheckAfterCommit_frame old s) :)
@[simp] theorem recheckAfterCommit_image (old : Vector Placement 8) (s : State) : (recheckAfterCommit old s).image = s.image :=
  (congrArg State.image (recheckAfterCommit_frame old s) :)
@[simp] theorem recheckAfterCommit_foreign (old : Vector Placement 8) (s : State) : (recheckAfterCommit old s).foreign = s.foreign :=
  (congrArg State.foreign (recheckAfterCommit_frame old s) :)
@[simp] theorem recheckAfterCommit_mismatches (old : Vector Placement 8) (s : State) : (recheckAfterCommit old s).mismatches = s.mismatches :=
  (congrArg State.mismatches (recheckAfterCommit_frame old s) :)

/-- All that commitLayout can change. -/
theorem commitLayout_frame (s : State) :
    commitLayout s = { s with sent := (commitLayout s).sent, console := (commitLayout s).console, keys := (commitLayout s).keys, focusUnit := (commitLayout s).focusUnit, pointer := (commitLayout s).pointer, ports := (commitLayout s).ports, journal := (commitLayout s).journal, tables := (commitLayout s).tables } := by
  apply State.eq_of_fields
  all_goals first
    | with_reducible rfl
    | (unfold commitLayout; simp)
@[simp] theorem commitLayout_pending (s : State) : (commitLayout s).pending = s.pending :=
  (congrArg State.pending (commitLayout_frame s) :)
@[simp] theorem commitLayout_freeUses (s : State) : (commitLayout s).freeUses = s.freeUses :=
  (congrArg State.freeUses (commitLayout_frame s) :)
@[simp] theorem commitLayout_clock (s : State) : (commitLayout s).clock = s.clock :=
  (congrArg State.clock (commitLayout_frame s) :)
@[simp] theorem commitLayout_settings (s : State) : (commitLayout s).settings = s.settings :=
  (congrArg State.settings (commitLayout_frame s) :)
@[simp] theorem commitLayout_recognizer (s : State) : (commitLayout s).recognizer = s.recognizer :=
  (congrArg State.recognizer (commitLayout_frame s) :)
@[simp] theorem commitLayout_video (s : State) : (commitLayout s).video = s.video :=
  (congrArg State.video (commitLayout_frame s) :)
@[simp] theorem commitLayout_schedule (s : State) : (commitLayout s).schedule = s.schedule :=
  (congrArg State.schedule (commitLayout_frame s) :)
@[simp] theorem commitLayout_engine (s : State) : (commitLayout s).engine = s.engine :=
  (congrArg State.engine (commitLayout_frame s) :)
@[simp] theorem commitLayout_image (s : State) : (commitLayout s).image = s.image :=
  (congrArg State.image (commitLayout_frame s) :)
@[simp] theorem commitLayout_foreign (s : State) : (commitLayout s).foreign = s.foreign :=
  (congrArg State.foreign (commitLayout_frame s) :)
@[simp] theorem commitLayout_mismatches (s : State) : (commitLayout s).mismatches = s.mismatches :=
  (congrArg State.mismatches (commitLayout_frame s) :)

/-- All that revertLayout can change. -/
theorem revertLayout_frame (s : State) :
    revertLayout s = { s with tables := (revertLayout s).tables } := by
  apply State.eq_of_fields
  all_goals first
    | with_reducible rfl
    | (unfold revertLayout; simp)
@[simp] theorem revertLayout_pending (s : State) : (revertLayout s).pending = s.pending :=
  (congrArg State.pending (revertLayout_frame s) :)
@[simp] theorem revertLayout_sent (s : State) : (revertLayout s).sent = s.sent :=
  (congrArg State.sent (revertLayout_frame s) :)
@[simp] theorem revertLayout_freeUses (s : State) : (revertLayout s).freeUses = s.freeUses :=
  (congrArg State.freeUses (revertLayout_frame s) :)
@[simp] theorem revertLayout_clock (s : State) : (revertLayout s).clock = s.clock :=
  (congrArg State.clock (revertLayout_frame s) :)
@[simp] theorem revertLayout_settings (s : State) : (revertLayout s).settings = s.settings :=
  (congrArg State.settings (revertLayout_frame s) :)
@[simp] theorem revertLayout_console (s : State) : (revertLayout s).console = s.console :=
  (congrArg State.console (revertLayout_frame s) :)
@[simp] theorem revertLayout_keys (s : State) : (revertLayout s).keys = s.keys :=
  (congrArg State.keys (revertLayout_frame s) :)
@[simp] theorem revertLayout_recognizer (s : State) : (revertLayout s).recognizer = s.recognizer :=
  (congrArg State.recognizer (revertLayout_frame s) :)
@[simp] theorem revertLayout_focusUnit (s : State) : (revertLayout s).focusUnit = s.focusUnit :=
  (congrArg State.focusUnit (revertLayout_frame s) :)
@[simp] theorem revertLayout_pointer (s : State) : (revertLayout s).pointer = s.pointer :=
  (congrArg State.pointer (revertLayout_frame s) :)
@[simp] theorem revertLayout_ports (s : State) : (revertLayout s).ports = s.ports :=
  (congrArg State.ports (revertLayout_frame s) :)
@[simp] theorem revertLayout_video (s : State) : (revertLayout s).video = s.video :=
  (congrArg State.video (revertLayout_frame s) :)
@[simp] theorem revertLayout_schedule (s : State) : (revertLayout s).schedule = s.schedule :=
  (congrArg State.schedule (revertLayout_frame s) :)
@[simp] theorem revertLayout_engine (s : State) : (revertLayout s).engine = s.engine :=
  (congrArg State.engine (revertLayout_frame s) :)
@[simp] theorem revertLayout_journal (s : State) : (revertLayout s).journal = s.journal :=
  (congrArg State.journal (revertLayout_frame s) :)
@[simp] theorem revertLayout_image (s : State) : (revertLayout s).image = s.image :=
  (congrArg State.image (revertLayout_frame s) :)
@[simp] theorem revertLayout_foreign (s : State) : (revertLayout s).foreign = s.foreign :=
  (congrArg State.foreign (revertLayout_frame s) :)
@[simp] theorem revertLayout_mismatches (s : State) : (revertLayout s).mismatches = s.mismatches :=
  (congrArg State.mismatches (revertLayout_frame s) :)

/-- All that handPosition can change. -/
theorem handPosition_frame (k : Computer) (c : Bool) (wheel : Int) (s : State) :
    handPosition k c wheel s = { s with ports := (handPosition k c wheel s).ports } := by
  apply State.eq_of_fields
  all_goals first
    | with_reducible rfl
    | (unfold handPosition; (try dsimp only); repeat' split
       all_goals simp)
@[simp] theorem handPosition_pending (k : Computer) (c : Bool) (wheel : Int) (s : State) : (handPosition k c wheel s).pending = s.pending :=
  (congrArg State.pending (handPosition_frame k c wheel s) :)
@[simp] theorem handPosition_sent (k : Computer) (c : Bool) (wheel : Int) (s : State) : (handPosition k c wheel s).sent = s.sent :=
  (congrArg State.sent (handPosition_frame k c wheel s) :)
@[simp] theorem handPosition_freeUses (k : Computer) (c : Bool) (wheel : Int) (s : State) : (handPosition k c wheel s).freeUses = s.freeUses :=
  (congrArg State.freeUses (handPosition_frame k c wheel s) :)
@[simp] theorem handPosition_clock (k : Computer) (c : Bool) (wheel : Int) (s : State) : (handPosition k c wheel s).clock = s.clock :=
  (congrArg State.clock (handPosition_frame k c wheel s) :)
@[simp] theorem handPosition_settings (k : Computer) (c : Bool) (wheel : Int) (s : State) : (handPosition k c wheel s).settings = s.settings :=
  (congrArg State.settings (handPosition_frame k c wheel s) :)
@[simp] theorem handPosition_tables (k : Computer) (c : Bool) (wheel : Int) (s : State) : (handPosition k c wheel s).tables = s.tables :=
  (congrArg State.tables (handPosition_frame k c wheel s) :)
@[simp] theorem handPosition_console (k : Computer) (c : Bool) (wheel : Int) (s : State) : (handPosition k c wheel s).console = s.console :=
  (congrArg State.console (handPosition_frame k c wheel s) :)
@[simp] theorem handPosition_keys (k : Computer) (c : Bool) (wheel : Int) (s : State) : (handPosition k c wheel s).keys = s.keys :=
  (congrArg State.keys (handPosition_frame k c wheel s) :)
@[simp] theorem handPosition_recognizer (k : Computer) (c : Bool) (wheel : Int) (s : State) : (handPosition k c wheel s).recognizer = s.recognizer :=
  (congrArg State.recognizer (handPosition_frame k c wheel s) :)
@[simp] theorem handPosition_focusUnit (k : Computer) (c : Bool) (wheel : Int) (s : State) : (handPosition k c wheel s).focusUnit = s.focusUnit :=
  (congrArg State.focusUnit (handPosition_frame k c wheel s) :)
@[simp] theorem handPosition_pointer (k : Computer) (c : Bool) (wheel : Int) (s : State) : (handPosition k c wheel s).pointer = s.pointer :=
  (congrArg State.pointer (handPosition_frame k c wheel s) :)
@[simp] theorem handPosition_video (k : Computer) (c : Bool) (wheel : Int) (s : State) : (handPosition k c wheel s).video = s.video :=
  (congrArg State.video (handPosition_frame k c wheel s) :)
@[simp] theorem handPosition_schedule (k : Computer) (c : Bool) (wheel : Int) (s : State) : (handPosition k c wheel s).schedule = s.schedule :=
  (congrArg State.schedule (handPosition_frame k c wheel s) :)
@[simp] theorem handPosition_engine (k : Computer) (c : Bool) (wheel : Int) (s : State) : (handPosition k c wheel s).engine = s.engine :=
  (congrArg State.engine (handPosition_frame k c wheel s) :)
@[simp] theorem handPosition_journal (k : Computer) (c : Bool) (wheel : Int) (s : State) : (handPosition k c wheel s).journal = s.journal :=
  (congrArg State.journal (handPosition_frame k c wheel s) :)
@[simp] theorem handPosition_image (k : Computer) (c : Bool) (wheel : Int) (s : State) : (handPosition k c wheel s).image = s.image :=
  (congrArg State.image (handPosition_frame k c wheel s) :)
@[simp] theorem handPosition_foreign (k : Computer) (c : Bool) (wheel : Int) (s : State) : (handPosition k c wheel s).foreign = s.foreign :=
  (congrArg State.foreign (handPosition_frame k c wheel s) :)
@[simp] theorem handPosition_mismatches (k : Computer) (c : Bool) (wheel : Int) (s : State) : (handPosition k c wheel s).mismatches = s.mismatches :=
  (congrArg State.mismatches (handPosition_frame k c wheel s) :)

/-- All that handNoPosition can change. -/
theorem handNoPosition_frame (k : Computer) (c : Bool) (wheel : Int) (s : State) :
    handNoPosition k c wheel s = { s with ports := (handNoPosition k c wheel s).ports } := by
  apply State.eq_of_fields
  all_goals first
    | with_reducible rfl
    | (unfold handNoPosition; (try dsimp only); repeat' split
       all_goals simp)
@[simp] theorem handNoPosition_pending (k : Computer) (c : Bool) (wheel : Int) (s : State) : (handNoPosition k c wheel s).pending = s.pending :=
  (congrArg State.pending (handNoPosition_frame k c wheel s) :)
@[simp] theorem handNoPosition_sent (k : Computer) (c : Bool) (wheel : Int) (s : State) : (handNoPosition k c wheel s).sent = s.sent :=
  (congrArg State.sent (handNoPosition_frame k c wheel s) :)
@[simp] theorem handNoPosition_freeUses (k : Computer) (c : Bool) (wheel : Int) (s : State) : (handNoPosition k c wheel s).freeUses = s.freeUses :=
  (congrArg State.freeUses (handNoPosition_frame k c wheel s) :)
@[simp] theorem handNoPosition_clock (k : Computer) (c : Bool) (wheel : Int) (s : State) : (handNoPosition k c wheel s).clock = s.clock :=
  (congrArg State.clock (handNoPosition_frame k c wheel s) :)
@[simp] theorem handNoPosition_settings (k : Computer) (c : Bool) (wheel : Int) (s : State) : (handNoPosition k c wheel s).settings = s.settings :=
  (congrArg State.settings (handNoPosition_frame k c wheel s) :)
@[simp] theorem handNoPosition_tables (k : Computer) (c : Bool) (wheel : Int) (s : State) : (handNoPosition k c wheel s).tables = s.tables :=
  (congrArg State.tables (handNoPosition_frame k c wheel s) :)
@[simp] theorem handNoPosition_console (k : Computer) (c : Bool) (wheel : Int) (s : State) : (handNoPosition k c wheel s).console = s.console :=
  (congrArg State.console (handNoPosition_frame k c wheel s) :)
@[simp] theorem handNoPosition_keys (k : Computer) (c : Bool) (wheel : Int) (s : State) : (handNoPosition k c wheel s).keys = s.keys :=
  (congrArg State.keys (handNoPosition_frame k c wheel s) :)
@[simp] theorem handNoPosition_recognizer (k : Computer) (c : Bool) (wheel : Int) (s : State) : (handNoPosition k c wheel s).recognizer = s.recognizer :=
  (congrArg State.recognizer (handNoPosition_frame k c wheel s) :)
@[simp] theorem handNoPosition_focusUnit (k : Computer) (c : Bool) (wheel : Int) (s : State) : (handNoPosition k c wheel s).focusUnit = s.focusUnit :=
  (congrArg State.focusUnit (handNoPosition_frame k c wheel s) :)
@[simp] theorem handNoPosition_pointer (k : Computer) (c : Bool) (wheel : Int) (s : State) : (handNoPosition k c wheel s).pointer = s.pointer :=
  (congrArg State.pointer (handNoPosition_frame k c wheel s) :)
@[simp] theorem handNoPosition_video (k : Computer) (c : Bool) (wheel : Int) (s : State) : (handNoPosition k c wheel s).video = s.video :=
  (congrArg State.video (handNoPosition_frame k c wheel s) :)
@[simp] theorem handNoPosition_schedule (k : Computer) (c : Bool) (wheel : Int) (s : State) : (handNoPosition k c wheel s).schedule = s.schedule :=
  (congrArg State.schedule (handNoPosition_frame k c wheel s) :)
@[simp] theorem handNoPosition_engine (k : Computer) (c : Bool) (wheel : Int) (s : State) : (handNoPosition k c wheel s).engine = s.engine :=
  (congrArg State.engine (handNoPosition_frame k c wheel s) :)
@[simp] theorem handNoPosition_journal (k : Computer) (c : Bool) (wheel : Int) (s : State) : (handNoPosition k c wheel s).journal = s.journal :=
  (congrArg State.journal (handNoPosition_frame k c wheel s) :)
@[simp] theorem handNoPosition_image (k : Computer) (c : Bool) (wheel : Int) (s : State) : (handNoPosition k c wheel s).image = s.image :=
  (congrArg State.image (handNoPosition_frame k c wheel s) :)
@[simp] theorem handNoPosition_foreign (k : Computer) (c : Bool) (wheel : Int) (s : State) : (handNoPosition k c wheel s).foreign = s.foreign :=
  (congrArg State.foreign (handNoPosition_frame k c wheel s) :)
@[simp] theorem handNoPosition_mismatches (k : Computer) (c : Bool) (wheel : Int) (s : State) : (handNoPosition k c wheel s).mismatches = s.mismatches :=
  (congrArg State.mismatches (handNoPosition_frame k c wheel s) :)

/-- All that handRelative can change. -/
theorem handRelative_frame (k : Computer) (c : Bool) (dx dy wheel : Int) (s : State) :
    handRelative k c dx dy wheel s = { s with ports := (handRelative k c dx dy wheel s).ports } := by
  apply State.eq_of_fields
  all_goals first
    | with_reducible rfl
    | (unfold handRelative; (try dsimp only); repeat' split
       all_goals simp)
@[simp] theorem handRelative_pending (k : Computer) (c : Bool) (dx dy wheel : Int) (s : State) : (handRelative k c dx dy wheel s).pending = s.pending :=
  (congrArg State.pending (handRelative_frame k c dx dy wheel s) :)
@[simp] theorem handRelative_sent (k : Computer) (c : Bool) (dx dy wheel : Int) (s : State) : (handRelative k c dx dy wheel s).sent = s.sent :=
  (congrArg State.sent (handRelative_frame k c dx dy wheel s) :)
@[simp] theorem handRelative_freeUses (k : Computer) (c : Bool) (dx dy wheel : Int) (s : State) : (handRelative k c dx dy wheel s).freeUses = s.freeUses :=
  (congrArg State.freeUses (handRelative_frame k c dx dy wheel s) :)
@[simp] theorem handRelative_clock (k : Computer) (c : Bool) (dx dy wheel : Int) (s : State) : (handRelative k c dx dy wheel s).clock = s.clock :=
  (congrArg State.clock (handRelative_frame k c dx dy wheel s) :)
@[simp] theorem handRelative_settings (k : Computer) (c : Bool) (dx dy wheel : Int) (s : State) : (handRelative k c dx dy wheel s).settings = s.settings :=
  (congrArg State.settings (handRelative_frame k c dx dy wheel s) :)
@[simp] theorem handRelative_tables (k : Computer) (c : Bool) (dx dy wheel : Int) (s : State) : (handRelative k c dx dy wheel s).tables = s.tables :=
  (congrArg State.tables (handRelative_frame k c dx dy wheel s) :)
@[simp] theorem handRelative_console (k : Computer) (c : Bool) (dx dy wheel : Int) (s : State) : (handRelative k c dx dy wheel s).console = s.console :=
  (congrArg State.console (handRelative_frame k c dx dy wheel s) :)
@[simp] theorem handRelative_keys (k : Computer) (c : Bool) (dx dy wheel : Int) (s : State) : (handRelative k c dx dy wheel s).keys = s.keys :=
  (congrArg State.keys (handRelative_frame k c dx dy wheel s) :)
@[simp] theorem handRelative_recognizer (k : Computer) (c : Bool) (dx dy wheel : Int) (s : State) : (handRelative k c dx dy wheel s).recognizer = s.recognizer :=
  (congrArg State.recognizer (handRelative_frame k c dx dy wheel s) :)
@[simp] theorem handRelative_focusUnit (k : Computer) (c : Bool) (dx dy wheel : Int) (s : State) : (handRelative k c dx dy wheel s).focusUnit = s.focusUnit :=
  (congrArg State.focusUnit (handRelative_frame k c dx dy wheel s) :)
@[simp] theorem handRelative_pointer (k : Computer) (c : Bool) (dx dy wheel : Int) (s : State) : (handRelative k c dx dy wheel s).pointer = s.pointer :=
  (congrArg State.pointer (handRelative_frame k c dx dy wheel s) :)
@[simp] theorem handRelative_video (k : Computer) (c : Bool) (dx dy wheel : Int) (s : State) : (handRelative k c dx dy wheel s).video = s.video :=
  (congrArg State.video (handRelative_frame k c dx dy wheel s) :)
@[simp] theorem handRelative_schedule (k : Computer) (c : Bool) (dx dy wheel : Int) (s : State) : (handRelative k c dx dy wheel s).schedule = s.schedule :=
  (congrArg State.schedule (handRelative_frame k c dx dy wheel s) :)
@[simp] theorem handRelative_engine (k : Computer) (c : Bool) (dx dy wheel : Int) (s : State) : (handRelative k c dx dy wheel s).engine = s.engine :=
  (congrArg State.engine (handRelative_frame k c dx dy wheel s) :)
@[simp] theorem handRelative_journal (k : Computer) (c : Bool) (dx dy wheel : Int) (s : State) : (handRelative k c dx dy wheel s).journal = s.journal :=
  (congrArg State.journal (handRelative_frame k c dx dy wheel s) :)
@[simp] theorem handRelative_image (k : Computer) (c : Bool) (dx dy wheel : Int) (s : State) : (handRelative k c dx dy wheel s).image = s.image :=
  (congrArg State.image (handRelative_frame k c dx dy wheel s) :)
@[simp] theorem handRelative_foreign (k : Computer) (c : Bool) (dx dy wheel : Int) (s : State) : (handRelative k c dx dy wheel s).foreign = s.foreign :=
  (congrArg State.foreign (handRelative_frame k c dx dy wheel s) :)
@[simp] theorem handRelative_mismatches (k : Computer) (c : Bool) (dx dy wheel : Int) (s : State) : (handRelative k c dx dy wheel s).mismatches = s.mismatches :=
  (congrArg State.mismatches (handRelative_frame k c dx dy wheel s) :)

/-- All that takeHandOver can change. -/
theorem takeHandOver_frame (h : HandOver) (owed : Option Computer) (s : State) :
    takeHandOver h owed s = { s with ports := (takeHandOver h owed s).ports } := by
  apply State.eq_of_fields
  all_goals first
    | with_reducible rfl
    | (unfold takeHandOver; (try dsimp only); repeat' split
       all_goals simp)
@[simp] theorem takeHandOver_pending (h : HandOver) (owed : Option Computer) (s : State) : (takeHandOver h owed s).pending = s.pending :=
  (congrArg State.pending (takeHandOver_frame h owed s) :)
@[simp] theorem takeHandOver_sent (h : HandOver) (owed : Option Computer) (s : State) : (takeHandOver h owed s).sent = s.sent :=
  (congrArg State.sent (takeHandOver_frame h owed s) :)
@[simp] theorem takeHandOver_freeUses (h : HandOver) (owed : Option Computer) (s : State) : (takeHandOver h owed s).freeUses = s.freeUses :=
  (congrArg State.freeUses (takeHandOver_frame h owed s) :)
@[simp] theorem takeHandOver_clock (h : HandOver) (owed : Option Computer) (s : State) : (takeHandOver h owed s).clock = s.clock :=
  (congrArg State.clock (takeHandOver_frame h owed s) :)
@[simp] theorem takeHandOver_settings (h : HandOver) (owed : Option Computer) (s : State) : (takeHandOver h owed s).settings = s.settings :=
  (congrArg State.settings (takeHandOver_frame h owed s) :)
@[simp] theorem takeHandOver_tables (h : HandOver) (owed : Option Computer) (s : State) : (takeHandOver h owed s).tables = s.tables :=
  (congrArg State.tables (takeHandOver_frame h owed s) :)
@[simp] theorem takeHandOver_console (h : HandOver) (owed : Option Computer) (s : State) : (takeHandOver h owed s).console = s.console :=
  (congrArg State.console (takeHandOver_frame h owed s) :)
@[simp] theorem takeHandOver_keys (h : HandOver) (owed : Option Computer) (s : State) : (takeHandOver h owed s).keys = s.keys :=
  (congrArg State.keys (takeHandOver_frame h owed s) :)
@[simp] theorem takeHandOver_recognizer (h : HandOver) (owed : Option Computer) (s : State) : (takeHandOver h owed s).recognizer = s.recognizer :=
  (congrArg State.recognizer (takeHandOver_frame h owed s) :)
@[simp] theorem takeHandOver_focusUnit (h : HandOver) (owed : Option Computer) (s : State) : (takeHandOver h owed s).focusUnit = s.focusUnit :=
  (congrArg State.focusUnit (takeHandOver_frame h owed s) :)
@[simp] theorem takeHandOver_pointer (h : HandOver) (owed : Option Computer) (s : State) : (takeHandOver h owed s).pointer = s.pointer :=
  (congrArg State.pointer (takeHandOver_frame h owed s) :)
@[simp] theorem takeHandOver_video (h : HandOver) (owed : Option Computer) (s : State) : (takeHandOver h owed s).video = s.video :=
  (congrArg State.video (takeHandOver_frame h owed s) :)
@[simp] theorem takeHandOver_schedule (h : HandOver) (owed : Option Computer) (s : State) : (takeHandOver h owed s).schedule = s.schedule :=
  (congrArg State.schedule (takeHandOver_frame h owed s) :)
@[simp] theorem takeHandOver_engine (h : HandOver) (owed : Option Computer) (s : State) : (takeHandOver h owed s).engine = s.engine :=
  (congrArg State.engine (takeHandOver_frame h owed s) :)
@[simp] theorem takeHandOver_journal (h : HandOver) (owed : Option Computer) (s : State) : (takeHandOver h owed s).journal = s.journal :=
  (congrArg State.journal (takeHandOver_frame h owed s) :)
@[simp] theorem takeHandOver_image (h : HandOver) (owed : Option Computer) (s : State) : (takeHandOver h owed s).image = s.image :=
  (congrArg State.image (takeHandOver_frame h owed s) :)
@[simp] theorem takeHandOver_foreign (h : HandOver) (owed : Option Computer) (s : State) : (takeHandOver h owed s).foreign = s.foreign :=
  (congrArg State.foreign (takeHandOver_frame h owed s) :)
@[simp] theorem takeHandOver_mismatches (h : HandOver) (owed : Option Computer) (s : State) : (takeHandOver h owed s).mismatches = s.mismatches :=
  (congrArg State.mismatches (takeHandOver_frame h owed s) :)

/-- All that serveOwed can change. -/
theorem serveOwed_frame (h : HandOver) (owed : Option Computer) (s : State) :
    serveOwed h owed s = { s with ports := (serveOwed h owed s).ports } := by
  apply State.eq_of_fields
  all_goals first
    | with_reducible rfl
    | (unfold serveOwed; (try dsimp only); repeat' split
       all_goals simp)
@[simp] theorem serveOwed_pending (h : HandOver) (owed : Option Computer) (s : State) : (serveOwed h owed s).pending = s.pending :=
  (congrArg State.pending (serveOwed_frame h owed s) :)
@[simp] theorem serveOwed_sent (h : HandOver) (owed : Option Computer) (s : State) : (serveOwed h owed s).sent = s.sent :=
  (congrArg State.sent (serveOwed_frame h owed s) :)
@[simp] theorem serveOwed_freeUses (h : HandOver) (owed : Option Computer) (s : State) : (serveOwed h owed s).freeUses = s.freeUses :=
  (congrArg State.freeUses (serveOwed_frame h owed s) :)
@[simp] theorem serveOwed_clock (h : HandOver) (owed : Option Computer) (s : State) : (serveOwed h owed s).clock = s.clock :=
  (congrArg State.clock (serveOwed_frame h owed s) :)
@[simp] theorem serveOwed_settings (h : HandOver) (owed : Option Computer) (s : State) : (serveOwed h owed s).settings = s.settings :=
  (congrArg State.settings (serveOwed_frame h owed s) :)
@[simp] theorem serveOwed_tables (h : HandOver) (owed : Option Computer) (s : State) : (serveOwed h owed s).tables = s.tables :=
  (congrArg State.tables (serveOwed_frame h owed s) :)
@[simp] theorem serveOwed_console (h : HandOver) (owed : Option Computer) (s : State) : (serveOwed h owed s).console = s.console :=
  (congrArg State.console (serveOwed_frame h owed s) :)
@[simp] theorem serveOwed_keys (h : HandOver) (owed : Option Computer) (s : State) : (serveOwed h owed s).keys = s.keys :=
  (congrArg State.keys (serveOwed_frame h owed s) :)
@[simp] theorem serveOwed_recognizer (h : HandOver) (owed : Option Computer) (s : State) : (serveOwed h owed s).recognizer = s.recognizer :=
  (congrArg State.recognizer (serveOwed_frame h owed s) :)
@[simp] theorem serveOwed_focusUnit (h : HandOver) (owed : Option Computer) (s : State) : (serveOwed h owed s).focusUnit = s.focusUnit :=
  (congrArg State.focusUnit (serveOwed_frame h owed s) :)
@[simp] theorem serveOwed_pointer (h : HandOver) (owed : Option Computer) (s : State) : (serveOwed h owed s).pointer = s.pointer :=
  (congrArg State.pointer (serveOwed_frame h owed s) :)
@[simp] theorem serveOwed_video (h : HandOver) (owed : Option Computer) (s : State) : (serveOwed h owed s).video = s.video :=
  (congrArg State.video (serveOwed_frame h owed s) :)
@[simp] theorem serveOwed_schedule (h : HandOver) (owed : Option Computer) (s : State) : (serveOwed h owed s).schedule = s.schedule :=
  (congrArg State.schedule (serveOwed_frame h owed s) :)
@[simp] theorem serveOwed_engine (h : HandOver) (owed : Option Computer) (s : State) : (serveOwed h owed s).engine = s.engine :=
  (congrArg State.engine (serveOwed_frame h owed s) :)
@[simp] theorem serveOwed_journal (h : HandOver) (owed : Option Computer) (s : State) : (serveOwed h owed s).journal = s.journal :=
  (congrArg State.journal (serveOwed_frame h owed s) :)
@[simp] theorem serveOwed_image (h : HandOver) (owed : Option Computer) (s : State) : (serveOwed h owed s).image = s.image :=
  (congrArg State.image (serveOwed_frame h owed s) :)
@[simp] theorem serveOwed_foreign (h : HandOver) (owed : Option Computer) (s : State) : (serveOwed h owed s).foreign = s.foreign :=
  (congrArg State.foreign (serveOwed_frame h owed s) :)
@[simp] theorem serveOwed_mismatches (h : HandOver) (owed : Option Computer) (s : State) : (serveOwed h owed s).mismatches = s.mismatches :=
  (congrArg State.mismatches (serveOwed_frame h owed s) :)

/-- All that requestSource can change. -/
theorem requestSource_frame (sc : Screen) (src : Source) (s : State) :
    requestSource sc src s = { s with video := (requestSource sc src s).video, ports := (requestSource sc src s).ports, engine := (requestSource sc src s).engine } := by
  apply State.eq_of_fields
  all_goals first
    | with_reducible rfl
    | (unfold requestSource; split <;> simp)
@[simp] theorem requestSource_pending (sc : Screen) (src : Source) (s : State) : (requestSource sc src s).pending = s.pending :=
  (congrArg State.pending (requestSource_frame sc src s) :)
@[simp] theorem requestSource_sent (sc : Screen) (src : Source) (s : State) : (requestSource sc src s).sent = s.sent :=
  (congrArg State.sent (requestSource_frame sc src s) :)
@[simp] theorem requestSource_freeUses (sc : Screen) (src : Source) (s : State) : (requestSource sc src s).freeUses = s.freeUses :=
  (congrArg State.freeUses (requestSource_frame sc src s) :)
@[simp] theorem requestSource_clock (sc : Screen) (src : Source) (s : State) : (requestSource sc src s).clock = s.clock :=
  (congrArg State.clock (requestSource_frame sc src s) :)
@[simp] theorem requestSource_settings (sc : Screen) (src : Source) (s : State) : (requestSource sc src s).settings = s.settings :=
  (congrArg State.settings (requestSource_frame sc src s) :)
@[simp] theorem requestSource_tables (sc : Screen) (src : Source) (s : State) : (requestSource sc src s).tables = s.tables :=
  (congrArg State.tables (requestSource_frame sc src s) :)
@[simp] theorem requestSource_console (sc : Screen) (src : Source) (s : State) : (requestSource sc src s).console = s.console :=
  (congrArg State.console (requestSource_frame sc src s) :)
@[simp] theorem requestSource_keys (sc : Screen) (src : Source) (s : State) : (requestSource sc src s).keys = s.keys :=
  (congrArg State.keys (requestSource_frame sc src s) :)
@[simp] theorem requestSource_recognizer (sc : Screen) (src : Source) (s : State) : (requestSource sc src s).recognizer = s.recognizer :=
  (congrArg State.recognizer (requestSource_frame sc src s) :)
@[simp] theorem requestSource_focusUnit (sc : Screen) (src : Source) (s : State) : (requestSource sc src s).focusUnit = s.focusUnit :=
  (congrArg State.focusUnit (requestSource_frame sc src s) :)
@[simp] theorem requestSource_pointer (sc : Screen) (src : Source) (s : State) : (requestSource sc src s).pointer = s.pointer :=
  (congrArg State.pointer (requestSource_frame sc src s) :)
@[simp] theorem requestSource_schedule (sc : Screen) (src : Source) (s : State) : (requestSource sc src s).schedule = s.schedule :=
  (congrArg State.schedule (requestSource_frame sc src s) :)
@[simp] theorem requestSource_journal (sc : Screen) (src : Source) (s : State) : (requestSource sc src s).journal = s.journal :=
  (congrArg State.journal (requestSource_frame sc src s) :)
@[simp] theorem requestSource_image (sc : Screen) (src : Source) (s : State) : (requestSource sc src s).image = s.image :=
  (congrArg State.image (requestSource_frame sc src s) :)
@[simp] theorem requestSource_foreign (sc : Screen) (src : Source) (s : State) : (requestSource sc src s).foreign = s.foreign :=
  (congrArg State.foreign (requestSource_frame sc src s) :)
@[simp] theorem requestSource_mismatches (sc : Screen) (src : Source) (s : State) : (requestSource sc src s).mismatches = s.mismatches :=
  (congrArg State.mismatches (requestSource_frame sc src s) :)

/-- All that requestSources can change. -/
theorem requestSources_frame (reqs : List (Screen × Source)) (s : State) :
    requestSources reqs s = { s with video := (requestSources reqs s).video, ports := (requestSources reqs s).ports, engine := (requestSources reqs s).engine } := by
  apply State.eq_of_fields
  all_goals first
    | with_reducible rfl
    | (exact foldl_keeps State.pending _ (fun t x => by simp) _ _)
    | (exact foldl_keeps State.sent _ (fun t x => by simp) _ _)
    | (exact foldl_keeps State.freeUses _ (fun t x => by simp) _ _)
    | (exact foldl_keeps State.clock _ (fun t x => by simp) _ _)
    | (exact foldl_keeps State.settings _ (fun t x => by simp) _ _)
    | (exact foldl_keeps State.tables _ (fun t x => by simp) _ _)
    | (exact foldl_keeps State.console _ (fun t x => by simp) _ _)
    | (exact foldl_keeps State.keys _ (fun t x => by simp) _ _)
    | (exact foldl_keeps State.recognizer _ (fun t x => by simp) _ _)
    | (exact foldl_keeps State.focusUnit _ (fun t x => by simp) _ _)
    | (exact foldl_keeps State.pointer _ (fun t x => by simp) _ _)
    | (exact foldl_keeps State.schedule _ (fun t x => by simp) _ _)
    | (exact foldl_keeps State.journal _ (fun t x => by simp) _ _)
    | (exact foldl_keeps State.image _ (fun t x => by simp) _ _)
    | (exact foldl_keeps State.foreign _ (fun t x => by simp) _ _)
    | (exact foldl_keeps State.mismatches _ (fun t x => by simp) _ _)
@[simp] theorem requestSources_pending (reqs : List (Screen × Source)) (s : State) : (requestSources reqs s).pending = s.pending :=
  (congrArg State.pending (requestSources_frame reqs s) :)
@[simp] theorem requestSources_sent (reqs : List (Screen × Source)) (s : State) : (requestSources reqs s).sent = s.sent :=
  (congrArg State.sent (requestSources_frame reqs s) :)
@[simp] theorem requestSources_freeUses (reqs : List (Screen × Source)) (s : State) : (requestSources reqs s).freeUses = s.freeUses :=
  (congrArg State.freeUses (requestSources_frame reqs s) :)
@[simp] theorem requestSources_clock (reqs : List (Screen × Source)) (s : State) : (requestSources reqs s).clock = s.clock :=
  (congrArg State.clock (requestSources_frame reqs s) :)
@[simp] theorem requestSources_settings (reqs : List (Screen × Source)) (s : State) : (requestSources reqs s).settings = s.settings :=
  (congrArg State.settings (requestSources_frame reqs s) :)
@[simp] theorem requestSources_tables (reqs : List (Screen × Source)) (s : State) : (requestSources reqs s).tables = s.tables :=
  (congrArg State.tables (requestSources_frame reqs s) :)
@[simp] theorem requestSources_console (reqs : List (Screen × Source)) (s : State) : (requestSources reqs s).console = s.console :=
  (congrArg State.console (requestSources_frame reqs s) :)
@[simp] theorem requestSources_keys (reqs : List (Screen × Source)) (s : State) : (requestSources reqs s).keys = s.keys :=
  (congrArg State.keys (requestSources_frame reqs s) :)
@[simp] theorem requestSources_recognizer (reqs : List (Screen × Source)) (s : State) : (requestSources reqs s).recognizer = s.recognizer :=
  (congrArg State.recognizer (requestSources_frame reqs s) :)
@[simp] theorem requestSources_focusUnit (reqs : List (Screen × Source)) (s : State) : (requestSources reqs s).focusUnit = s.focusUnit :=
  (congrArg State.focusUnit (requestSources_frame reqs s) :)
@[simp] theorem requestSources_pointer (reqs : List (Screen × Source)) (s : State) : (requestSources reqs s).pointer = s.pointer :=
  (congrArg State.pointer (requestSources_frame reqs s) :)
@[simp] theorem requestSources_schedule (reqs : List (Screen × Source)) (s : State) : (requestSources reqs s).schedule = s.schedule :=
  (congrArg State.schedule (requestSources_frame reqs s) :)
@[simp] theorem requestSources_journal (reqs : List (Screen × Source)) (s : State) : (requestSources reqs s).journal = s.journal :=
  (congrArg State.journal (requestSources_frame reqs s) :)
@[simp] theorem requestSources_image (reqs : List (Screen × Source)) (s : State) : (requestSources reqs s).image = s.image :=
  (congrArg State.image (requestSources_frame reqs s) :)
@[simp] theorem requestSources_foreign (reqs : List (Screen × Source)) (s : State) : (requestSources reqs s).foreign = s.foreign :=
  (congrArg State.foreign (requestSources_frame reqs s) :)
@[simp] theorem requestSources_mismatches (reqs : List (Screen × Source)) (s : State) : (requestSources reqs s).mismatches = s.mismatches :=
  (congrArg State.mismatches (requestSources_frame reqs s) :)

/-- All that attachSink can change. -/
theorem attachSink_frame (out : VideoOutput) (mode : VideoMode) (s : State) :
    attachSink out mode s = { s with video := (attachSink out mode s).video } := by
  apply State.eq_of_fields
  all_goals first
    | with_reducible rfl
    | (unfold attachSink; split <;> simp)
@[simp] theorem attachSink_pending (out : VideoOutput) (mode : VideoMode) (s : State) : (attachSink out mode s).pending = s.pending :=
  (congrArg State.pending (attachSink_frame out mode s) :)
@[simp] theorem attachSink_sent (out : VideoOutput) (mode : VideoMode) (s : State) : (attachSink out mode s).sent = s.sent :=
  (congrArg State.sent (attachSink_frame out mode s) :)
@[simp] theorem attachSink_freeUses (out : VideoOutput) (mode : VideoMode) (s : State) : (attachSink out mode s).freeUses = s.freeUses :=
  (congrArg State.freeUses (attachSink_frame out mode s) :)
@[simp] theorem attachSink_clock (out : VideoOutput) (mode : VideoMode) (s : State) : (attachSink out mode s).clock = s.clock :=
  (congrArg State.clock (attachSink_frame out mode s) :)
@[simp] theorem attachSink_settings (out : VideoOutput) (mode : VideoMode) (s : State) : (attachSink out mode s).settings = s.settings :=
  (congrArg State.settings (attachSink_frame out mode s) :)
@[simp] theorem attachSink_tables (out : VideoOutput) (mode : VideoMode) (s : State) : (attachSink out mode s).tables = s.tables :=
  (congrArg State.tables (attachSink_frame out mode s) :)
@[simp] theorem attachSink_console (out : VideoOutput) (mode : VideoMode) (s : State) : (attachSink out mode s).console = s.console :=
  (congrArg State.console (attachSink_frame out mode s) :)
@[simp] theorem attachSink_keys (out : VideoOutput) (mode : VideoMode) (s : State) : (attachSink out mode s).keys = s.keys :=
  (congrArg State.keys (attachSink_frame out mode s) :)
@[simp] theorem attachSink_recognizer (out : VideoOutput) (mode : VideoMode) (s : State) : (attachSink out mode s).recognizer = s.recognizer :=
  (congrArg State.recognizer (attachSink_frame out mode s) :)
@[simp] theorem attachSink_focusUnit (out : VideoOutput) (mode : VideoMode) (s : State) : (attachSink out mode s).focusUnit = s.focusUnit :=
  (congrArg State.focusUnit (attachSink_frame out mode s) :)
@[simp] theorem attachSink_pointer (out : VideoOutput) (mode : VideoMode) (s : State) : (attachSink out mode s).pointer = s.pointer :=
  (congrArg State.pointer (attachSink_frame out mode s) :)
@[simp] theorem attachSink_ports (out : VideoOutput) (mode : VideoMode) (s : State) : (attachSink out mode s).ports = s.ports :=
  (congrArg State.ports (attachSink_frame out mode s) :)
@[simp] theorem attachSink_schedule (out : VideoOutput) (mode : VideoMode) (s : State) : (attachSink out mode s).schedule = s.schedule :=
  (congrArg State.schedule (attachSink_frame out mode s) :)
@[simp] theorem attachSink_engine (out : VideoOutput) (mode : VideoMode) (s : State) : (attachSink out mode s).engine = s.engine :=
  (congrArg State.engine (attachSink_frame out mode s) :)
@[simp] theorem attachSink_journal (out : VideoOutput) (mode : VideoMode) (s : State) : (attachSink out mode s).journal = s.journal :=
  (congrArg State.journal (attachSink_frame out mode s) :)
@[simp] theorem attachSink_image (out : VideoOutput) (mode : VideoMode) (s : State) : (attachSink out mode s).image = s.image :=
  (congrArg State.image (attachSink_frame out mode s) :)
@[simp] theorem attachSink_foreign (out : VideoOutput) (mode : VideoMode) (s : State) : (attachSink out mode s).foreign = s.foreign :=
  (congrArg State.foreign (attachSink_frame out mode s) :)
@[simp] theorem attachSink_mismatches (out : VideoOutput) (mode : VideoMode) (s : State) : (attachSink out mode s).mismatches = s.mismatches :=
  (congrArg State.mismatches (attachSink_frame out mode s) :)

/-- All that commitPending can change. -/
theorem commitPending_frame (sc : Screen) (s : State) :
    commitPending sc s = { s with video := (commitPending sc s).video, ports := (commitPending sc s).ports, engine := (commitPending sc s).engine } := by
  apply State.eq_of_fields
  all_goals first
    | with_reducible rfl
    | (unfold commitPending; split <;> simp)
@[simp] theorem commitPending_pending (sc : Screen) (s : State) : (commitPending sc s).pending = s.pending :=
  (congrArg State.pending (commitPending_frame sc s) :)
@[simp] theorem commitPending_sent (sc : Screen) (s : State) : (commitPending sc s).sent = s.sent :=
  (congrArg State.sent (commitPending_frame sc s) :)
@[simp] theorem commitPending_freeUses (sc : Screen) (s : State) : (commitPending sc s).freeUses = s.freeUses :=
  (congrArg State.freeUses (commitPending_frame sc s) :)
@[simp] theorem commitPending_clock (sc : Screen) (s : State) : (commitPending sc s).clock = s.clock :=
  (congrArg State.clock (commitPending_frame sc s) :)
@[simp] theorem commitPending_settings (sc : Screen) (s : State) : (commitPending sc s).settings = s.settings :=
  (congrArg State.settings (commitPending_frame sc s) :)
@[simp] theorem commitPending_tables (sc : Screen) (s : State) : (commitPending sc s).tables = s.tables :=
  (congrArg State.tables (commitPending_frame sc s) :)
@[simp] theorem commitPending_console (sc : Screen) (s : State) : (commitPending sc s).console = s.console :=
  (congrArg State.console (commitPending_frame sc s) :)
@[simp] theorem commitPending_keys (sc : Screen) (s : State) : (commitPending sc s).keys = s.keys :=
  (congrArg State.keys (commitPending_frame sc s) :)
@[simp] theorem commitPending_recognizer (sc : Screen) (s : State) : (commitPending sc s).recognizer = s.recognizer :=
  (congrArg State.recognizer (commitPending_frame sc s) :)
@[simp] theorem commitPending_focusUnit (sc : Screen) (s : State) : (commitPending sc s).focusUnit = s.focusUnit :=
  (congrArg State.focusUnit (commitPending_frame sc s) :)
@[simp] theorem commitPending_pointer (sc : Screen) (s : State) : (commitPending sc s).pointer = s.pointer :=
  (congrArg State.pointer (commitPending_frame sc s) :)
@[simp] theorem commitPending_schedule (sc : Screen) (s : State) : (commitPending sc s).schedule = s.schedule :=
  (congrArg State.schedule (commitPending_frame sc s) :)
@[simp] theorem commitPending_journal (sc : Screen) (s : State) : (commitPending sc s).journal = s.journal :=
  (congrArg State.journal (commitPending_frame sc s) :)
@[simp] theorem commitPending_image (sc : Screen) (s : State) : (commitPending sc s).image = s.image :=
  (congrArg State.image (commitPending_frame sc s) :)
@[simp] theorem commitPending_foreign (sc : Screen) (s : State) : (commitPending sc s).foreign = s.foreign :=
  (congrArg State.foreign (commitPending_frame sc s) :)
@[simp] theorem commitPending_mismatches (sc : Screen) (s : State) : (commitPending sc s).mismatches = s.mismatches :=
  (congrArg State.mismatches (commitPending_frame sc s) :)

/-- All that blankScreen can change. -/
theorem blankScreen_frame (sc : Screen) (s : State) :
    blankScreen sc s = { s with video := (blankScreen sc s).video } := by
  apply State.eq_of_fields
  all_goals first
    | with_reducible rfl
    | (unfold blankScreen; simp)
@[simp] theorem blankScreen_pending (sc : Screen) (s : State) : (blankScreen sc s).pending = s.pending :=
  (congrArg State.pending (blankScreen_frame sc s) :)
@[simp] theorem blankScreen_sent (sc : Screen) (s : State) : (blankScreen sc s).sent = s.sent :=
  (congrArg State.sent (blankScreen_frame sc s) :)
@[simp] theorem blankScreen_freeUses (sc : Screen) (s : State) : (blankScreen sc s).freeUses = s.freeUses :=
  (congrArg State.freeUses (blankScreen_frame sc s) :)
@[simp] theorem blankScreen_clock (sc : Screen) (s : State) : (blankScreen sc s).clock = s.clock :=
  (congrArg State.clock (blankScreen_frame sc s) :)
@[simp] theorem blankScreen_settings (sc : Screen) (s : State) : (blankScreen sc s).settings = s.settings :=
  (congrArg State.settings (blankScreen_frame sc s) :)
@[simp] theorem blankScreen_tables (sc : Screen) (s : State) : (blankScreen sc s).tables = s.tables :=
  (congrArg State.tables (blankScreen_frame sc s) :)
@[simp] theorem blankScreen_console (sc : Screen) (s : State) : (blankScreen sc s).console = s.console :=
  (congrArg State.console (blankScreen_frame sc s) :)
@[simp] theorem blankScreen_keys (sc : Screen) (s : State) : (blankScreen sc s).keys = s.keys :=
  (congrArg State.keys (blankScreen_frame sc s) :)
@[simp] theorem blankScreen_recognizer (sc : Screen) (s : State) : (blankScreen sc s).recognizer = s.recognizer :=
  (congrArg State.recognizer (blankScreen_frame sc s) :)
@[simp] theorem blankScreen_focusUnit (sc : Screen) (s : State) : (blankScreen sc s).focusUnit = s.focusUnit :=
  (congrArg State.focusUnit (blankScreen_frame sc s) :)
@[simp] theorem blankScreen_pointer (sc : Screen) (s : State) : (blankScreen sc s).pointer = s.pointer :=
  (congrArg State.pointer (blankScreen_frame sc s) :)
@[simp] theorem blankScreen_ports (sc : Screen) (s : State) : (blankScreen sc s).ports = s.ports :=
  (congrArg State.ports (blankScreen_frame sc s) :)
@[simp] theorem blankScreen_schedule (sc : Screen) (s : State) : (blankScreen sc s).schedule = s.schedule :=
  (congrArg State.schedule (blankScreen_frame sc s) :)
@[simp] theorem blankScreen_engine (sc : Screen) (s : State) : (blankScreen sc s).engine = s.engine :=
  (congrArg State.engine (blankScreen_frame sc s) :)
@[simp] theorem blankScreen_journal (sc : Screen) (s : State) : (blankScreen sc s).journal = s.journal :=
  (congrArg State.journal (blankScreen_frame sc s) :)
@[simp] theorem blankScreen_image (sc : Screen) (s : State) : (blankScreen sc s).image = s.image :=
  (congrArg State.image (blankScreen_frame sc s) :)
@[simp] theorem blankScreen_foreign (sc : Screen) (s : State) : (blankScreen sc s).foreign = s.foreign :=
  (congrArg State.foreign (blankScreen_frame sc s) :)
@[simp] theorem blankScreen_mismatches (sc : Screen) (s : State) : (blankScreen sc s).mismatches = s.mismatches :=
  (congrArg State.mismatches (blankScreen_frame sc s) :)

/-- All that detachSink can change. -/
theorem detachSink_frame (out : VideoOutput) (s : State) :
    detachSink out s = { s with sent := (detachSink out s).sent, console := (detachSink out s).console, keys := (detachSink out s).keys, focusUnit := (detachSink out s).focusUnit, pointer := (detachSink out s).pointer, ports := (detachSink out s).ports, journal := (detachSink out s).journal, video := (detachSink out s).video, engine := (detachSink out s).engine } := by
  apply State.eq_of_fields
  all_goals first
    | with_reducible rfl
    | (unfold detachSink; (try dsimp only); repeat' split
       all_goals simp)
@[simp] theorem detachSink_pending (out : VideoOutput) (s : State) : (detachSink out s).pending = s.pending :=
  (congrArg State.pending (detachSink_frame out s) :)
@[simp] theorem detachSink_freeUses (out : VideoOutput) (s : State) : (detachSink out s).freeUses = s.freeUses :=
  (congrArg State.freeUses (detachSink_frame out s) :)
@[simp] theorem detachSink_clock (out : VideoOutput) (s : State) : (detachSink out s).clock = s.clock :=
  (congrArg State.clock (detachSink_frame out s) :)
@[simp] theorem detachSink_settings (out : VideoOutput) (s : State) : (detachSink out s).settings = s.settings :=
  (congrArg State.settings (detachSink_frame out s) :)
@[simp] theorem detachSink_tables (out : VideoOutput) (s : State) : (detachSink out s).tables = s.tables :=
  (congrArg State.tables (detachSink_frame out s) :)
@[simp] theorem detachSink_recognizer (out : VideoOutput) (s : State) : (detachSink out s).recognizer = s.recognizer :=
  (congrArg State.recognizer (detachSink_frame out s) :)
@[simp] theorem detachSink_schedule (out : VideoOutput) (s : State) : (detachSink out s).schedule = s.schedule :=
  (congrArg State.schedule (detachSink_frame out s) :)
@[simp] theorem detachSink_image (out : VideoOutput) (s : State) : (detachSink out s).image = s.image :=
  (congrArg State.image (detachSink_frame out s) :)
@[simp] theorem detachSink_foreign (out : VideoOutput) (s : State) : (detachSink out s).foreign = s.foreign :=
  (congrArg State.foreign (detachSink_frame out s) :)
@[simp] theorem detachSink_mismatches (out : VideoOutput) (s : State) : (detachSink out s).mismatches = s.mismatches :=
  (congrArg State.mismatches (detachSink_frame out s) :)

/-- All that showScreen can change. -/
theorem showScreen_frame (sc : Screen) (sink : VideoMode) (s : State) :
    showScreen sc sink s = { s with video := (showScreen sc sink s).video } := by
  apply State.eq_of_fields
  all_goals first
    | with_reducible rfl
    | (unfold showScreen; simp)
@[simp] theorem showScreen_pending (sc : Screen) (sink : VideoMode) (s : State) : (showScreen sc sink s).pending = s.pending :=
  (congrArg State.pending (showScreen_frame sc sink s) :)
@[simp] theorem showScreen_sent (sc : Screen) (sink : VideoMode) (s : State) : (showScreen sc sink s).sent = s.sent :=
  (congrArg State.sent (showScreen_frame sc sink s) :)
@[simp] theorem showScreen_freeUses (sc : Screen) (sink : VideoMode) (s : State) : (showScreen sc sink s).freeUses = s.freeUses :=
  (congrArg State.freeUses (showScreen_frame sc sink s) :)
@[simp] theorem showScreen_clock (sc : Screen) (sink : VideoMode) (s : State) : (showScreen sc sink s).clock = s.clock :=
  (congrArg State.clock (showScreen_frame sc sink s) :)
@[simp] theorem showScreen_settings (sc : Screen) (sink : VideoMode) (s : State) : (showScreen sc sink s).settings = s.settings :=
  (congrArg State.settings (showScreen_frame sc sink s) :)
@[simp] theorem showScreen_tables (sc : Screen) (sink : VideoMode) (s : State) : (showScreen sc sink s).tables = s.tables :=
  (congrArg State.tables (showScreen_frame sc sink s) :)
@[simp] theorem showScreen_console (sc : Screen) (sink : VideoMode) (s : State) : (showScreen sc sink s).console = s.console :=
  (congrArg State.console (showScreen_frame sc sink s) :)
@[simp] theorem showScreen_keys (sc : Screen) (sink : VideoMode) (s : State) : (showScreen sc sink s).keys = s.keys :=
  (congrArg State.keys (showScreen_frame sc sink s) :)
@[simp] theorem showScreen_recognizer (sc : Screen) (sink : VideoMode) (s : State) : (showScreen sc sink s).recognizer = s.recognizer :=
  (congrArg State.recognizer (showScreen_frame sc sink s) :)
@[simp] theorem showScreen_focusUnit (sc : Screen) (sink : VideoMode) (s : State) : (showScreen sc sink s).focusUnit = s.focusUnit :=
  (congrArg State.focusUnit (showScreen_frame sc sink s) :)
@[simp] theorem showScreen_pointer (sc : Screen) (sink : VideoMode) (s : State) : (showScreen sc sink s).pointer = s.pointer :=
  (congrArg State.pointer (showScreen_frame sc sink s) :)
@[simp] theorem showScreen_ports (sc : Screen) (sink : VideoMode) (s : State) : (showScreen sc sink s).ports = s.ports :=
  (congrArg State.ports (showScreen_frame sc sink s) :)
@[simp] theorem showScreen_schedule (sc : Screen) (sink : VideoMode) (s : State) : (showScreen sc sink s).schedule = s.schedule :=
  (congrArg State.schedule (showScreen_frame sc sink s) :)
@[simp] theorem showScreen_engine (sc : Screen) (sink : VideoMode) (s : State) : (showScreen sc sink s).engine = s.engine :=
  (congrArg State.engine (showScreen_frame sc sink s) :)
@[simp] theorem showScreen_journal (sc : Screen) (sink : VideoMode) (s : State) : (showScreen sc sink s).journal = s.journal :=
  (congrArg State.journal (showScreen_frame sc sink s) :)
@[simp] theorem showScreen_image (sc : Screen) (sink : VideoMode) (s : State) : (showScreen sc sink s).image = s.image :=
  (congrArg State.image (showScreen_frame sc sink s) :)
@[simp] theorem showScreen_foreign (sc : Screen) (sink : VideoMode) (s : State) : (showScreen sc sink s).foreign = s.foreign :=
  (congrArg State.foreign (showScreen_frame sc sink s) :)
@[simp] theorem showScreen_mismatches (sc : Screen) (sink : VideoMode) (s : State) : (showScreen sc sink s).mismatches = s.mismatches :=
  (congrArg State.mismatches (showScreen_frame sc sink s) :)

/-- All that startFrame can change. -/
theorem startFrame_frame (sc : Screen) (s : State) :
    startFrame sc s = { s with video := (startFrame sc s).video, ports := (startFrame sc s).ports, engine := (startFrame sc s).engine } := by
  apply State.eq_of_fields
  all_goals first
    | with_reducible rfl
    | (unfold startFrame; split <;> simp)
@[simp] theorem startFrame_pending (sc : Screen) (s : State) : (startFrame sc s).pending = s.pending :=
  (congrArg State.pending (startFrame_frame sc s) :)
@[simp] theorem startFrame_sent (sc : Screen) (s : State) : (startFrame sc s).sent = s.sent :=
  (congrArg State.sent (startFrame_frame sc s) :)
@[simp] theorem startFrame_freeUses (sc : Screen) (s : State) : (startFrame sc s).freeUses = s.freeUses :=
  (congrArg State.freeUses (startFrame_frame sc s) :)
@[simp] theorem startFrame_clock (sc : Screen) (s : State) : (startFrame sc s).clock = s.clock :=
  (congrArg State.clock (startFrame_frame sc s) :)
@[simp] theorem startFrame_settings (sc : Screen) (s : State) : (startFrame sc s).settings = s.settings :=
  (congrArg State.settings (startFrame_frame sc s) :)
@[simp] theorem startFrame_tables (sc : Screen) (s : State) : (startFrame sc s).tables = s.tables :=
  (congrArg State.tables (startFrame_frame sc s) :)
@[simp] theorem startFrame_console (sc : Screen) (s : State) : (startFrame sc s).console = s.console :=
  (congrArg State.console (startFrame_frame sc s) :)
@[simp] theorem startFrame_keys (sc : Screen) (s : State) : (startFrame sc s).keys = s.keys :=
  (congrArg State.keys (startFrame_frame sc s) :)
@[simp] theorem startFrame_recognizer (sc : Screen) (s : State) : (startFrame sc s).recognizer = s.recognizer :=
  (congrArg State.recognizer (startFrame_frame sc s) :)
@[simp] theorem startFrame_focusUnit (sc : Screen) (s : State) : (startFrame sc s).focusUnit = s.focusUnit :=
  (congrArg State.focusUnit (startFrame_frame sc s) :)
@[simp] theorem startFrame_pointer (sc : Screen) (s : State) : (startFrame sc s).pointer = s.pointer :=
  (congrArg State.pointer (startFrame_frame sc s) :)
@[simp] theorem startFrame_schedule (sc : Screen) (s : State) : (startFrame sc s).schedule = s.schedule :=
  (congrArg State.schedule (startFrame_frame sc s) :)
@[simp] theorem startFrame_journal (sc : Screen) (s : State) : (startFrame sc s).journal = s.journal :=
  (congrArg State.journal (startFrame_frame sc s) :)
@[simp] theorem startFrame_image (sc : Screen) (s : State) : (startFrame sc s).image = s.image :=
  (congrArg State.image (startFrame_frame sc s) :)
@[simp] theorem startFrame_foreign (sc : Screen) (s : State) : (startFrame sc s).foreign = s.foreign :=
  (congrArg State.foreign (startFrame_frame sc s) :)
@[simp] theorem startFrame_mismatches (sc : Screen) (s : State) : (startFrame sc s).mismatches = s.mismatches :=
  (congrArg State.mismatches (startFrame_frame sc s) :)

/-- All that startShareFrame can change. -/
theorem startShareFrame_frame (s : State) :
    startShareFrame s = { s with video := (startShareFrame s).video } := by
  apply State.eq_of_fields
  all_goals first
    | with_reducible rfl
    | (unfold startShareFrame; split <;> simp)
@[simp] theorem startShareFrame_pending (s : State) : (startShareFrame s).pending = s.pending :=
  (congrArg State.pending (startShareFrame_frame s) :)
@[simp] theorem startShareFrame_sent (s : State) : (startShareFrame s).sent = s.sent :=
  (congrArg State.sent (startShareFrame_frame s) :)
@[simp] theorem startShareFrame_freeUses (s : State) : (startShareFrame s).freeUses = s.freeUses :=
  (congrArg State.freeUses (startShareFrame_frame s) :)
@[simp] theorem startShareFrame_clock (s : State) : (startShareFrame s).clock = s.clock :=
  (congrArg State.clock (startShareFrame_frame s) :)
@[simp] theorem startShareFrame_settings (s : State) : (startShareFrame s).settings = s.settings :=
  (congrArg State.settings (startShareFrame_frame s) :)
@[simp] theorem startShareFrame_tables (s : State) : (startShareFrame s).tables = s.tables :=
  (congrArg State.tables (startShareFrame_frame s) :)
@[simp] theorem startShareFrame_console (s : State) : (startShareFrame s).console = s.console :=
  (congrArg State.console (startShareFrame_frame s) :)
@[simp] theorem startShareFrame_keys (s : State) : (startShareFrame s).keys = s.keys :=
  (congrArg State.keys (startShareFrame_frame s) :)
@[simp] theorem startShareFrame_recognizer (s : State) : (startShareFrame s).recognizer = s.recognizer :=
  (congrArg State.recognizer (startShareFrame_frame s) :)
@[simp] theorem startShareFrame_focusUnit (s : State) : (startShareFrame s).focusUnit = s.focusUnit :=
  (congrArg State.focusUnit (startShareFrame_frame s) :)
@[simp] theorem startShareFrame_pointer (s : State) : (startShareFrame s).pointer = s.pointer :=
  (congrArg State.pointer (startShareFrame_frame s) :)
@[simp] theorem startShareFrame_ports (s : State) : (startShareFrame s).ports = s.ports :=
  (congrArg State.ports (startShareFrame_frame s) :)
@[simp] theorem startShareFrame_schedule (s : State) : (startShareFrame s).schedule = s.schedule :=
  (congrArg State.schedule (startShareFrame_frame s) :)
@[simp] theorem startShareFrame_engine (s : State) : (startShareFrame s).engine = s.engine :=
  (congrArg State.engine (startShareFrame_frame s) :)
@[simp] theorem startShareFrame_journal (s : State) : (startShareFrame s).journal = s.journal :=
  (congrArg State.journal (startShareFrame_frame s) :)
@[simp] theorem startShareFrame_image (s : State) : (startShareFrame s).image = s.image :=
  (congrArg State.image (startShareFrame_frame s) :)
@[simp] theorem startShareFrame_foreign (s : State) : (startShareFrame s).foreign = s.foreign :=
  (congrArg State.foreign (startShareFrame_frame s) :)
@[simp] theorem startShareFrame_mismatches (s : State) : (startShareFrame s).mismatches = s.mismatches :=
  (congrArg State.mismatches (startShareFrame_frame s) :)

/-- All that changeSelection can change. -/
theorem changeSelection_frame (sel : Selection) (s : State) :
    changeSelection sel s = { s with video := (changeSelection sel s).video, journal := (changeSelection sel s).journal } := by
  apply State.eq_of_fields
  all_goals first
    | with_reducible rfl
    | (unfold changeSelection; split <;> simp)
@[simp] theorem changeSelection_pending (sel : Selection) (s : State) : (changeSelection sel s).pending = s.pending :=
  (congrArg State.pending (changeSelection_frame sel s) :)
@[simp] theorem changeSelection_sent (sel : Selection) (s : State) : (changeSelection sel s).sent = s.sent :=
  (congrArg State.sent (changeSelection_frame sel s) :)
@[simp] theorem changeSelection_freeUses (sel : Selection) (s : State) : (changeSelection sel s).freeUses = s.freeUses :=
  (congrArg State.freeUses (changeSelection_frame sel s) :)
@[simp] theorem changeSelection_clock (sel : Selection) (s : State) : (changeSelection sel s).clock = s.clock :=
  (congrArg State.clock (changeSelection_frame sel s) :)
@[simp] theorem changeSelection_settings (sel : Selection) (s : State) : (changeSelection sel s).settings = s.settings :=
  (congrArg State.settings (changeSelection_frame sel s) :)
@[simp] theorem changeSelection_tables (sel : Selection) (s : State) : (changeSelection sel s).tables = s.tables :=
  (congrArg State.tables (changeSelection_frame sel s) :)
@[simp] theorem changeSelection_console (sel : Selection) (s : State) : (changeSelection sel s).console = s.console :=
  (congrArg State.console (changeSelection_frame sel s) :)
@[simp] theorem changeSelection_keys (sel : Selection) (s : State) : (changeSelection sel s).keys = s.keys :=
  (congrArg State.keys (changeSelection_frame sel s) :)
@[simp] theorem changeSelection_recognizer (sel : Selection) (s : State) : (changeSelection sel s).recognizer = s.recognizer :=
  (congrArg State.recognizer (changeSelection_frame sel s) :)
@[simp] theorem changeSelection_focusUnit (sel : Selection) (s : State) : (changeSelection sel s).focusUnit = s.focusUnit :=
  (congrArg State.focusUnit (changeSelection_frame sel s) :)
@[simp] theorem changeSelection_pointer (sel : Selection) (s : State) : (changeSelection sel s).pointer = s.pointer :=
  (congrArg State.pointer (changeSelection_frame sel s) :)
@[simp] theorem changeSelection_ports (sel : Selection) (s : State) : (changeSelection sel s).ports = s.ports :=
  (congrArg State.ports (changeSelection_frame sel s) :)
@[simp] theorem changeSelection_schedule (sel : Selection) (s : State) : (changeSelection sel s).schedule = s.schedule :=
  (congrArg State.schedule (changeSelection_frame sel s) :)
@[simp] theorem changeSelection_engine (sel : Selection) (s : State) : (changeSelection sel s).engine = s.engine :=
  (congrArg State.engine (changeSelection_frame sel s) :)
@[simp] theorem changeSelection_image (sel : Selection) (s : State) : (changeSelection sel s).image = s.image :=
  (congrArg State.image (changeSelection_frame sel s) :)
@[simp] theorem changeSelection_foreign (sel : Selection) (s : State) : (changeSelection sel s).foreign = s.foreign :=
  (congrArg State.foreign (changeSelection_frame sel s) :)
@[simp] theorem changeSelection_mismatches (sel : Selection) (s : State) : (changeSelection sel s).mismatches = s.mismatches :=
  (congrArg State.mismatches (changeSelection_frame sel s) :)

/-- All that selectFocus can change. -/
theorem selectFocus_frame (k : Computer) (cause : Cause) (s : State) :
    selectFocus k cause s = { s with sent := (selectFocus k cause s).sent, console := (selectFocus k cause s).console, keys := (selectFocus k cause s).keys, focusUnit := (selectFocus k cause s).focusUnit, pointer := (selectFocus k cause s).pointer, ports := (selectFocus k cause s).ports, journal := (selectFocus k cause s).journal } := by
  apply State.eq_of_fields
  all_goals first
    | with_reducible rfl
    | (unfold selectFocus; split <;> simp)
@[simp] theorem selectFocus_pending (k : Computer) (cause : Cause) (s : State) : (selectFocus k cause s).pending = s.pending :=
  (congrArg State.pending (selectFocus_frame k cause s) :)
@[simp] theorem selectFocus_freeUses (k : Computer) (cause : Cause) (s : State) : (selectFocus k cause s).freeUses = s.freeUses :=
  (congrArg State.freeUses (selectFocus_frame k cause s) :)
@[simp] theorem selectFocus_clock (k : Computer) (cause : Cause) (s : State) : (selectFocus k cause s).clock = s.clock :=
  (congrArg State.clock (selectFocus_frame k cause s) :)
@[simp] theorem selectFocus_settings (k : Computer) (cause : Cause) (s : State) : (selectFocus k cause s).settings = s.settings :=
  (congrArg State.settings (selectFocus_frame k cause s) :)
@[simp] theorem selectFocus_tables (k : Computer) (cause : Cause) (s : State) : (selectFocus k cause s).tables = s.tables :=
  (congrArg State.tables (selectFocus_frame k cause s) :)
@[simp] theorem selectFocus_recognizer (k : Computer) (cause : Cause) (s : State) : (selectFocus k cause s).recognizer = s.recognizer :=
  (congrArg State.recognizer (selectFocus_frame k cause s) :)
@[simp] theorem selectFocus_video (k : Computer) (cause : Cause) (s : State) : (selectFocus k cause s).video = s.video :=
  (congrArg State.video (selectFocus_frame k cause s) :)
@[simp] theorem selectFocus_schedule (k : Computer) (cause : Cause) (s : State) : (selectFocus k cause s).schedule = s.schedule :=
  (congrArg State.schedule (selectFocus_frame k cause s) :)
@[simp] theorem selectFocus_engine (k : Computer) (cause : Cause) (s : State) : (selectFocus k cause s).engine = s.engine :=
  (congrArg State.engine (selectFocus_frame k cause s) :)
@[simp] theorem selectFocus_image (k : Computer) (cause : Cause) (s : State) : (selectFocus k cause s).image = s.image :=
  (congrArg State.image (selectFocus_frame k cause s) :)
@[simp] theorem selectFocus_foreign (k : Computer) (cause : Cause) (s : State) : (selectFocus k cause s).foreign = s.foreign :=
  (congrArg State.foreign (selectFocus_frame k cause s) :)
@[simp] theorem selectFocus_mismatches (k : Computer) (cause : Cause) (s : State) : (selectFocus k cause s).mismatches = s.mismatches :=
  (congrArg State.mismatches (selectFocus_frame k cause s) :)

/-- All that doSelect can change. -/
theorem doSelect_frame (k : Computer) (cause : Cause) (s : State) :
    (doSelect k cause s).state = { s with sent := ((doSelect k cause s).state).sent, console := ((doSelect k cause s).state).console, keys := ((doSelect k cause s).state).keys, focusUnit := ((doSelect k cause s).state).focusUnit, pointer := ((doSelect k cause s).state).pointer, ports := ((doSelect k cause s).state).ports, journal := ((doSelect k cause s).state).journal, video := ((doSelect k cause s).state).video, engine := ((doSelect k cause s).state).engine } := by
  apply State.eq_of_fields
  all_goals first
    | with_reducible rfl
    | (unfold doSelect; split <;> simp)
@[simp] theorem doSelect_pending (k : Computer) (cause : Cause) (s : State) : ((doSelect k cause s).state).pending = s.pending :=
  (congrArg State.pending (doSelect_frame k cause s) :)
@[simp] theorem doSelect_freeUses (k : Computer) (cause : Cause) (s : State) : ((doSelect k cause s).state).freeUses = s.freeUses :=
  (congrArg State.freeUses (doSelect_frame k cause s) :)
@[simp] theorem doSelect_clock (k : Computer) (cause : Cause) (s : State) : ((doSelect k cause s).state).clock = s.clock :=
  (congrArg State.clock (doSelect_frame k cause s) :)
@[simp] theorem doSelect_settings (k : Computer) (cause : Cause) (s : State) : ((doSelect k cause s).state).settings = s.settings :=
  (congrArg State.settings (doSelect_frame k cause s) :)
@[simp] theorem doSelect_tables (k : Computer) (cause : Cause) (s : State) : ((doSelect k cause s).state).tables = s.tables :=
  (congrArg State.tables (doSelect_frame k cause s) :)
@[simp] theorem doSelect_recognizer (k : Computer) (cause : Cause) (s : State) : ((doSelect k cause s).state).recognizer = s.recognizer :=
  (congrArg State.recognizer (doSelect_frame k cause s) :)
@[simp] theorem doSelect_schedule (k : Computer) (cause : Cause) (s : State) : ((doSelect k cause s).state).schedule = s.schedule :=
  (congrArg State.schedule (doSelect_frame k cause s) :)
@[simp] theorem doSelect_image (k : Computer) (cause : Cause) (s : State) : ((doSelect k cause s).state).image = s.image :=
  (congrArg State.image (doSelect_frame k cause s) :)
@[simp] theorem doSelect_foreign (k : Computer) (cause : Cause) (s : State) : ((doSelect k cause s).state).foreign = s.foreign :=
  (congrArg State.foreign (doSelect_frame k cause s) :)
@[simp] theorem doSelect_mismatches (k : Computer) (cause : Cause) (s : State) : ((doSelect k cause s).state).mismatches = s.mismatches :=
  (congrArg State.mismatches (doSelect_frame k cause s) :)

/-- All that presetShare can change. -/
theorem presetShare_frame (pr : Preset) (s : State) :
    presetShare pr s = { s with video := (presetShare pr s).video, journal := (presetShare pr s).journal } := by
  apply State.eq_of_fields
  all_goals first
    | with_reducible rfl
    | (unfold presetShare; split <;> simp)
@[simp] theorem presetShare_pending (pr : Preset) (s : State) : (presetShare pr s).pending = s.pending :=
  (congrArg State.pending (presetShare_frame pr s) :)
@[simp] theorem presetShare_sent (pr : Preset) (s : State) : (presetShare pr s).sent = s.sent :=
  (congrArg State.sent (presetShare_frame pr s) :)
@[simp] theorem presetShare_freeUses (pr : Preset) (s : State) : (presetShare pr s).freeUses = s.freeUses :=
  (congrArg State.freeUses (presetShare_frame pr s) :)
@[simp] theorem presetShare_clock (pr : Preset) (s : State) : (presetShare pr s).clock = s.clock :=
  (congrArg State.clock (presetShare_frame pr s) :)
@[simp] theorem presetShare_settings (pr : Preset) (s : State) : (presetShare pr s).settings = s.settings :=
  (congrArg State.settings (presetShare_frame pr s) :)
@[simp] theorem presetShare_tables (pr : Preset) (s : State) : (presetShare pr s).tables = s.tables :=
  (congrArg State.tables (presetShare_frame pr s) :)
@[simp] theorem presetShare_console (pr : Preset) (s : State) : (presetShare pr s).console = s.console :=
  (congrArg State.console (presetShare_frame pr s) :)
@[simp] theorem presetShare_keys (pr : Preset) (s : State) : (presetShare pr s).keys = s.keys :=
  (congrArg State.keys (presetShare_frame pr s) :)
@[simp] theorem presetShare_recognizer (pr : Preset) (s : State) : (presetShare pr s).recognizer = s.recognizer :=
  (congrArg State.recognizer (presetShare_frame pr s) :)
@[simp] theorem presetShare_focusUnit (pr : Preset) (s : State) : (presetShare pr s).focusUnit = s.focusUnit :=
  (congrArg State.focusUnit (presetShare_frame pr s) :)
@[simp] theorem presetShare_pointer (pr : Preset) (s : State) : (presetShare pr s).pointer = s.pointer :=
  (congrArg State.pointer (presetShare_frame pr s) :)
@[simp] theorem presetShare_ports (pr : Preset) (s : State) : (presetShare pr s).ports = s.ports :=
  (congrArg State.ports (presetShare_frame pr s) :)
@[simp] theorem presetShare_schedule (pr : Preset) (s : State) : (presetShare pr s).schedule = s.schedule :=
  (congrArg State.schedule (presetShare_frame pr s) :)
@[simp] theorem presetShare_engine (pr : Preset) (s : State) : (presetShare pr s).engine = s.engine :=
  (congrArg State.engine (presetShare_frame pr s) :)
@[simp] theorem presetShare_image (pr : Preset) (s : State) : (presetShare pr s).image = s.image :=
  (congrArg State.image (presetShare_frame pr s) :)
@[simp] theorem presetShare_foreign (pr : Preset) (s : State) : (presetShare pr s).foreign = s.foreign :=
  (congrArg State.foreign (presetShare_frame pr s) :)
@[simp] theorem presetShare_mismatches (pr : Preset) (s : State) : (presetShare pr s).mismatches = s.mismatches :=
  (congrArg State.mismatches (presetShare_frame pr s) :)

/-- All that presetFocus can change. -/
theorem presetFocus_frame (pr : Preset) (s : State) :
    presetFocus pr s = { s with sent := (presetFocus pr s).sent, console := (presetFocus pr s).console, keys := (presetFocus pr s).keys, focusUnit := (presetFocus pr s).focusUnit, pointer := (presetFocus pr s).pointer, ports := (presetFocus pr s).ports, journal := (presetFocus pr s).journal } := by
  apply State.eq_of_fields
  all_goals first
    | with_reducible rfl
    | (unfold presetFocus; split <;> simp)
@[simp] theorem presetFocus_pending (pr : Preset) (s : State) : (presetFocus pr s).pending = s.pending :=
  (congrArg State.pending (presetFocus_frame pr s) :)
@[simp] theorem presetFocus_freeUses (pr : Preset) (s : State) : (presetFocus pr s).freeUses = s.freeUses :=
  (congrArg State.freeUses (presetFocus_frame pr s) :)
@[simp] theorem presetFocus_clock (pr : Preset) (s : State) : (presetFocus pr s).clock = s.clock :=
  (congrArg State.clock (presetFocus_frame pr s) :)
@[simp] theorem presetFocus_settings (pr : Preset) (s : State) : (presetFocus pr s).settings = s.settings :=
  (congrArg State.settings (presetFocus_frame pr s) :)
@[simp] theorem presetFocus_tables (pr : Preset) (s : State) : (presetFocus pr s).tables = s.tables :=
  (congrArg State.tables (presetFocus_frame pr s) :)
@[simp] theorem presetFocus_recognizer (pr : Preset) (s : State) : (presetFocus pr s).recognizer = s.recognizer :=
  (congrArg State.recognizer (presetFocus_frame pr s) :)
@[simp] theorem presetFocus_video (pr : Preset) (s : State) : (presetFocus pr s).video = s.video :=
  (congrArg State.video (presetFocus_frame pr s) :)
@[simp] theorem presetFocus_schedule (pr : Preset) (s : State) : (presetFocus pr s).schedule = s.schedule :=
  (congrArg State.schedule (presetFocus_frame pr s) :)
@[simp] theorem presetFocus_engine (pr : Preset) (s : State) : (presetFocus pr s).engine = s.engine :=
  (congrArg State.engine (presetFocus_frame pr s) :)
@[simp] theorem presetFocus_image (pr : Preset) (s : State) : (presetFocus pr s).image = s.image :=
  (congrArg State.image (presetFocus_frame pr s) :)
@[simp] theorem presetFocus_foreign (pr : Preset) (s : State) : (presetFocus pr s).foreign = s.foreign :=
  (congrArg State.foreign (presetFocus_frame pr s) :)
@[simp] theorem presetFocus_mismatches (pr : Preset) (s : State) : (presetFocus pr s).mismatches = s.mismatches :=
  (congrArg State.mismatches (presetFocus_frame pr s) :)

/-- All that doPreset can change. -/
theorem doPreset_frame (p : PresetIndex) (s : State) :
    (doPreset p s).state = { s with sent := ((doPreset p s).state).sent, console := ((doPreset p s).state).console, keys := ((doPreset p s).state).keys, focusUnit := ((doPreset p s).state).focusUnit, pointer := ((doPreset p s).state).pointer, ports := ((doPreset p s).state).ports, journal := ((doPreset p s).state).journal, video := ((doPreset p s).state).video, engine := ((doPreset p s).state).engine } := by
  apply State.eq_of_fields
  all_goals first
    | with_reducible rfl
    | (unfold doPreset; simp)
@[simp] theorem doPreset_pending (p : PresetIndex) (s : State) : ((doPreset p s).state).pending = s.pending :=
  (congrArg State.pending (doPreset_frame p s) :)
@[simp] theorem doPreset_freeUses (p : PresetIndex) (s : State) : ((doPreset p s).state).freeUses = s.freeUses :=
  (congrArg State.freeUses (doPreset_frame p s) :)
@[simp] theorem doPreset_clock (p : PresetIndex) (s : State) : ((doPreset p s).state).clock = s.clock :=
  (congrArg State.clock (doPreset_frame p s) :)
@[simp] theorem doPreset_settings (p : PresetIndex) (s : State) : ((doPreset p s).state).settings = s.settings :=
  (congrArg State.settings (doPreset_frame p s) :)
@[simp] theorem doPreset_tables (p : PresetIndex) (s : State) : ((doPreset p s).state).tables = s.tables :=
  (congrArg State.tables (doPreset_frame p s) :)
@[simp] theorem doPreset_recognizer (p : PresetIndex) (s : State) : ((doPreset p s).state).recognizer = s.recognizer :=
  (congrArg State.recognizer (doPreset_frame p s) :)
@[simp] theorem doPreset_schedule (p : PresetIndex) (s : State) : ((doPreset p s).state).schedule = s.schedule :=
  (congrArg State.schedule (doPreset_frame p s) :)
@[simp] theorem doPreset_image (p : PresetIndex) (s : State) : ((doPreset p s).state).image = s.image :=
  (congrArg State.image (doPreset_frame p s) :)
@[simp] theorem doPreset_foreign (p : PresetIndex) (s : State) : ((doPreset p s).state).foreign = s.foreign :=
  (congrArg State.foreign (doPreset_frame p s) :)
@[simp] theorem doPreset_mismatches (p : PresetIndex) (s : State) : ((doPreset p s).state).mismatches = s.mismatches :=
  (congrArg State.mismatches (doPreset_frame p s) :)

/-- All that answerSelection can change. -/
theorem answerSelection_frame (sel : Selection) (s : State) :
    (answerSelection sel s).state = { s with video := ((answerSelection sel s).state).video, journal := ((answerSelection sel s).state).journal } := by
  apply State.eq_of_fields
  all_goals first
    | with_reducible rfl
    | (unfold answerSelection; simp)
@[simp] theorem answerSelection_pending (sel : Selection) (s : State) : ((answerSelection sel s).state).pending = s.pending :=
  (congrArg State.pending (answerSelection_frame sel s) :)
@[simp] theorem answerSelection_sent (sel : Selection) (s : State) : ((answerSelection sel s).state).sent = s.sent :=
  (congrArg State.sent (answerSelection_frame sel s) :)
@[simp] theorem answerSelection_freeUses (sel : Selection) (s : State) : ((answerSelection sel s).state).freeUses = s.freeUses :=
  (congrArg State.freeUses (answerSelection_frame sel s) :)
@[simp] theorem answerSelection_clock (sel : Selection) (s : State) : ((answerSelection sel s).state).clock = s.clock :=
  (congrArg State.clock (answerSelection_frame sel s) :)
@[simp] theorem answerSelection_settings (sel : Selection) (s : State) : ((answerSelection sel s).state).settings = s.settings :=
  (congrArg State.settings (answerSelection_frame sel s) :)
@[simp] theorem answerSelection_tables (sel : Selection) (s : State) : ((answerSelection sel s).state).tables = s.tables :=
  (congrArg State.tables (answerSelection_frame sel s) :)
@[simp] theorem answerSelection_console (sel : Selection) (s : State) : ((answerSelection sel s).state).console = s.console :=
  (congrArg State.console (answerSelection_frame sel s) :)
@[simp] theorem answerSelection_keys (sel : Selection) (s : State) : ((answerSelection sel s).state).keys = s.keys :=
  (congrArg State.keys (answerSelection_frame sel s) :)
@[simp] theorem answerSelection_recognizer (sel : Selection) (s : State) : ((answerSelection sel s).state).recognizer = s.recognizer :=
  (congrArg State.recognizer (answerSelection_frame sel s) :)
@[simp] theorem answerSelection_focusUnit (sel : Selection) (s : State) : ((answerSelection sel s).state).focusUnit = s.focusUnit :=
  (congrArg State.focusUnit (answerSelection_frame sel s) :)
@[simp] theorem answerSelection_pointer (sel : Selection) (s : State) : ((answerSelection sel s).state).pointer = s.pointer :=
  (congrArg State.pointer (answerSelection_frame sel s) :)
@[simp] theorem answerSelection_ports (sel : Selection) (s : State) : ((answerSelection sel s).state).ports = s.ports :=
  (congrArg State.ports (answerSelection_frame sel s) :)
@[simp] theorem answerSelection_schedule (sel : Selection) (s : State) : ((answerSelection sel s).state).schedule = s.schedule :=
  (congrArg State.schedule (answerSelection_frame sel s) :)
@[simp] theorem answerSelection_engine (sel : Selection) (s : State) : ((answerSelection sel s).state).engine = s.engine :=
  (congrArg State.engine (answerSelection_frame sel s) :)
@[simp] theorem answerSelection_image (sel : Selection) (s : State) : ((answerSelection sel s).state).image = s.image :=
  (congrArg State.image (answerSelection_frame sel s) :)
@[simp] theorem answerSelection_foreign (sel : Selection) (s : State) : ((answerSelection sel s).state).foreign = s.foreign :=
  (congrArg State.foreign (answerSelection_frame sel s) :)
@[simp] theorem answerSelection_mismatches (sel : Selection) (s : State) : ((answerSelection sel s).state).mismatches = s.mismatches :=
  (congrArg State.mismatches (answerSelection_frame sel s) :)

/-- All that doShare can change. -/
theorem doShare_frame (s : State) :
    (doShare s).state = { s with video := ((doShare s).state).video, journal := ((doShare s).state).journal } := by
  apply State.eq_of_fields
  all_goals first
    | with_reducible rfl
    | (unfold doShare; split <;> simp)
@[simp] theorem doShare_pending (s : State) : ((doShare s).state).pending = s.pending :=
  (congrArg State.pending (doShare_frame s) :)
@[simp] theorem doShare_sent (s : State) : ((doShare s).state).sent = s.sent :=
  (congrArg State.sent (doShare_frame s) :)
@[simp] theorem doShare_freeUses (s : State) : ((doShare s).state).freeUses = s.freeUses :=
  (congrArg State.freeUses (doShare_frame s) :)
@[simp] theorem doShare_clock (s : State) : ((doShare s).state).clock = s.clock :=
  (congrArg State.clock (doShare_frame s) :)
@[simp] theorem doShare_settings (s : State) : ((doShare s).state).settings = s.settings :=
  (congrArg State.settings (doShare_frame s) :)
@[simp] theorem doShare_tables (s : State) : ((doShare s).state).tables = s.tables :=
  (congrArg State.tables (doShare_frame s) :)
@[simp] theorem doShare_console (s : State) : ((doShare s).state).console = s.console :=
  (congrArg State.console (doShare_frame s) :)
@[simp] theorem doShare_keys (s : State) : ((doShare s).state).keys = s.keys :=
  (congrArg State.keys (doShare_frame s) :)
@[simp] theorem doShare_recognizer (s : State) : ((doShare s).state).recognizer = s.recognizer :=
  (congrArg State.recognizer (doShare_frame s) :)
@[simp] theorem doShare_focusUnit (s : State) : ((doShare s).state).focusUnit = s.focusUnit :=
  (congrArg State.focusUnit (doShare_frame s) :)
@[simp] theorem doShare_pointer (s : State) : ((doShare s).state).pointer = s.pointer :=
  (congrArg State.pointer (doShare_frame s) :)
@[simp] theorem doShare_ports (s : State) : ((doShare s).state).ports = s.ports :=
  (congrArg State.ports (doShare_frame s) :)
@[simp] theorem doShare_schedule (s : State) : ((doShare s).state).schedule = s.schedule :=
  (congrArg State.schedule (doShare_frame s) :)
@[simp] theorem doShare_engine (s : State) : ((doShare s).state).engine = s.engine :=
  (congrArg State.engine (doShare_frame s) :)
@[simp] theorem doShare_image (s : State) : ((doShare s).state).image = s.image :=
  (congrArg State.image (doShare_frame s) :)
@[simp] theorem doShare_foreign (s : State) : ((doShare s).state).foreign = s.foreign :=
  (congrArg State.foreign (doShare_frame s) :)
@[simp] theorem doShare_mismatches (s : State) : ((doShare s).state).mismatches = s.mismatches :=
  (congrArg State.mismatches (doShare_frame s) :)

/-- All that doShareFor can change. -/
theorem doShareFor_frame (t : Nat) (cause : Cause) (s : State) :
    (doShareFor t cause s).state = { s with video := ((doShareFor t cause s).state).video, journal := ((doShareFor t cause s).state).journal, schedule := ((doShareFor t cause s).state).schedule } := by
  apply State.eq_of_fields
  all_goals first
    | with_reducible rfl
    | (unfold doShareFor; (try dsimp only); repeat' split
       all_goals simp)
@[simp] theorem doShareFor_pending (t : Nat) (cause : Cause) (s : State) : ((doShareFor t cause s).state).pending = s.pending :=
  (congrArg State.pending (doShareFor_frame t cause s) :)
@[simp] theorem doShareFor_sent (t : Nat) (cause : Cause) (s : State) : ((doShareFor t cause s).state).sent = s.sent :=
  (congrArg State.sent (doShareFor_frame t cause s) :)
@[simp] theorem doShareFor_freeUses (t : Nat) (cause : Cause) (s : State) : ((doShareFor t cause s).state).freeUses = s.freeUses :=
  (congrArg State.freeUses (doShareFor_frame t cause s) :)
@[simp] theorem doShareFor_clock (t : Nat) (cause : Cause) (s : State) : ((doShareFor t cause s).state).clock = s.clock :=
  (congrArg State.clock (doShareFor_frame t cause s) :)
@[simp] theorem doShareFor_settings (t : Nat) (cause : Cause) (s : State) : ((doShareFor t cause s).state).settings = s.settings :=
  (congrArg State.settings (doShareFor_frame t cause s) :)
@[simp] theorem doShareFor_tables (t : Nat) (cause : Cause) (s : State) : ((doShareFor t cause s).state).tables = s.tables :=
  (congrArg State.tables (doShareFor_frame t cause s) :)
@[simp] theorem doShareFor_console (t : Nat) (cause : Cause) (s : State) : ((doShareFor t cause s).state).console = s.console :=
  (congrArg State.console (doShareFor_frame t cause s) :)
@[simp] theorem doShareFor_keys (t : Nat) (cause : Cause) (s : State) : ((doShareFor t cause s).state).keys = s.keys :=
  (congrArg State.keys (doShareFor_frame t cause s) :)
@[simp] theorem doShareFor_recognizer (t : Nat) (cause : Cause) (s : State) : ((doShareFor t cause s).state).recognizer = s.recognizer :=
  (congrArg State.recognizer (doShareFor_frame t cause s) :)
@[simp] theorem doShareFor_focusUnit (t : Nat) (cause : Cause) (s : State) : ((doShareFor t cause s).state).focusUnit = s.focusUnit :=
  (congrArg State.focusUnit (doShareFor_frame t cause s) :)
@[simp] theorem doShareFor_pointer (t : Nat) (cause : Cause) (s : State) : ((doShareFor t cause s).state).pointer = s.pointer :=
  (congrArg State.pointer (doShareFor_frame t cause s) :)
@[simp] theorem doShareFor_ports (t : Nat) (cause : Cause) (s : State) : ((doShareFor t cause s).state).ports = s.ports :=
  (congrArg State.ports (doShareFor_frame t cause s) :)
@[simp] theorem doShareFor_engine (t : Nat) (cause : Cause) (s : State) : ((doShareFor t cause s).state).engine = s.engine :=
  (congrArg State.engine (doShareFor_frame t cause s) :)
@[simp] theorem doShareFor_image (t : Nat) (cause : Cause) (s : State) : ((doShareFor t cause s).state).image = s.image :=
  (congrArg State.image (doShareFor_frame t cause s) :)
@[simp] theorem doShareFor_foreign (t : Nat) (cause : Cause) (s : State) : ((doShareFor t cause s).state).foreign = s.foreign :=
  (congrArg State.foreign (doShareFor_frame t cause s) :)
@[simp] theorem doShareFor_mismatches (t : Nat) (cause : Cause) (s : State) : ((doShareFor t cause s).state).mismatches = s.mismatches :=
  (congrArg State.mismatches (doShareFor_frame t cause s) :)

/-- All that runAction can change. -/
theorem runAction_frame (a : Action) (cause : Cause) (s : State) :
    (runAction a cause s).state = { s with sent := ((runAction a cause s).state).sent, console := ((runAction a cause s).state).console, keys := ((runAction a cause s).state).keys, focusUnit := ((runAction a cause s).state).focusUnit, pointer := ((runAction a cause s).state).pointer, ports := ((runAction a cause s).state).ports, journal := ((runAction a cause s).state).journal, video := ((runAction a cause s).state).video, engine := ((runAction a cause s).state).engine, schedule := ((runAction a cause s).state).schedule, tables := ((runAction a cause s).state).tables } := by
  apply State.eq_of_fields
  all_goals first
    | with_reducible rfl
    | (cases a <;> simp [runAction])
@[simp] theorem runAction_pending (a : Action) (cause : Cause) (s : State) : ((runAction a cause s).state).pending = s.pending :=
  (congrArg State.pending (runAction_frame a cause s) :)
@[simp] theorem runAction_freeUses (a : Action) (cause : Cause) (s : State) : ((runAction a cause s).state).freeUses = s.freeUses :=
  (congrArg State.freeUses (runAction_frame a cause s) :)
@[simp] theorem runAction_clock (a : Action) (cause : Cause) (s : State) : ((runAction a cause s).state).clock = s.clock :=
  (congrArg State.clock (runAction_frame a cause s) :)
@[simp] theorem runAction_settings (a : Action) (cause : Cause) (s : State) : ((runAction a cause s).state).settings = s.settings :=
  (congrArg State.settings (runAction_frame a cause s) :)
@[simp] theorem runAction_recognizer (a : Action) (cause : Cause) (s : State) : ((runAction a cause s).state).recognizer = s.recognizer :=
  (congrArg State.recognizer (runAction_frame a cause s) :)
@[simp] theorem runAction_image (a : Action) (cause : Cause) (s : State) : ((runAction a cause s).state).image = s.image :=
  (congrArg State.image (runAction_frame a cause s) :)
@[simp] theorem runAction_foreign (a : Action) (cause : Cause) (s : State) : ((runAction a cause s).state).foreign = s.foreign :=
  (congrArg State.foreign (runAction_frame a cause s) :)
@[simp] theorem runAction_mismatches (a : Action) (cause : Cause) (s : State) : ((runAction a cause s).state).mismatches = s.mismatches :=
  (congrArg State.mismatches (runAction_frame a cause s) :)

/-- All that fireHotkey can change. -/
theorem fireHotkey_frame (h : Hotkey) (s : State) :
    fireHotkey h s = { s with sent := (fireHotkey h s).sent, console := (fireHotkey h s).console, keys := (fireHotkey h s).keys, focusUnit := (fireHotkey h s).focusUnit, pointer := (fireHotkey h s).pointer, ports := (fireHotkey h s).ports, journal := (fireHotkey h s).journal, video := (fireHotkey h s).video, engine := (fireHotkey h s).engine, schedule := (fireHotkey h s).schedule, tables := (fireHotkey h s).tables } := by
  apply State.eq_of_fields
  all_goals first
    | with_reducible rfl
    | (unfold fireHotkey; (try dsimp only); repeat' split
       all_goals simp)
@[simp] theorem fireHotkey_pending (h : Hotkey) (s : State) : (fireHotkey h s).pending = s.pending :=
  (congrArg State.pending (fireHotkey_frame h s) :)
@[simp] theorem fireHotkey_freeUses (h : Hotkey) (s : State) : (fireHotkey h s).freeUses = s.freeUses :=
  (congrArg State.freeUses (fireHotkey_frame h s) :)
@[simp] theorem fireHotkey_clock (h : Hotkey) (s : State) : (fireHotkey h s).clock = s.clock :=
  (congrArg State.clock (fireHotkey_frame h s) :)
@[simp] theorem fireHotkey_settings (h : Hotkey) (s : State) : (fireHotkey h s).settings = s.settings :=
  (congrArg State.settings (fireHotkey_frame h s) :)
@[simp] theorem fireHotkey_recognizer (h : Hotkey) (s : State) : (fireHotkey h s).recognizer = s.recognizer :=
  (congrArg State.recognizer (fireHotkey_frame h s) :)
@[simp] theorem fireHotkey_image (h : Hotkey) (s : State) : (fireHotkey h s).image = s.image :=
  (congrArg State.image (fireHotkey_frame h s) :)
@[simp] theorem fireHotkey_foreign (h : Hotkey) (s : State) : (fireHotkey h s).foreign = s.foreign :=
  (congrArg State.foreign (fireHotkey_frame h s) :)
@[simp] theorem fireHotkey_mismatches (h : Hotkey) (s : State) : (fireHotkey h s).mismatches = s.mismatches :=
  (congrArg State.mismatches (fireHotkey_frame h s) :)

/-- All that returnToIdle can change. -/
theorem returnToIdle_frame (s : State) :
    returnToIdle s = { s with sent := (returnToIdle s).sent, console := (returnToIdle s).console, recognizer := (returnToIdle s).recognizer } := by
  apply State.eq_of_fields
  all_goals first
    | with_reducible rfl
    | (unfold returnToIdle; split <;> simp)
@[simp] theorem returnToIdle_pending (s : State) : (returnToIdle s).pending = s.pending :=
  (congrArg State.pending (returnToIdle_frame s) :)
@[simp] theorem returnToIdle_freeUses (s : State) : (returnToIdle s).freeUses = s.freeUses :=
  (congrArg State.freeUses (returnToIdle_frame s) :)
@[simp] theorem returnToIdle_clock (s : State) : (returnToIdle s).clock = s.clock :=
  (congrArg State.clock (returnToIdle_frame s) :)
@[simp] theorem returnToIdle_settings (s : State) : (returnToIdle s).settings = s.settings :=
  (congrArg State.settings (returnToIdle_frame s) :)
@[simp] theorem returnToIdle_tables (s : State) : (returnToIdle s).tables = s.tables :=
  (congrArg State.tables (returnToIdle_frame s) :)
@[simp] theorem returnToIdle_keys (s : State) : (returnToIdle s).keys = s.keys :=
  (congrArg State.keys (returnToIdle_frame s) :)
@[simp] theorem returnToIdle_focusUnit (s : State) : (returnToIdle s).focusUnit = s.focusUnit :=
  (congrArg State.focusUnit (returnToIdle_frame s) :)
@[simp] theorem returnToIdle_pointer (s : State) : (returnToIdle s).pointer = s.pointer :=
  (congrArg State.pointer (returnToIdle_frame s) :)
@[simp] theorem returnToIdle_ports (s : State) : (returnToIdle s).ports = s.ports :=
  (congrArg State.ports (returnToIdle_frame s) :)
@[simp] theorem returnToIdle_video (s : State) : (returnToIdle s).video = s.video :=
  (congrArg State.video (returnToIdle_frame s) :)
@[simp] theorem returnToIdle_schedule (s : State) : (returnToIdle s).schedule = s.schedule :=
  (congrArg State.schedule (returnToIdle_frame s) :)
@[simp] theorem returnToIdle_engine (s : State) : (returnToIdle s).engine = s.engine :=
  (congrArg State.engine (returnToIdle_frame s) :)
@[simp] theorem returnToIdle_journal (s : State) : (returnToIdle s).journal = s.journal :=
  (congrArg State.journal (returnToIdle_frame s) :)
@[simp] theorem returnToIdle_image (s : State) : (returnToIdle s).image = s.image :=
  (congrArg State.image (returnToIdle_frame s) :)
@[simp] theorem returnToIdle_foreign (s : State) : (returnToIdle s).foreign = s.foreign :=
  (congrArg State.foreign (returnToIdle_frame s) :)
@[simp] theorem returnToIdle_mismatches (s : State) : (returnToIdle s).mismatches = s.mismatches :=
  (congrArg State.mismatches (returnToIdle_frame s) :)

/-- All that enterCommand can change. -/
theorem enterCommand_frame (s : State) :
    enterCommand s = { s with sent := (enterCommand s).sent, console := (enterCommand s).console, recognizer := (enterCommand s).recognizer } := by
  apply State.eq_of_fields
  all_goals first
    | with_reducible rfl
    | (unfold enterCommand; simp)
@[simp] theorem enterCommand_pending (s : State) : (enterCommand s).pending = s.pending :=
  (congrArg State.pending (enterCommand_frame s) :)
@[simp] theorem enterCommand_freeUses (s : State) : (enterCommand s).freeUses = s.freeUses :=
  (congrArg State.freeUses (enterCommand_frame s) :)
@[simp] theorem enterCommand_clock (s : State) : (enterCommand s).clock = s.clock :=
  (congrArg State.clock (enterCommand_frame s) :)
@[simp] theorem enterCommand_settings (s : State) : (enterCommand s).settings = s.settings :=
  (congrArg State.settings (enterCommand_frame s) :)
@[simp] theorem enterCommand_tables (s : State) : (enterCommand s).tables = s.tables :=
  (congrArg State.tables (enterCommand_frame s) :)
@[simp] theorem enterCommand_keys (s : State) : (enterCommand s).keys = s.keys :=
  (congrArg State.keys (enterCommand_frame s) :)
@[simp] theorem enterCommand_focusUnit (s : State) : (enterCommand s).focusUnit = s.focusUnit :=
  (congrArg State.focusUnit (enterCommand_frame s) :)
@[simp] theorem enterCommand_pointer (s : State) : (enterCommand s).pointer = s.pointer :=
  (congrArg State.pointer (enterCommand_frame s) :)
@[simp] theorem enterCommand_ports (s : State) : (enterCommand s).ports = s.ports :=
  (congrArg State.ports (enterCommand_frame s) :)
@[simp] theorem enterCommand_video (s : State) : (enterCommand s).video = s.video :=
  (congrArg State.video (enterCommand_frame s) :)
@[simp] theorem enterCommand_schedule (s : State) : (enterCommand s).schedule = s.schedule :=
  (congrArg State.schedule (enterCommand_frame s) :)
@[simp] theorem enterCommand_engine (s : State) : (enterCommand s).engine = s.engine :=
  (congrArg State.engine (enterCommand_frame s) :)
@[simp] theorem enterCommand_journal (s : State) : (enterCommand s).journal = s.journal :=
  (congrArg State.journal (enterCommand_frame s) :)
@[simp] theorem enterCommand_image (s : State) : (enterCommand s).image = s.image :=
  (congrArg State.image (enterCommand_frame s) :)
@[simp] theorem enterCommand_foreign (s : State) : (enterCommand s).foreign = s.foreign :=
  (congrArg State.foreign (enterCommand_frame s) :)
@[simp] theorem enterCommand_mismatches (s : State) : (enterCommand s).mismatches = s.mismatches :=
  (congrArg State.mismatches (enterCommand_frame s) :)

/-- All that pressOther can change. -/
theorem pressOther_frame (usage : Byte) (s : State) :
    (pressOther usage s).1 = { s with sent := ((pressOther usage s).1).sent, console := ((pressOther usage s).1).console, keys := ((pressOther usage s).1).keys, focusUnit := ((pressOther usage s).1).focusUnit, pointer := ((pressOther usage s).1).pointer, ports := ((pressOther usage s).1).ports, journal := ((pressOther usage s).1).journal, video := ((pressOther usage s).1).video, engine := ((pressOther usage s).1).engine, schedule := ((pressOther usage s).1).schedule, tables := ((pressOther usage s).1).tables, recognizer := ((pressOther usage s).1).recognizer } := by
  apply State.eq_of_fields
  all_goals first
    | with_reducible rfl
    | (unfold pressOther; split <;> simp)
@[simp] theorem pressOther_pending (usage : Byte) (s : State) : ((pressOther usage s).1).pending = s.pending :=
  (congrArg State.pending (pressOther_frame usage s) :)
@[simp] theorem pressOther_freeUses (usage : Byte) (s : State) : ((pressOther usage s).1).freeUses = s.freeUses :=
  (congrArg State.freeUses (pressOther_frame usage s) :)
@[simp] theorem pressOther_clock (usage : Byte) (s : State) : ((pressOther usage s).1).clock = s.clock :=
  (congrArg State.clock (pressOther_frame usage s) :)
@[simp] theorem pressOther_settings (usage : Byte) (s : State) : ((pressOther usage s).1).settings = s.settings :=
  (congrArg State.settings (pressOther_frame usage s) :)
@[simp] theorem pressOther_image (usage : Byte) (s : State) : ((pressOther usage s).1).image = s.image :=
  (congrArg State.image (pressOther_frame usage s) :)
@[simp] theorem pressOther_foreign (usage : Byte) (s : State) : ((pressOther usage s).1).foreign = s.foreign :=
  (congrArg State.foreign (pressOther_frame usage s) :)
@[simp] theorem pressOther_mismatches (usage : Byte) (s : State) : ((pressOther usage s).1).mismatches = s.mismatches :=
  (congrArg State.mismatches (pressOther_frame usage s) :)

/-- All that pressLeader can change. -/
theorem pressLeader_frame (slot : Slot) (s : State) :
    pressLeader slot s = { s with recognizer := (pressLeader slot s).recognizer } := by
  apply State.eq_of_fields
  all_goals first
    | with_reducible rfl
    | (unfold pressLeader; (try dsimp only); repeat' split
       all_goals simp)
@[simp] theorem pressLeader_pending (slot : Slot) (s : State) : (pressLeader slot s).pending = s.pending :=
  (congrArg State.pending (pressLeader_frame slot s) :)
@[simp] theorem pressLeader_sent (slot : Slot) (s : State) : (pressLeader slot s).sent = s.sent :=
  (congrArg State.sent (pressLeader_frame slot s) :)
@[simp] theorem pressLeader_freeUses (slot : Slot) (s : State) : (pressLeader slot s).freeUses = s.freeUses :=
  (congrArg State.freeUses (pressLeader_frame slot s) :)
@[simp] theorem pressLeader_clock (slot : Slot) (s : State) : (pressLeader slot s).clock = s.clock :=
  (congrArg State.clock (pressLeader_frame slot s) :)
@[simp] theorem pressLeader_settings (slot : Slot) (s : State) : (pressLeader slot s).settings = s.settings :=
  (congrArg State.settings (pressLeader_frame slot s) :)
@[simp] theorem pressLeader_tables (slot : Slot) (s : State) : (pressLeader slot s).tables = s.tables :=
  (congrArg State.tables (pressLeader_frame slot s) :)
@[simp] theorem pressLeader_console (slot : Slot) (s : State) : (pressLeader slot s).console = s.console :=
  (congrArg State.console (pressLeader_frame slot s) :)
@[simp] theorem pressLeader_keys (slot : Slot) (s : State) : (pressLeader slot s).keys = s.keys :=
  (congrArg State.keys (pressLeader_frame slot s) :)
@[simp] theorem pressLeader_focusUnit (slot : Slot) (s : State) : (pressLeader slot s).focusUnit = s.focusUnit :=
  (congrArg State.focusUnit (pressLeader_frame slot s) :)
@[simp] theorem pressLeader_pointer (slot : Slot) (s : State) : (pressLeader slot s).pointer = s.pointer :=
  (congrArg State.pointer (pressLeader_frame slot s) :)
@[simp] theorem pressLeader_ports (slot : Slot) (s : State) : (pressLeader slot s).ports = s.ports :=
  (congrArg State.ports (pressLeader_frame slot s) :)
@[simp] theorem pressLeader_video (slot : Slot) (s : State) : (pressLeader slot s).video = s.video :=
  (congrArg State.video (pressLeader_frame slot s) :)
@[simp] theorem pressLeader_schedule (slot : Slot) (s : State) : (pressLeader slot s).schedule = s.schedule :=
  (congrArg State.schedule (pressLeader_frame slot s) :)
@[simp] theorem pressLeader_engine (slot : Slot) (s : State) : (pressLeader slot s).engine = s.engine :=
  (congrArg State.engine (pressLeader_frame slot s) :)
@[simp] theorem pressLeader_journal (slot : Slot) (s : State) : (pressLeader slot s).journal = s.journal :=
  (congrArg State.journal (pressLeader_frame slot s) :)
@[simp] theorem pressLeader_image (slot : Slot) (s : State) : (pressLeader slot s).image = s.image :=
  (congrArg State.image (pressLeader_frame slot s) :)
@[simp] theorem pressLeader_foreign (slot : Slot) (s : State) : (pressLeader slot s).foreign = s.foreign :=
  (congrArg State.foreign (pressLeader_frame slot s) :)
@[simp] theorem pressLeader_mismatches (slot : Slot) (s : State) : (pressLeader slot s).mismatches = s.mismatches :=
  (congrArg State.mismatches (pressLeader_frame slot s) :)

/-- All that appendUsage can change. -/
theorem appendUsage_frame (buffer : List Byte) (usage : Byte) (s : State) :
    appendUsage buffer usage s = { s with sent := (appendUsage buffer usage s).sent, console := (appendUsage buffer usage s).console, keys := (appendUsage buffer usage s).keys, focusUnit := (appendUsage buffer usage s).focusUnit, pointer := (appendUsage buffer usage s).pointer, ports := (appendUsage buffer usage s).ports, journal := (appendUsage buffer usage s).journal, video := (appendUsage buffer usage s).video, engine := (appendUsage buffer usage s).engine, schedule := (appendUsage buffer usage s).schedule, tables := (appendUsage buffer usage s).tables, recognizer := (appendUsage buffer usage s).recognizer } := by
  apply State.eq_of_fields
  all_goals first
    | with_reducible rfl
    | (unfold appendUsage; dsimp only; repeat' split
       all_goals simp)
@[simp] theorem appendUsage_pending (buffer : List Byte) (usage : Byte) (s : State) : (appendUsage buffer usage s).pending = s.pending :=
  (congrArg State.pending (appendUsage_frame buffer usage s) :)
@[simp] theorem appendUsage_freeUses (buffer : List Byte) (usage : Byte) (s : State) : (appendUsage buffer usage s).freeUses = s.freeUses :=
  (congrArg State.freeUses (appendUsage_frame buffer usage s) :)
@[simp] theorem appendUsage_clock (buffer : List Byte) (usage : Byte) (s : State) : (appendUsage buffer usage s).clock = s.clock :=
  (congrArg State.clock (appendUsage_frame buffer usage s) :)
@[simp] theorem appendUsage_settings (buffer : List Byte) (usage : Byte) (s : State) : (appendUsage buffer usage s).settings = s.settings :=
  (congrArg State.settings (appendUsage_frame buffer usage s) :)
@[simp] theorem appendUsage_image (buffer : List Byte) (usage : Byte) (s : State) : (appendUsage buffer usage s).image = s.image :=
  (congrArg State.image (appendUsage_frame buffer usage s) :)
@[simp] theorem appendUsage_foreign (buffer : List Byte) (usage : Byte) (s : State) : (appendUsage buffer usage s).foreign = s.foreign :=
  (congrArg State.foreign (appendUsage_frame buffer usage s) :)
@[simp] theorem appendUsage_mismatches (buffer : List Byte) (usage : Byte) (s : State) : (appendUsage buffer usage s).mismatches = s.mismatches :=
  (congrArg State.mismatches (appendUsage_frame buffer usage s) :)

/-- All that pressInCommand can change. -/
theorem pressInCommand_frame (buffer : List Byte) (usage : Byte) (s : State) :
    pressInCommand buffer usage s = { s with sent := (pressInCommand buffer usage s).sent, console := (pressInCommand buffer usage s).console, keys := (pressInCommand buffer usage s).keys, focusUnit := (pressInCommand buffer usage s).focusUnit, pointer := (pressInCommand buffer usage s).pointer, ports := (pressInCommand buffer usage s).ports, journal := (pressInCommand buffer usage s).journal, video := (pressInCommand buffer usage s).video, engine := (pressInCommand buffer usage s).engine, schedule := (pressInCommand buffer usage s).schedule, tables := (pressInCommand buffer usage s).tables, recognizer := (pressInCommand buffer usage s).recognizer } := by
  apply State.eq_of_fields
  all_goals first
    | with_reducible rfl
    | (unfold pressInCommand; (try dsimp only); repeat' split
       all_goals simp)
@[simp] theorem pressInCommand_pending (buffer : List Byte) (usage : Byte) (s : State) : (pressInCommand buffer usage s).pending = s.pending :=
  (congrArg State.pending (pressInCommand_frame buffer usage s) :)
@[simp] theorem pressInCommand_freeUses (buffer : List Byte) (usage : Byte) (s : State) : (pressInCommand buffer usage s).freeUses = s.freeUses :=
  (congrArg State.freeUses (pressInCommand_frame buffer usage s) :)
@[simp] theorem pressInCommand_clock (buffer : List Byte) (usage : Byte) (s : State) : (pressInCommand buffer usage s).clock = s.clock :=
  (congrArg State.clock (pressInCommand_frame buffer usage s) :)
@[simp] theorem pressInCommand_settings (buffer : List Byte) (usage : Byte) (s : State) : (pressInCommand buffer usage s).settings = s.settings :=
  (congrArg State.settings (pressInCommand_frame buffer usage s) :)
@[simp] theorem pressInCommand_image (buffer : List Byte) (usage : Byte) (s : State) : (pressInCommand buffer usage s).image = s.image :=
  (congrArg State.image (pressInCommand_frame buffer usage s) :)
@[simp] theorem pressInCommand_foreign (buffer : List Byte) (usage : Byte) (s : State) : (pressInCommand buffer usage s).foreign = s.foreign :=
  (congrArg State.foreign (pressInCommand_frame buffer usage s) :)
@[simp] theorem pressInCommand_mismatches (buffer : List Byte) (usage : Byte) (s : State) : (pressInCommand buffer usage s).mismatches = s.mismatches :=
  (congrArg State.mismatches (pressInCommand_frame buffer usage s) :)

/-- All that recognizePress can change. -/
theorem recognizePress_frame (slot : Slot) (usage : Byte) (s : State) :
    (recognizePress slot usage s).1 = { s with sent := ((recognizePress slot usage s).1).sent, console := ((recognizePress slot usage s).1).console, keys := ((recognizePress slot usage s).1).keys, focusUnit := ((recognizePress slot usage s).1).focusUnit, pointer := ((recognizePress slot usage s).1).pointer, ports := ((recognizePress slot usage s).1).ports, journal := ((recognizePress slot usage s).1).journal, video := ((recognizePress slot usage s).1).video, engine := ((recognizePress slot usage s).1).engine, schedule := ((recognizePress slot usage s).1).schedule, tables := ((recognizePress slot usage s).1).tables, recognizer := ((recognizePress slot usage s).1).recognizer } := by
  apply State.eq_of_fields
  all_goals first
    | with_reducible rfl
    | (unfold recognizePress; (try dsimp only); repeat' split
       all_goals simp)
@[simp] theorem recognizePress_pending (slot : Slot) (usage : Byte) (s : State) : ((recognizePress slot usage s).1).pending = s.pending :=
  (congrArg State.pending (recognizePress_frame slot usage s) :)
@[simp] theorem recognizePress_freeUses (slot : Slot) (usage : Byte) (s : State) : ((recognizePress slot usage s).1).freeUses = s.freeUses :=
  (congrArg State.freeUses (recognizePress_frame slot usage s) :)
@[simp] theorem recognizePress_clock (slot : Slot) (usage : Byte) (s : State) : ((recognizePress slot usage s).1).clock = s.clock :=
  (congrArg State.clock (recognizePress_frame slot usage s) :)
@[simp] theorem recognizePress_settings (slot : Slot) (usage : Byte) (s : State) : ((recognizePress slot usage s).1).settings = s.settings :=
  (congrArg State.settings (recognizePress_frame slot usage s) :)
@[simp] theorem recognizePress_image (slot : Slot) (usage : Byte) (s : State) : ((recognizePress slot usage s).1).image = s.image :=
  (congrArg State.image (recognizePress_frame slot usage s) :)
@[simp] theorem recognizePress_foreign (slot : Slot) (usage : Byte) (s : State) : ((recognizePress slot usage s).1).foreign = s.foreign :=
  (congrArg State.foreign (recognizePress_frame slot usage s) :)
@[simp] theorem recognizePress_mismatches (slot : Slot) (usage : Byte) (s : State) : ((recognizePress slot usage s).1).mismatches = s.mismatches :=
  (congrArg State.mismatches (recognizePress_frame slot usage s) :)

/-- All that recognizeRelease can change. -/
theorem recognizeRelease_frame (slot : Slot) (usage : Byte) (s : State) :
    recognizeRelease slot usage s = { s with sent := (recognizeRelease slot usage s).sent, console := (recognizeRelease slot usage s).console, recognizer := (recognizeRelease slot usage s).recognizer } := by
  apply State.eq_of_fields
  all_goals first
    | with_reducible rfl
    | (unfold recognizeRelease; (try dsimp only); repeat' split
       all_goals simp)
@[simp] theorem recognizeRelease_pending (slot : Slot) (usage : Byte) (s : State) : (recognizeRelease slot usage s).pending = s.pending :=
  (congrArg State.pending (recognizeRelease_frame slot usage s) :)
@[simp] theorem recognizeRelease_freeUses (slot : Slot) (usage : Byte) (s : State) : (recognizeRelease slot usage s).freeUses = s.freeUses :=
  (congrArg State.freeUses (recognizeRelease_frame slot usage s) :)
@[simp] theorem recognizeRelease_clock (slot : Slot) (usage : Byte) (s : State) : (recognizeRelease slot usage s).clock = s.clock :=
  (congrArg State.clock (recognizeRelease_frame slot usage s) :)
@[simp] theorem recognizeRelease_settings (slot : Slot) (usage : Byte) (s : State) : (recognizeRelease slot usage s).settings = s.settings :=
  (congrArg State.settings (recognizeRelease_frame slot usage s) :)
@[simp] theorem recognizeRelease_tables (slot : Slot) (usage : Byte) (s : State) : (recognizeRelease slot usage s).tables = s.tables :=
  (congrArg State.tables (recognizeRelease_frame slot usage s) :)
@[simp] theorem recognizeRelease_keys (slot : Slot) (usage : Byte) (s : State) : (recognizeRelease slot usage s).keys = s.keys :=
  (congrArg State.keys (recognizeRelease_frame slot usage s) :)
@[simp] theorem recognizeRelease_focusUnit (slot : Slot) (usage : Byte) (s : State) : (recognizeRelease slot usage s).focusUnit = s.focusUnit :=
  (congrArg State.focusUnit (recognizeRelease_frame slot usage s) :)
@[simp] theorem recognizeRelease_pointer (slot : Slot) (usage : Byte) (s : State) : (recognizeRelease slot usage s).pointer = s.pointer :=
  (congrArg State.pointer (recognizeRelease_frame slot usage s) :)
@[simp] theorem recognizeRelease_ports (slot : Slot) (usage : Byte) (s : State) : (recognizeRelease slot usage s).ports = s.ports :=
  (congrArg State.ports (recognizeRelease_frame slot usage s) :)
@[simp] theorem recognizeRelease_video (slot : Slot) (usage : Byte) (s : State) : (recognizeRelease slot usage s).video = s.video :=
  (congrArg State.video (recognizeRelease_frame slot usage s) :)
@[simp] theorem recognizeRelease_schedule (slot : Slot) (usage : Byte) (s : State) : (recognizeRelease slot usage s).schedule = s.schedule :=
  (congrArg State.schedule (recognizeRelease_frame slot usage s) :)
@[simp] theorem recognizeRelease_engine (slot : Slot) (usage : Byte) (s : State) : (recognizeRelease slot usage s).engine = s.engine :=
  (congrArg State.engine (recognizeRelease_frame slot usage s) :)
@[simp] theorem recognizeRelease_journal (slot : Slot) (usage : Byte) (s : State) : (recognizeRelease slot usage s).journal = s.journal :=
  (congrArg State.journal (recognizeRelease_frame slot usage s) :)
@[simp] theorem recognizeRelease_image (slot : Slot) (usage : Byte) (s : State) : (recognizeRelease slot usage s).image = s.image :=
  (congrArg State.image (recognizeRelease_frame slot usage s) :)
@[simp] theorem recognizeRelease_foreign (slot : Slot) (usage : Byte) (s : State) : (recognizeRelease slot usage s).foreign = s.foreign :=
  (congrArg State.foreign (recognizeRelease_frame slot usage s) :)
@[simp] theorem recognizeRelease_mismatches (slot : Slot) (usage : Byte) (s : State) : (recognizeRelease slot usage s).mismatches = s.mismatches :=
  (congrArg State.mismatches (recognizeRelease_frame slot usage s) :)

/-- All that abandonSlot can change. -/
theorem abandonSlot_frame (i : Slot) (s : State) :
    abandonSlot i s = { s with recognizer := (abandonSlot i s).recognizer } := by
  apply State.eq_of_fields
  all_goals first
    | with_reducible rfl
    | (unfold abandonSlot; split <;> simp)
@[simp] theorem abandonSlot_pending (i : Slot) (s : State) : (abandonSlot i s).pending = s.pending :=
  (congrArg State.pending (abandonSlot_frame i s) :)
@[simp] theorem abandonSlot_sent (i : Slot) (s : State) : (abandonSlot i s).sent = s.sent :=
  (congrArg State.sent (abandonSlot_frame i s) :)
@[simp] theorem abandonSlot_freeUses (i : Slot) (s : State) : (abandonSlot i s).freeUses = s.freeUses :=
  (congrArg State.freeUses (abandonSlot_frame i s) :)
@[simp] theorem abandonSlot_clock (i : Slot) (s : State) : (abandonSlot i s).clock = s.clock :=
  (congrArg State.clock (abandonSlot_frame i s) :)
@[simp] theorem abandonSlot_settings (i : Slot) (s : State) : (abandonSlot i s).settings = s.settings :=
  (congrArg State.settings (abandonSlot_frame i s) :)
@[simp] theorem abandonSlot_tables (i : Slot) (s : State) : (abandonSlot i s).tables = s.tables :=
  (congrArg State.tables (abandonSlot_frame i s) :)
@[simp] theorem abandonSlot_console (i : Slot) (s : State) : (abandonSlot i s).console = s.console :=
  (congrArg State.console (abandonSlot_frame i s) :)
@[simp] theorem abandonSlot_keys (i : Slot) (s : State) : (abandonSlot i s).keys = s.keys :=
  (congrArg State.keys (abandonSlot_frame i s) :)
@[simp] theorem abandonSlot_focusUnit (i : Slot) (s : State) : (abandonSlot i s).focusUnit = s.focusUnit :=
  (congrArg State.focusUnit (abandonSlot_frame i s) :)
@[simp] theorem abandonSlot_pointer (i : Slot) (s : State) : (abandonSlot i s).pointer = s.pointer :=
  (congrArg State.pointer (abandonSlot_frame i s) :)
@[simp] theorem abandonSlot_ports (i : Slot) (s : State) : (abandonSlot i s).ports = s.ports :=
  (congrArg State.ports (abandonSlot_frame i s) :)
@[simp] theorem abandonSlot_video (i : Slot) (s : State) : (abandonSlot i s).video = s.video :=
  (congrArg State.video (abandonSlot_frame i s) :)
@[simp] theorem abandonSlot_schedule (i : Slot) (s : State) : (abandonSlot i s).schedule = s.schedule :=
  (congrArg State.schedule (abandonSlot_frame i s) :)
@[simp] theorem abandonSlot_engine (i : Slot) (s : State) : (abandonSlot i s).engine = s.engine :=
  (congrArg State.engine (abandonSlot_frame i s) :)
@[simp] theorem abandonSlot_journal (i : Slot) (s : State) : (abandonSlot i s).journal = s.journal :=
  (congrArg State.journal (abandonSlot_frame i s) :)
@[simp] theorem abandonSlot_image (i : Slot) (s : State) : (abandonSlot i s).image = s.image :=
  (congrArg State.image (abandonSlot_frame i s) :)
@[simp] theorem abandonSlot_foreign (i : Slot) (s : State) : (abandonSlot i s).foreign = s.foreign :=
  (congrArg State.foreign (abandonSlot_frame i s) :)
@[simp] theorem abandonSlot_mismatches (i : Slot) (s : State) : (abandonSlot i s).mismatches = s.mismatches :=
  (congrArg State.mismatches (abandonSlot_frame i s) :)

/-- All that expireLeader can change. -/
theorem expireLeader_frame (s : State) :
    expireLeader s = { s with recognizer := (expireLeader s).recognizer } := by
  apply State.eq_of_fields
  all_goals first
    | with_reducible rfl
    | (unfold expireLeader; (try dsimp only); repeat' split
       all_goals simp)
@[simp] theorem expireLeader_pending (s : State) : (expireLeader s).pending = s.pending :=
  (congrArg State.pending (expireLeader_frame s) :)
@[simp] theorem expireLeader_sent (s : State) : (expireLeader s).sent = s.sent :=
  (congrArg State.sent (expireLeader_frame s) :)
@[simp] theorem expireLeader_freeUses (s : State) : (expireLeader s).freeUses = s.freeUses :=
  (congrArg State.freeUses (expireLeader_frame s) :)
@[simp] theorem expireLeader_clock (s : State) : (expireLeader s).clock = s.clock :=
  (congrArg State.clock (expireLeader_frame s) :)
@[simp] theorem expireLeader_settings (s : State) : (expireLeader s).settings = s.settings :=
  (congrArg State.settings (expireLeader_frame s) :)
@[simp] theorem expireLeader_tables (s : State) : (expireLeader s).tables = s.tables :=
  (congrArg State.tables (expireLeader_frame s) :)
@[simp] theorem expireLeader_console (s : State) : (expireLeader s).console = s.console :=
  (congrArg State.console (expireLeader_frame s) :)
@[simp] theorem expireLeader_keys (s : State) : (expireLeader s).keys = s.keys :=
  (congrArg State.keys (expireLeader_frame s) :)
@[simp] theorem expireLeader_focusUnit (s : State) : (expireLeader s).focusUnit = s.focusUnit :=
  (congrArg State.focusUnit (expireLeader_frame s) :)
@[simp] theorem expireLeader_pointer (s : State) : (expireLeader s).pointer = s.pointer :=
  (congrArg State.pointer (expireLeader_frame s) :)
@[simp] theorem expireLeader_ports (s : State) : (expireLeader s).ports = s.ports :=
  (congrArg State.ports (expireLeader_frame s) :)
@[simp] theorem expireLeader_video (s : State) : (expireLeader s).video = s.video :=
  (congrArg State.video (expireLeader_frame s) :)
@[simp] theorem expireLeader_schedule (s : State) : (expireLeader s).schedule = s.schedule :=
  (congrArg State.schedule (expireLeader_frame s) :)
@[simp] theorem expireLeader_engine (s : State) : (expireLeader s).engine = s.engine :=
  (congrArg State.engine (expireLeader_frame s) :)
@[simp] theorem expireLeader_journal (s : State) : (expireLeader s).journal = s.journal :=
  (congrArg State.journal (expireLeader_frame s) :)
@[simp] theorem expireLeader_image (s : State) : (expireLeader s).image = s.image :=
  (congrArg State.image (expireLeader_frame s) :)
@[simp] theorem expireLeader_foreign (s : State) : (expireLeader s).foreign = s.foreign :=
  (congrArg State.foreign (expireLeader_frame s) :)
@[simp] theorem expireLeader_mismatches (s : State) : (expireLeader s).mismatches = s.mismatches :=
  (congrArg State.mismatches (expireLeader_frame s) :)

/-- All that expireCommand can change. -/
theorem expireCommand_frame (s : State) :
    expireCommand s = { s with sent := (expireCommand s).sent, console := (expireCommand s).console, recognizer := (expireCommand s).recognizer } := by
  apply State.eq_of_fields
  all_goals first
    | with_reducible rfl
    | (unfold expireCommand; (try dsimp only); repeat' split
       all_goals simp)
@[simp] theorem expireCommand_pending (s : State) : (expireCommand s).pending = s.pending :=
  (congrArg State.pending (expireCommand_frame s) :)
@[simp] theorem expireCommand_freeUses (s : State) : (expireCommand s).freeUses = s.freeUses :=
  (congrArg State.freeUses (expireCommand_frame s) :)
@[simp] theorem expireCommand_clock (s : State) : (expireCommand s).clock = s.clock :=
  (congrArg State.clock (expireCommand_frame s) :)
@[simp] theorem expireCommand_settings (s : State) : (expireCommand s).settings = s.settings :=
  (congrArg State.settings (expireCommand_frame s) :)
@[simp] theorem expireCommand_tables (s : State) : (expireCommand s).tables = s.tables :=
  (congrArg State.tables (expireCommand_frame s) :)
@[simp] theorem expireCommand_keys (s : State) : (expireCommand s).keys = s.keys :=
  (congrArg State.keys (expireCommand_frame s) :)
@[simp] theorem expireCommand_focusUnit (s : State) : (expireCommand s).focusUnit = s.focusUnit :=
  (congrArg State.focusUnit (expireCommand_frame s) :)
@[simp] theorem expireCommand_pointer (s : State) : (expireCommand s).pointer = s.pointer :=
  (congrArg State.pointer (expireCommand_frame s) :)
@[simp] theorem expireCommand_ports (s : State) : (expireCommand s).ports = s.ports :=
  (congrArg State.ports (expireCommand_frame s) :)
@[simp] theorem expireCommand_video (s : State) : (expireCommand s).video = s.video :=
  (congrArg State.video (expireCommand_frame s) :)
@[simp] theorem expireCommand_schedule (s : State) : (expireCommand s).schedule = s.schedule :=
  (congrArg State.schedule (expireCommand_frame s) :)
@[simp] theorem expireCommand_engine (s : State) : (expireCommand s).engine = s.engine :=
  (congrArg State.engine (expireCommand_frame s) :)
@[simp] theorem expireCommand_journal (s : State) : (expireCommand s).journal = s.journal :=
  (congrArg State.journal (expireCommand_frame s) :)
@[simp] theorem expireCommand_image (s : State) : (expireCommand s).image = s.image :=
  (congrArg State.image (expireCommand_frame s) :)
@[simp] theorem expireCommand_foreign (s : State) : (expireCommand s).foreign = s.foreign :=
  (congrArg State.foreign (expireCommand_frame s) :)
@[simp] theorem expireCommand_mismatches (s : State) : (expireCommand s).mismatches = s.mismatches :=
  (congrArg State.mismatches (expireCommand_frame s) :)

/-- All that takePress can change. -/
theorem takePress_frame (slot : Slot) (usage : Byte) (claimed : Bool) (s : State) :
    takePress slot usage claimed s = { s with keys := (takePress slot usage claimed s).keys, ports := (takePress slot usage claimed s).ports, sent := (takePress slot usage claimed s).sent, journal := (takePress slot usage claimed s).journal } := by
  apply State.eq_of_fields
  all_goals first
    | with_reducible rfl
    | (unfold takePress; (try dsimp only); repeat' split
       all_goals simp)
@[simp] theorem takePress_pending (slot : Slot) (usage : Byte) (claimed : Bool) (s : State) : (takePress slot usage claimed s).pending = s.pending :=
  (congrArg State.pending (takePress_frame slot usage claimed s) :)
@[simp] theorem takePress_freeUses (slot : Slot) (usage : Byte) (claimed : Bool) (s : State) : (takePress slot usage claimed s).freeUses = s.freeUses :=
  (congrArg State.freeUses (takePress_frame slot usage claimed s) :)
@[simp] theorem takePress_clock (slot : Slot) (usage : Byte) (claimed : Bool) (s : State) : (takePress slot usage claimed s).clock = s.clock :=
  (congrArg State.clock (takePress_frame slot usage claimed s) :)
@[simp] theorem takePress_settings (slot : Slot) (usage : Byte) (claimed : Bool) (s : State) : (takePress slot usage claimed s).settings = s.settings :=
  (congrArg State.settings (takePress_frame slot usage claimed s) :)
@[simp] theorem takePress_tables (slot : Slot) (usage : Byte) (claimed : Bool) (s : State) : (takePress slot usage claimed s).tables = s.tables :=
  (congrArg State.tables (takePress_frame slot usage claimed s) :)
@[simp] theorem takePress_console (slot : Slot) (usage : Byte) (claimed : Bool) (s : State) : (takePress slot usage claimed s).console = s.console :=
  (congrArg State.console (takePress_frame slot usage claimed s) :)
@[simp] theorem takePress_recognizer (slot : Slot) (usage : Byte) (claimed : Bool) (s : State) : (takePress slot usage claimed s).recognizer = s.recognizer :=
  (congrArg State.recognizer (takePress_frame slot usage claimed s) :)
@[simp] theorem takePress_focusUnit (slot : Slot) (usage : Byte) (claimed : Bool) (s : State) : (takePress slot usage claimed s).focusUnit = s.focusUnit :=
  (congrArg State.focusUnit (takePress_frame slot usage claimed s) :)
@[simp] theorem takePress_pointer (slot : Slot) (usage : Byte) (claimed : Bool) (s : State) : (takePress slot usage claimed s).pointer = s.pointer :=
  (congrArg State.pointer (takePress_frame slot usage claimed s) :)
@[simp] theorem takePress_video (slot : Slot) (usage : Byte) (claimed : Bool) (s : State) : (takePress slot usage claimed s).video = s.video :=
  (congrArg State.video (takePress_frame slot usage claimed s) :)
@[simp] theorem takePress_schedule (slot : Slot) (usage : Byte) (claimed : Bool) (s : State) : (takePress slot usage claimed s).schedule = s.schedule :=
  (congrArg State.schedule (takePress_frame slot usage claimed s) :)
@[simp] theorem takePress_engine (slot : Slot) (usage : Byte) (claimed : Bool) (s : State) : (takePress slot usage claimed s).engine = s.engine :=
  (congrArg State.engine (takePress_frame slot usage claimed s) :)
@[simp] theorem takePress_image (slot : Slot) (usage : Byte) (claimed : Bool) (s : State) : (takePress slot usage claimed s).image = s.image :=
  (congrArg State.image (takePress_frame slot usage claimed s) :)
@[simp] theorem takePress_foreign (slot : Slot) (usage : Byte) (claimed : Bool) (s : State) : (takePress slot usage claimed s).foreign = s.foreign :=
  (congrArg State.foreign (takePress_frame slot usage claimed s) :)
@[simp] theorem takePress_mismatches (slot : Slot) (usage : Byte) (claimed : Bool) (s : State) : (takePress slot usage claimed s).mismatches = s.mismatches :=
  (congrArg State.mismatches (takePress_frame slot usage claimed s) :)

/-- All that takeRelease can change. -/
theorem takeRelease_frame (slot : Slot) (usage : Byte) (s : State) :
    takeRelease slot usage s = { s with keys := (takeRelease slot usage s).keys, ports := (takeRelease slot usage s).ports } := by
  apply State.eq_of_fields
  all_goals first
    | with_reducible rfl
    | (unfold takeRelease; simp)
@[simp] theorem takeRelease_pending (slot : Slot) (usage : Byte) (s : State) : (takeRelease slot usage s).pending = s.pending :=
  (congrArg State.pending (takeRelease_frame slot usage s) :)
@[simp] theorem takeRelease_sent (slot : Slot) (usage : Byte) (s : State) : (takeRelease slot usage s).sent = s.sent :=
  (congrArg State.sent (takeRelease_frame slot usage s) :)
@[simp] theorem takeRelease_freeUses (slot : Slot) (usage : Byte) (s : State) : (takeRelease slot usage s).freeUses = s.freeUses :=
  (congrArg State.freeUses (takeRelease_frame slot usage s) :)
@[simp] theorem takeRelease_clock (slot : Slot) (usage : Byte) (s : State) : (takeRelease slot usage s).clock = s.clock :=
  (congrArg State.clock (takeRelease_frame slot usage s) :)
@[simp] theorem takeRelease_settings (slot : Slot) (usage : Byte) (s : State) : (takeRelease slot usage s).settings = s.settings :=
  (congrArg State.settings (takeRelease_frame slot usage s) :)
@[simp] theorem takeRelease_tables (slot : Slot) (usage : Byte) (s : State) : (takeRelease slot usage s).tables = s.tables :=
  (congrArg State.tables (takeRelease_frame slot usage s) :)
@[simp] theorem takeRelease_console (slot : Slot) (usage : Byte) (s : State) : (takeRelease slot usage s).console = s.console :=
  (congrArg State.console (takeRelease_frame slot usage s) :)
@[simp] theorem takeRelease_recognizer (slot : Slot) (usage : Byte) (s : State) : (takeRelease slot usage s).recognizer = s.recognizer :=
  (congrArg State.recognizer (takeRelease_frame slot usage s) :)
@[simp] theorem takeRelease_focusUnit (slot : Slot) (usage : Byte) (s : State) : (takeRelease slot usage s).focusUnit = s.focusUnit :=
  (congrArg State.focusUnit (takeRelease_frame slot usage s) :)
@[simp] theorem takeRelease_pointer (slot : Slot) (usage : Byte) (s : State) : (takeRelease slot usage s).pointer = s.pointer :=
  (congrArg State.pointer (takeRelease_frame slot usage s) :)
@[simp] theorem takeRelease_video (slot : Slot) (usage : Byte) (s : State) : (takeRelease slot usage s).video = s.video :=
  (congrArg State.video (takeRelease_frame slot usage s) :)
@[simp] theorem takeRelease_schedule (slot : Slot) (usage : Byte) (s : State) : (takeRelease slot usage s).schedule = s.schedule :=
  (congrArg State.schedule (takeRelease_frame slot usage s) :)
@[simp] theorem takeRelease_engine (slot : Slot) (usage : Byte) (s : State) : (takeRelease slot usage s).engine = s.engine :=
  (congrArg State.engine (takeRelease_frame slot usage s) :)
@[simp] theorem takeRelease_journal (slot : Slot) (usage : Byte) (s : State) : (takeRelease slot usage s).journal = s.journal :=
  (congrArg State.journal (takeRelease_frame slot usage s) :)
@[simp] theorem takeRelease_image (slot : Slot) (usage : Byte) (s : State) : (takeRelease slot usage s).image = s.image :=
  (congrArg State.image (takeRelease_frame slot usage s) :)
@[simp] theorem takeRelease_foreign (slot : Slot) (usage : Byte) (s : State) : (takeRelease slot usage s).foreign = s.foreign :=
  (congrArg State.foreign (takeRelease_frame slot usage s) :)
@[simp] theorem takeRelease_mismatches (slot : Slot) (usage : Byte) (s : State) : (takeRelease slot usage s).mismatches = s.mismatches :=
  (congrArg State.mismatches (takeRelease_frame slot usage s) :)

/-- All that takeTransition can change. -/
theorem takeTransition_frame (slot : Slot) (x : Transition) (s : State) :
    takeTransition slot x s = { s with sent := (takeTransition slot x s).sent, console := (takeTransition slot x s).console, keys := (takeTransition slot x s).keys, focusUnit := (takeTransition slot x s).focusUnit, pointer := (takeTransition slot x s).pointer, ports := (takeTransition slot x s).ports, journal := (takeTransition slot x s).journal, video := (takeTransition slot x s).video, engine := (takeTransition slot x s).engine, schedule := (takeTransition slot x s).schedule, tables := (takeTransition slot x s).tables, recognizer := (takeTransition slot x s).recognizer } := by
  apply State.eq_of_fields
  all_goals first
    | with_reducible rfl
    | (unfold takeTransition; split <;> simp)
@[simp] theorem takeTransition_pending (slot : Slot) (x : Transition) (s : State) : (takeTransition slot x s).pending = s.pending :=
  (congrArg State.pending (takeTransition_frame slot x s) :)
@[simp] theorem takeTransition_freeUses (slot : Slot) (x : Transition) (s : State) : (takeTransition slot x s).freeUses = s.freeUses :=
  (congrArg State.freeUses (takeTransition_frame slot x s) :)
@[simp] theorem takeTransition_clock (slot : Slot) (x : Transition) (s : State) : (takeTransition slot x s).clock = s.clock :=
  (congrArg State.clock (takeTransition_frame slot x s) :)
@[simp] theorem takeTransition_settings (slot : Slot) (x : Transition) (s : State) : (takeTransition slot x s).settings = s.settings :=
  (congrArg State.settings (takeTransition_frame slot x s) :)
@[simp] theorem takeTransition_image (slot : Slot) (x : Transition) (s : State) : (takeTransition slot x s).image = s.image :=
  (congrArg State.image (takeTransition_frame slot x s) :)
@[simp] theorem takeTransition_foreign (slot : Slot) (x : Transition) (s : State) : (takeTransition slot x s).foreign = s.foreign :=
  (congrArg State.foreign (takeTransition_frame slot x s) :)
@[simp] theorem takeTransition_mismatches (slot : Slot) (x : Transition) (s : State) : (takeTransition slot x s).mismatches = s.mismatches :=
  (congrArg State.mismatches (takeTransition_frame slot x s) :)

/-- All that takeKeySet can change. -/
theorem takeKeySet_frame (slot : Slot) (oldM newM : ModifierSet) (oldK newK : List Byte) (s : State) :
    takeKeySet slot oldM newM oldK newK s = { s with sent := (takeKeySet slot oldM newM oldK newK s).sent, console := (takeKeySet slot oldM newM oldK newK s).console, keys := (takeKeySet slot oldM newM oldK newK s).keys, focusUnit := (takeKeySet slot oldM newM oldK newK s).focusUnit, pointer := (takeKeySet slot oldM newM oldK newK s).pointer, ports := (takeKeySet slot oldM newM oldK newK s).ports, journal := (takeKeySet slot oldM newM oldK newK s).journal, video := (takeKeySet slot oldM newM oldK newK s).video, engine := (takeKeySet slot oldM newM oldK newK s).engine, schedule := (takeKeySet slot oldM newM oldK newK s).schedule, tables := (takeKeySet slot oldM newM oldK newK s).tables, recognizer := (takeKeySet slot oldM newM oldK newK s).recognizer } := by
  apply State.eq_of_fields
  all_goals first
    | with_reducible rfl
    | (unfold takeKeySet
       rw [State.setSlot_pending]
       exact foldl_keeps State.pending _ (fun t x => by simp) _ _)
    | (unfold takeKeySet
       rw [State.setSlot_freeUses]
       exact foldl_keeps State.freeUses _ (fun t x => by simp) _ _)
    | (unfold takeKeySet
       rw [State.setSlot_clock]
       exact foldl_keeps State.clock _ (fun t x => by simp) _ _)
    | (unfold takeKeySet
       rw [State.setSlot_settings]
       exact foldl_keeps State.settings _ (fun t x => by simp) _ _)
    | (unfold takeKeySet
       rw [State.setSlot_image]
       exact foldl_keeps State.image _ (fun t x => by simp) _ _)
    | (unfold takeKeySet
       rw [State.setSlot_foreign]
       exact foldl_keeps State.foreign _ (fun t x => by simp) _ _)
    | (unfold takeKeySet
       rw [State.setSlot_mismatches]
       exact foldl_keeps State.mismatches _ (fun t x => by simp) _ _)
@[simp] theorem takeKeySet_pending (slot : Slot) (oldM newM : ModifierSet) (oldK newK : List Byte) (s : State) : (takeKeySet slot oldM newM oldK newK s).pending = s.pending :=
  (congrArg State.pending (takeKeySet_frame slot oldM newM oldK newK s) :)
@[simp] theorem takeKeySet_freeUses (slot : Slot) (oldM newM : ModifierSet) (oldK newK : List Byte) (s : State) : (takeKeySet slot oldM newM oldK newK s).freeUses = s.freeUses :=
  (congrArg State.freeUses (takeKeySet_frame slot oldM newM oldK newK s) :)
@[simp] theorem takeKeySet_clock (slot : Slot) (oldM newM : ModifierSet) (oldK newK : List Byte) (s : State) : (takeKeySet slot oldM newM oldK newK s).clock = s.clock :=
  (congrArg State.clock (takeKeySet_frame slot oldM newM oldK newK s) :)
@[simp] theorem takeKeySet_settings (slot : Slot) (oldM newM : ModifierSet) (oldK newK : List Byte) (s : State) : (takeKeySet slot oldM newM oldK newK s).settings = s.settings :=
  (congrArg State.settings (takeKeySet_frame slot oldM newM oldK newK s) :)
@[simp] theorem takeKeySet_image (slot : Slot) (oldM newM : ModifierSet) (oldK newK : List Byte) (s : State) : (takeKeySet slot oldM newM oldK newK s).image = s.image :=
  (congrArg State.image (takeKeySet_frame slot oldM newM oldK newK s) :)
@[simp] theorem takeKeySet_foreign (slot : Slot) (oldM newM : ModifierSet) (oldK newK : List Byte) (s : State) : (takeKeySet slot oldM newM oldK newK s).foreign = s.foreign :=
  (congrArg State.foreign (takeKeySet_frame slot oldM newM oldK newK s) :)
@[simp] theorem takeKeySet_mismatches (slot : Slot) (oldM newM : ModifierSet) (oldK newK : List Byte) (s : State) : (takeKeySet slot oldM newM oldK newK s).mismatches = s.mismatches :=
  (congrArg State.mismatches (takeKeySet_frame slot oldM newM oldK newK s) :)

/-- All that takeKeyboardReport can change. -/
theorem takeKeyboardReport_frame (slot : Byte) (m : ModifierSet) (fields : List Byte) (s : State) :
    takeKeyboardReport slot m fields s = { s with sent := (takeKeyboardReport slot m fields s).sent, console := (takeKeyboardReport slot m fields s).console, keys := (takeKeyboardReport slot m fields s).keys, focusUnit := (takeKeyboardReport slot m fields s).focusUnit, pointer := (takeKeyboardReport slot m fields s).pointer, ports := (takeKeyboardReport slot m fields s).ports, journal := (takeKeyboardReport slot m fields s).journal, video := (takeKeyboardReport slot m fields s).video, engine := (takeKeyboardReport slot m fields s).engine, schedule := (takeKeyboardReport slot m fields s).schedule, tables := (takeKeyboardReport slot m fields s).tables, recognizer := (takeKeyboardReport slot m fields s).recognizer } := by
  apply State.eq_of_fields
  all_goals first
    | with_reducible rfl
    | (unfold takeKeyboardReport; (try dsimp only); repeat' split
       all_goals simp)
@[simp] theorem takeKeyboardReport_pending (slot : Byte) (m : ModifierSet) (fields : List Byte) (s : State) : (takeKeyboardReport slot m fields s).pending = s.pending :=
  (congrArg State.pending (takeKeyboardReport_frame slot m fields s) :)
@[simp] theorem takeKeyboardReport_freeUses (slot : Byte) (m : ModifierSet) (fields : List Byte) (s : State) : (takeKeyboardReport slot m fields s).freeUses = s.freeUses :=
  (congrArg State.freeUses (takeKeyboardReport_frame slot m fields s) :)
@[simp] theorem takeKeyboardReport_clock (slot : Byte) (m : ModifierSet) (fields : List Byte) (s : State) : (takeKeyboardReport slot m fields s).clock = s.clock :=
  (congrArg State.clock (takeKeyboardReport_frame slot m fields s) :)
@[simp] theorem takeKeyboardReport_settings (slot : Byte) (m : ModifierSet) (fields : List Byte) (s : State) : (takeKeyboardReport slot m fields s).settings = s.settings :=
  (congrArg State.settings (takeKeyboardReport_frame slot m fields s) :)
@[simp] theorem takeKeyboardReport_image (slot : Byte) (m : ModifierSet) (fields : List Byte) (s : State) : (takeKeyboardReport slot m fields s).image = s.image :=
  (congrArg State.image (takeKeyboardReport_frame slot m fields s) :)
@[simp] theorem takeKeyboardReport_foreign (slot : Byte) (m : ModifierSet) (fields : List Byte) (s : State) : (takeKeyboardReport slot m fields s).foreign = s.foreign :=
  (congrArg State.foreign (takeKeyboardReport_frame slot m fields s) :)
@[simp] theorem takeKeyboardReport_mismatches (slot : Byte) (m : ModifierSet) (fields : List Byte) (s : State) : (takeKeyboardReport slot m fields s).mismatches = s.mismatches :=
  (congrArg State.mismatches (takeKeyboardReport_frame slot m fields s) :)

/-- All that takeButtons can change. -/
theorem takeButtons_frame (before now : ButtonSet) (s : State) :
    takeButtons before now s = { s with keys := (takeButtons before now s).keys, ports := (takeButtons before now s).ports } := by
  apply State.eq_of_fields
  all_goals first
    | with_reducible rfl
    | (unfold takeButtons; simp)
@[simp] theorem takeButtons_pending (before now : ButtonSet) (s : State) : (takeButtons before now s).pending = s.pending :=
  (congrArg State.pending (takeButtons_frame before now s) :)
@[simp] theorem takeButtons_sent (before now : ButtonSet) (s : State) : (takeButtons before now s).sent = s.sent :=
  (congrArg State.sent (takeButtons_frame before now s) :)
@[simp] theorem takeButtons_freeUses (before now : ButtonSet) (s : State) : (takeButtons before now s).freeUses = s.freeUses :=
  (congrArg State.freeUses (takeButtons_frame before now s) :)
@[simp] theorem takeButtons_clock (before now : ButtonSet) (s : State) : (takeButtons before now s).clock = s.clock :=
  (congrArg State.clock (takeButtons_frame before now s) :)
@[simp] theorem takeButtons_settings (before now : ButtonSet) (s : State) : (takeButtons before now s).settings = s.settings :=
  (congrArg State.settings (takeButtons_frame before now s) :)
@[simp] theorem takeButtons_tables (before now : ButtonSet) (s : State) : (takeButtons before now s).tables = s.tables :=
  (congrArg State.tables (takeButtons_frame before now s) :)
@[simp] theorem takeButtons_console (before now : ButtonSet) (s : State) : (takeButtons before now s).console = s.console :=
  (congrArg State.console (takeButtons_frame before now s) :)
@[simp] theorem takeButtons_recognizer (before now : ButtonSet) (s : State) : (takeButtons before now s).recognizer = s.recognizer :=
  (congrArg State.recognizer (takeButtons_frame before now s) :)
@[simp] theorem takeButtons_focusUnit (before now : ButtonSet) (s : State) : (takeButtons before now s).focusUnit = s.focusUnit :=
  (congrArg State.focusUnit (takeButtons_frame before now s) :)
@[simp] theorem takeButtons_pointer (before now : ButtonSet) (s : State) : (takeButtons before now s).pointer = s.pointer :=
  (congrArg State.pointer (takeButtons_frame before now s) :)
@[simp] theorem takeButtons_video (before now : ButtonSet) (s : State) : (takeButtons before now s).video = s.video :=
  (congrArg State.video (takeButtons_frame before now s) :)
@[simp] theorem takeButtons_schedule (before now : ButtonSet) (s : State) : (takeButtons before now s).schedule = s.schedule :=
  (congrArg State.schedule (takeButtons_frame before now s) :)
@[simp] theorem takeButtons_engine (before now : ButtonSet) (s : State) : (takeButtons before now s).engine = s.engine :=
  (congrArg State.engine (takeButtons_frame before now s) :)
@[simp] theorem takeButtons_journal (before now : ButtonSet) (s : State) : (takeButtons before now s).journal = s.journal :=
  (congrArg State.journal (takeButtons_frame before now s) :)
@[simp] theorem takeButtons_image (before now : ButtonSet) (s : State) : (takeButtons before now s).image = s.image :=
  (congrArg State.image (takeButtons_frame before now s) :)
@[simp] theorem takeButtons_foreign (before now : ButtonSet) (s : State) : (takeButtons before now s).foreign = s.foreign :=
  (congrArg State.foreign (takeButtons_frame before now s) :)
@[simp] theorem takeButtons_mismatches (before now : ButtonSet) (s : State) : (takeButtons before now s).mismatches = s.mismatches :=
  (congrArg State.mismatches (takeButtons_frame before now s) :)

/-- All that takeMotion can change. -/
theorem takeMotion_frame (owed : Option Computer) (b : Bool) (dx dy wheel : Int) (s : State) :
    takeMotion owed b dx dy wheel s = { s with sent := (takeMotion owed b dx dy wheel s).sent, console := (takeMotion owed b dx dy wheel s).console, keys := (takeMotion owed b dx dy wheel s).keys, focusUnit := (takeMotion owed b dx dy wheel s).focusUnit, pointer := (takeMotion owed b dx dy wheel s).pointer, ports := (takeMotion owed b dx dy wheel s).ports, journal := (takeMotion owed b dx dy wheel s).journal } := by
  apply State.eq_of_fields
  all_goals first
    | with_reducible rfl
    | (unfold takeMotion; simp)
@[simp] theorem takeMotion_pending (owed : Option Computer) (b : Bool) (dx dy wheel : Int) (s : State) : (takeMotion owed b dx dy wheel s).pending = s.pending :=
  (congrArg State.pending (takeMotion_frame owed b dx dy wheel s) :)
@[simp] theorem takeMotion_freeUses (owed : Option Computer) (b : Bool) (dx dy wheel : Int) (s : State) : (takeMotion owed b dx dy wheel s).freeUses = s.freeUses :=
  (congrArg State.freeUses (takeMotion_frame owed b dx dy wheel s) :)
@[simp] theorem takeMotion_clock (owed : Option Computer) (b : Bool) (dx dy wheel : Int) (s : State) : (takeMotion owed b dx dy wheel s).clock = s.clock :=
  (congrArg State.clock (takeMotion_frame owed b dx dy wheel s) :)
@[simp] theorem takeMotion_settings (owed : Option Computer) (b : Bool) (dx dy wheel : Int) (s : State) : (takeMotion owed b dx dy wheel s).settings = s.settings :=
  (congrArg State.settings (takeMotion_frame owed b dx dy wheel s) :)
@[simp] theorem takeMotion_tables (owed : Option Computer) (b : Bool) (dx dy wheel : Int) (s : State) : (takeMotion owed b dx dy wheel s).tables = s.tables :=
  (congrArg State.tables (takeMotion_frame owed b dx dy wheel s) :)
@[simp] theorem takeMotion_recognizer (owed : Option Computer) (b : Bool) (dx dy wheel : Int) (s : State) : (takeMotion owed b dx dy wheel s).recognizer = s.recognizer :=
  (congrArg State.recognizer (takeMotion_frame owed b dx dy wheel s) :)
@[simp] theorem takeMotion_video (owed : Option Computer) (b : Bool) (dx dy wheel : Int) (s : State) : (takeMotion owed b dx dy wheel s).video = s.video :=
  (congrArg State.video (takeMotion_frame owed b dx dy wheel s) :)
@[simp] theorem takeMotion_schedule (owed : Option Computer) (b : Bool) (dx dy wheel : Int) (s : State) : (takeMotion owed b dx dy wheel s).schedule = s.schedule :=
  (congrArg State.schedule (takeMotion_frame owed b dx dy wheel s) :)
@[simp] theorem takeMotion_engine (owed : Option Computer) (b : Bool) (dx dy wheel : Int) (s : State) : (takeMotion owed b dx dy wheel s).engine = s.engine :=
  (congrArg State.engine (takeMotion_frame owed b dx dy wheel s) :)
@[simp] theorem takeMotion_image (owed : Option Computer) (b : Bool) (dx dy wheel : Int) (s : State) : (takeMotion owed b dx dy wheel s).image = s.image :=
  (congrArg State.image (takeMotion_frame owed b dx dy wheel s) :)
@[simp] theorem takeMotion_foreign (owed : Option Computer) (b : Bool) (dx dy wheel : Int) (s : State) : (takeMotion owed b dx dy wheel s).foreign = s.foreign :=
  (congrArg State.foreign (takeMotion_frame owed b dx dy wheel s) :)
@[simp] theorem takeMotion_mismatches (owed : Option Computer) (b : Bool) (dx dy wheel : Int) (s : State) : (takeMotion owed b dx dy wheel s).mismatches = s.mismatches :=
  (congrArg State.mismatches (takeMotion_frame owed b dx dy wheel s) :)

/-- All that takePointing can change. -/
theorem takePointing_frame (slot : Slot) (before now : ButtonSet) (dx dy wheel : Int) (s : State) :
    takePointing slot before now dx dy wheel s = { s with sent := (takePointing slot before now dx dy wheel s).sent, console := (takePointing slot before now dx dy wheel s).console, keys := (takePointing slot before now dx dy wheel s).keys, focusUnit := (takePointing slot before now dx dy wheel s).focusUnit, pointer := (takePointing slot before now dx dy wheel s).pointer, ports := (takePointing slot before now dx dy wheel s).ports, journal := (takePointing slot before now dx dy wheel s).journal } := by
  apply State.eq_of_fields
  all_goals first
    | with_reducible rfl
    | (unfold takePointing; simp)
@[simp] theorem takePointing_pending (slot : Slot) (before now : ButtonSet) (dx dy wheel : Int) (s : State) : (takePointing slot before now dx dy wheel s).pending = s.pending :=
  (congrArg State.pending (takePointing_frame slot before now dx dy wheel s) :)
@[simp] theorem takePointing_freeUses (slot : Slot) (before now : ButtonSet) (dx dy wheel : Int) (s : State) : (takePointing slot before now dx dy wheel s).freeUses = s.freeUses :=
  (congrArg State.freeUses (takePointing_frame slot before now dx dy wheel s) :)
@[simp] theorem takePointing_clock (slot : Slot) (before now : ButtonSet) (dx dy wheel : Int) (s : State) : (takePointing slot before now dx dy wheel s).clock = s.clock :=
  (congrArg State.clock (takePointing_frame slot before now dx dy wheel s) :)
@[simp] theorem takePointing_settings (slot : Slot) (before now : ButtonSet) (dx dy wheel : Int) (s : State) : (takePointing slot before now dx dy wheel s).settings = s.settings :=
  (congrArg State.settings (takePointing_frame slot before now dx dy wheel s) :)
@[simp] theorem takePointing_tables (slot : Slot) (before now : ButtonSet) (dx dy wheel : Int) (s : State) : (takePointing slot before now dx dy wheel s).tables = s.tables :=
  (congrArg State.tables (takePointing_frame slot before now dx dy wheel s) :)
@[simp] theorem takePointing_recognizer (slot : Slot) (before now : ButtonSet) (dx dy wheel : Int) (s : State) : (takePointing slot before now dx dy wheel s).recognizer = s.recognizer :=
  (congrArg State.recognizer (takePointing_frame slot before now dx dy wheel s) :)
@[simp] theorem takePointing_video (slot : Slot) (before now : ButtonSet) (dx dy wheel : Int) (s : State) : (takePointing slot before now dx dy wheel s).video = s.video :=
  (congrArg State.video (takePointing_frame slot before now dx dy wheel s) :)
@[simp] theorem takePointing_schedule (slot : Slot) (before now : ButtonSet) (dx dy wheel : Int) (s : State) : (takePointing slot before now dx dy wheel s).schedule = s.schedule :=
  (congrArg State.schedule (takePointing_frame slot before now dx dy wheel s) :)
@[simp] theorem takePointing_engine (slot : Slot) (before now : ButtonSet) (dx dy wheel : Int) (s : State) : (takePointing slot before now dx dy wheel s).engine = s.engine :=
  (congrArg State.engine (takePointing_frame slot before now dx dy wheel s) :)
@[simp] theorem takePointing_image (slot : Slot) (before now : ButtonSet) (dx dy wheel : Int) (s : State) : (takePointing slot before now dx dy wheel s).image = s.image :=
  (congrArg State.image (takePointing_frame slot before now dx dy wheel s) :)
@[simp] theorem takePointing_foreign (slot : Slot) (before now : ButtonSet) (dx dy wheel : Int) (s : State) : (takePointing slot before now dx dy wheel s).foreign = s.foreign :=
  (congrArg State.foreign (takePointing_frame slot before now dx dy wheel s) :)
@[simp] theorem takePointing_mismatches (slot : Slot) (before now : ButtonSet) (dx dy wheel : Int) (s : State) : (takePointing slot before now dx dy wheel s).mismatches = s.mismatches :=
  (congrArg State.mismatches (takePointing_frame slot before now dx dy wheel s) :)

/-- All that takePointerReport can change. -/
theorem takePointerReport_frame (slot buttons : Byte) (dx dy : BitVec 12) (wheel : Byte) (s : State) :
    takePointerReport slot buttons dx dy wheel s = { s with sent := (takePointerReport slot buttons dx dy wheel s).sent, console := (takePointerReport slot buttons dx dy wheel s).console, keys := (takePointerReport slot buttons dx dy wheel s).keys, focusUnit := (takePointerReport slot buttons dx dy wheel s).focusUnit, pointer := (takePointerReport slot buttons dx dy wheel s).pointer, ports := (takePointerReport slot buttons dx dy wheel s).ports, journal := (takePointerReport slot buttons dx dy wheel s).journal } := by
  apply State.eq_of_fields
  all_goals first
    | with_reducible rfl
    | (unfold takePointerReport; (try dsimp only); repeat' split
       all_goals simp)
@[simp] theorem takePointerReport_pending (slot buttons : Byte) (dx dy : BitVec 12) (wheel : Byte) (s : State) : (takePointerReport slot buttons dx dy wheel s).pending = s.pending :=
  (congrArg State.pending (takePointerReport_frame slot buttons dx dy wheel s) :)
@[simp] theorem takePointerReport_freeUses (slot buttons : Byte) (dx dy : BitVec 12) (wheel : Byte) (s : State) : (takePointerReport slot buttons dx dy wheel s).freeUses = s.freeUses :=
  (congrArg State.freeUses (takePointerReport_frame slot buttons dx dy wheel s) :)
@[simp] theorem takePointerReport_clock (slot buttons : Byte) (dx dy : BitVec 12) (wheel : Byte) (s : State) : (takePointerReport slot buttons dx dy wheel s).clock = s.clock :=
  (congrArg State.clock (takePointerReport_frame slot buttons dx dy wheel s) :)
@[simp] theorem takePointerReport_settings (slot buttons : Byte) (dx dy : BitVec 12) (wheel : Byte) (s : State) : (takePointerReport slot buttons dx dy wheel s).settings = s.settings :=
  (congrArg State.settings (takePointerReport_frame slot buttons dx dy wheel s) :)
@[simp] theorem takePointerReport_tables (slot buttons : Byte) (dx dy : BitVec 12) (wheel : Byte) (s : State) : (takePointerReport slot buttons dx dy wheel s).tables = s.tables :=
  (congrArg State.tables (takePointerReport_frame slot buttons dx dy wheel s) :)
@[simp] theorem takePointerReport_recognizer (slot buttons : Byte) (dx dy : BitVec 12) (wheel : Byte) (s : State) : (takePointerReport slot buttons dx dy wheel s).recognizer = s.recognizer :=
  (congrArg State.recognizer (takePointerReport_frame slot buttons dx dy wheel s) :)
@[simp] theorem takePointerReport_video (slot buttons : Byte) (dx dy : BitVec 12) (wheel : Byte) (s : State) : (takePointerReport slot buttons dx dy wheel s).video = s.video :=
  (congrArg State.video (takePointerReport_frame slot buttons dx dy wheel s) :)
@[simp] theorem takePointerReport_schedule (slot buttons : Byte) (dx dy : BitVec 12) (wheel : Byte) (s : State) : (takePointerReport slot buttons dx dy wheel s).schedule = s.schedule :=
  (congrArg State.schedule (takePointerReport_frame slot buttons dx dy wheel s) :)
@[simp] theorem takePointerReport_engine (slot buttons : Byte) (dx dy : BitVec 12) (wheel : Byte) (s : State) : (takePointerReport slot buttons dx dy wheel s).engine = s.engine :=
  (congrArg State.engine (takePointerReport_frame slot buttons dx dy wheel s) :)
@[simp] theorem takePointerReport_image (slot buttons : Byte) (dx dy : BitVec 12) (wheel : Byte) (s : State) : (takePointerReport slot buttons dx dy wheel s).image = s.image :=
  (congrArg State.image (takePointerReport_frame slot buttons dx dy wheel s) :)
@[simp] theorem takePointerReport_foreign (slot buttons : Byte) (dx dy : BitVec 12) (wheel : Byte) (s : State) : (takePointerReport slot buttons dx dy wheel s).foreign = s.foreign :=
  (congrArg State.foreign (takePointerReport_frame slot buttons dx dy wheel s) :)
@[simp] theorem takePointerReport_mismatches (slot buttons : Byte) (dx dy : BitVec 12) (wheel : Byte) (s : State) : (takePointerReport slot buttons dx dy wheel s).mismatches = s.mismatches :=
  (congrArg State.mismatches (takePointerReport_frame slot buttons dx dy wheel s) :)

/-- All that detachDevice can change. -/
theorem detachDevice_frame (i : Slot) (d : Device) (s : State) :
    detachDevice i d s = { s with keys := (detachDevice i d s).keys, ports := (detachDevice i d s).ports, console := (detachDevice i d s).console, recognizer := (detachDevice i d s).recognizer } := by
  apply State.eq_of_fields
  all_goals first
    | with_reducible rfl
    | (unfold detachDevice; cases d <;> simp)
@[simp] theorem detachDevice_pending (i : Slot) (d : Device) (s : State) : (detachDevice i d s).pending = s.pending :=
  (congrArg State.pending (detachDevice_frame i d s) :)
@[simp] theorem detachDevice_sent (i : Slot) (d : Device) (s : State) : (detachDevice i d s).sent = s.sent :=
  (congrArg State.sent (detachDevice_frame i d s) :)
@[simp] theorem detachDevice_freeUses (i : Slot) (d : Device) (s : State) : (detachDevice i d s).freeUses = s.freeUses :=
  (congrArg State.freeUses (detachDevice_frame i d s) :)
@[simp] theorem detachDevice_clock (i : Slot) (d : Device) (s : State) : (detachDevice i d s).clock = s.clock :=
  (congrArg State.clock (detachDevice_frame i d s) :)
@[simp] theorem detachDevice_settings (i : Slot) (d : Device) (s : State) : (detachDevice i d s).settings = s.settings :=
  (congrArg State.settings (detachDevice_frame i d s) :)
@[simp] theorem detachDevice_tables (i : Slot) (d : Device) (s : State) : (detachDevice i d s).tables = s.tables :=
  (congrArg State.tables (detachDevice_frame i d s) :)
@[simp] theorem detachDevice_focusUnit (i : Slot) (d : Device) (s : State) : (detachDevice i d s).focusUnit = s.focusUnit :=
  (congrArg State.focusUnit (detachDevice_frame i d s) :)
@[simp] theorem detachDevice_pointer (i : Slot) (d : Device) (s : State) : (detachDevice i d s).pointer = s.pointer :=
  (congrArg State.pointer (detachDevice_frame i d s) :)
@[simp] theorem detachDevice_video (i : Slot) (d : Device) (s : State) : (detachDevice i d s).video = s.video :=
  (congrArg State.video (detachDevice_frame i d s) :)
@[simp] theorem detachDevice_schedule (i : Slot) (d : Device) (s : State) : (detachDevice i d s).schedule = s.schedule :=
  (congrArg State.schedule (detachDevice_frame i d s) :)
@[simp] theorem detachDevice_engine (i : Slot) (d : Device) (s : State) : (detachDevice i d s).engine = s.engine :=
  (congrArg State.engine (detachDevice_frame i d s) :)
@[simp] theorem detachDevice_journal (i : Slot) (d : Device) (s : State) : (detachDevice i d s).journal = s.journal :=
  (congrArg State.journal (detachDevice_frame i d s) :)
@[simp] theorem detachDevice_image (i : Slot) (d : Device) (s : State) : (detachDevice i d s).image = s.image :=
  (congrArg State.image (detachDevice_frame i d s) :)
@[simp] theorem detachDevice_foreign (i : Slot) (d : Device) (s : State) : (detachDevice i d s).foreign = s.foreign :=
  (congrArg State.foreign (detachDevice_frame i d s) :)
@[simp] theorem detachDevice_mismatches (i : Slot) (d : Device) (s : State) : (detachDevice i d s).mismatches = s.mismatches :=
  (congrArg State.mismatches (detachDevice_frame i d s) :)

/-- All that vacate can change. -/
theorem vacate_frame (i : Slot) (s : State) :
    vacate i s = { s with keys := (vacate i s).keys, ports := (vacate i s).ports, console := (vacate i s).console, recognizer := (vacate i s).recognizer } := by
  apply State.eq_of_fields
  all_goals first
    | with_reducible rfl
    | (unfold vacate; split <;> simp)
@[simp] theorem vacate_pending (i : Slot) (s : State) : (vacate i s).pending = s.pending :=
  (congrArg State.pending (vacate_frame i s) :)
@[simp] theorem vacate_sent (i : Slot) (s : State) : (vacate i s).sent = s.sent :=
  (congrArg State.sent (vacate_frame i s) :)
@[simp] theorem vacate_freeUses (i : Slot) (s : State) : (vacate i s).freeUses = s.freeUses :=
  (congrArg State.freeUses (vacate_frame i s) :)
@[simp] theorem vacate_clock (i : Slot) (s : State) : (vacate i s).clock = s.clock :=
  (congrArg State.clock (vacate_frame i s) :)
@[simp] theorem vacate_settings (i : Slot) (s : State) : (vacate i s).settings = s.settings :=
  (congrArg State.settings (vacate_frame i s) :)
@[simp] theorem vacate_tables (i : Slot) (s : State) : (vacate i s).tables = s.tables :=
  (congrArg State.tables (vacate_frame i s) :)
@[simp] theorem vacate_focusUnit (i : Slot) (s : State) : (vacate i s).focusUnit = s.focusUnit :=
  (congrArg State.focusUnit (vacate_frame i s) :)
@[simp] theorem vacate_pointer (i : Slot) (s : State) : (vacate i s).pointer = s.pointer :=
  (congrArg State.pointer (vacate_frame i s) :)
@[simp] theorem vacate_video (i : Slot) (s : State) : (vacate i s).video = s.video :=
  (congrArg State.video (vacate_frame i s) :)
@[simp] theorem vacate_schedule (i : Slot) (s : State) : (vacate i s).schedule = s.schedule :=
  (congrArg State.schedule (vacate_frame i s) :)
@[simp] theorem vacate_engine (i : Slot) (s : State) : (vacate i s).engine = s.engine :=
  (congrArg State.engine (vacate_frame i s) :)
@[simp] theorem vacate_journal (i : Slot) (s : State) : (vacate i s).journal = s.journal :=
  (congrArg State.journal (vacate_frame i s) :)
@[simp] theorem vacate_image (i : Slot) (s : State) : (vacate i s).image = s.image :=
  (congrArg State.image (vacate_frame i s) :)
@[simp] theorem vacate_foreign (i : Slot) (s : State) : (vacate i s).foreign = s.foreign :=
  (congrArg State.foreign (vacate_frame i s) :)
@[simp] theorem vacate_mismatches (i : Slot) (s : State) : (vacate i s).mismatches = s.mismatches :=
  (congrArg State.mismatches (vacate_frame i s) :)

/-- All that attachKeyboard can change. -/
theorem attachKeyboard_frame (i : Slot) (s : State) :
    attachKeyboard i s = { s with keys := (attachKeyboard i s).keys, ports := (attachKeyboard i s).ports, console := (attachKeyboard i s).console, recognizer := (attachKeyboard i s).recognizer, sent := (attachKeyboard i s).sent } := by
  apply State.eq_of_fields
  all_goals first
    | with_reducible rfl
    | (unfold attachKeyboard; simp)
@[simp] theorem attachKeyboard_pending (i : Slot) (s : State) : (attachKeyboard i s).pending = s.pending :=
  (congrArg State.pending (attachKeyboard_frame i s) :)
@[simp] theorem attachKeyboard_freeUses (i : Slot) (s : State) : (attachKeyboard i s).freeUses = s.freeUses :=
  (congrArg State.freeUses (attachKeyboard_frame i s) :)
@[simp] theorem attachKeyboard_clock (i : Slot) (s : State) : (attachKeyboard i s).clock = s.clock :=
  (congrArg State.clock (attachKeyboard_frame i s) :)
@[simp] theorem attachKeyboard_settings (i : Slot) (s : State) : (attachKeyboard i s).settings = s.settings :=
  (congrArg State.settings (attachKeyboard_frame i s) :)
@[simp] theorem attachKeyboard_tables (i : Slot) (s : State) : (attachKeyboard i s).tables = s.tables :=
  (congrArg State.tables (attachKeyboard_frame i s) :)
@[simp] theorem attachKeyboard_focusUnit (i : Slot) (s : State) : (attachKeyboard i s).focusUnit = s.focusUnit :=
  (congrArg State.focusUnit (attachKeyboard_frame i s) :)
@[simp] theorem attachKeyboard_pointer (i : Slot) (s : State) : (attachKeyboard i s).pointer = s.pointer :=
  (congrArg State.pointer (attachKeyboard_frame i s) :)
@[simp] theorem attachKeyboard_video (i : Slot) (s : State) : (attachKeyboard i s).video = s.video :=
  (congrArg State.video (attachKeyboard_frame i s) :)
@[simp] theorem attachKeyboard_schedule (i : Slot) (s : State) : (attachKeyboard i s).schedule = s.schedule :=
  (congrArg State.schedule (attachKeyboard_frame i s) :)
@[simp] theorem attachKeyboard_engine (i : Slot) (s : State) : (attachKeyboard i s).engine = s.engine :=
  (congrArg State.engine (attachKeyboard_frame i s) :)
@[simp] theorem attachKeyboard_journal (i : Slot) (s : State) : (attachKeyboard i s).journal = s.journal :=
  (congrArg State.journal (attachKeyboard_frame i s) :)
@[simp] theorem attachKeyboard_image (i : Slot) (s : State) : (attachKeyboard i s).image = s.image :=
  (congrArg State.image (attachKeyboard_frame i s) :)
@[simp] theorem attachKeyboard_foreign (i : Slot) (s : State) : (attachKeyboard i s).foreign = s.foreign :=
  (congrArg State.foreign (attachKeyboard_frame i s) :)
@[simp] theorem attachKeyboard_mismatches (i : Slot) (s : State) : (attachKeyboard i s).mismatches = s.mismatches :=
  (congrArg State.mismatches (attachKeyboard_frame i s) :)

/-- All that attachPointer can change. -/
theorem attachPointer_frame (i : Slot) (s : State) :
    attachPointer i s = { s with keys := (attachPointer i s).keys, ports := (attachPointer i s).ports, console := (attachPointer i s).console, recognizer := (attachPointer i s).recognizer } := by
  apply State.eq_of_fields
  all_goals first
    | with_reducible rfl
    | (unfold attachPointer; split <;> simp)
@[simp] theorem attachPointer_pending (i : Slot) (s : State) : (attachPointer i s).pending = s.pending :=
  (congrArg State.pending (attachPointer_frame i s) :)
@[simp] theorem attachPointer_sent (i : Slot) (s : State) : (attachPointer i s).sent = s.sent :=
  (congrArg State.sent (attachPointer_frame i s) :)
@[simp] theorem attachPointer_freeUses (i : Slot) (s : State) : (attachPointer i s).freeUses = s.freeUses :=
  (congrArg State.freeUses (attachPointer_frame i s) :)
@[simp] theorem attachPointer_clock (i : Slot) (s : State) : (attachPointer i s).clock = s.clock :=
  (congrArg State.clock (attachPointer_frame i s) :)
@[simp] theorem attachPointer_settings (i : Slot) (s : State) : (attachPointer i s).settings = s.settings :=
  (congrArg State.settings (attachPointer_frame i s) :)
@[simp] theorem attachPointer_tables (i : Slot) (s : State) : (attachPointer i s).tables = s.tables :=
  (congrArg State.tables (attachPointer_frame i s) :)
@[simp] theorem attachPointer_focusUnit (i : Slot) (s : State) : (attachPointer i s).focusUnit = s.focusUnit :=
  (congrArg State.focusUnit (attachPointer_frame i s) :)
@[simp] theorem attachPointer_pointer (i : Slot) (s : State) : (attachPointer i s).pointer = s.pointer :=
  (congrArg State.pointer (attachPointer_frame i s) :)
@[simp] theorem attachPointer_video (i : Slot) (s : State) : (attachPointer i s).video = s.video :=
  (congrArg State.video (attachPointer_frame i s) :)
@[simp] theorem attachPointer_schedule (i : Slot) (s : State) : (attachPointer i s).schedule = s.schedule :=
  (congrArg State.schedule (attachPointer_frame i s) :)
@[simp] theorem attachPointer_engine (i : Slot) (s : State) : (attachPointer i s).engine = s.engine :=
  (congrArg State.engine (attachPointer_frame i s) :)
@[simp] theorem attachPointer_journal (i : Slot) (s : State) : (attachPointer i s).journal = s.journal :=
  (congrArg State.journal (attachPointer_frame i s) :)
@[simp] theorem attachPointer_image (i : Slot) (s : State) : (attachPointer i s).image = s.image :=
  (congrArg State.image (attachPointer_frame i s) :)
@[simp] theorem attachPointer_foreign (i : Slot) (s : State) : (attachPointer i s).foreign = s.foreign :=
  (congrArg State.foreign (attachPointer_frame i s) :)
@[simp] theorem attachPointer_mismatches (i : Slot) (s : State) : (attachPointer i s).mismatches = s.mismatches :=
  (congrArg State.mismatches (attachPointer_frame i s) :)

/-- All that attachDevice can change. -/
theorem attachDevice_frame (slot deviceClass : Byte) (s : State) :
    attachDevice slot deviceClass s = { s with keys := (attachDevice slot deviceClass s).keys, ports := (attachDevice slot deviceClass s).ports, console := (attachDevice slot deviceClass s).console, recognizer := (attachDevice slot deviceClass s).recognizer, sent := (attachDevice slot deviceClass s).sent } := by
  apply State.eq_of_fields
  all_goals first
    | with_reducible rfl
    | (unfold attachDevice; (try dsimp only); repeat' split
       all_goals simp)
@[simp] theorem attachDevice_pending (slot deviceClass : Byte) (s : State) : (attachDevice slot deviceClass s).pending = s.pending :=
  (congrArg State.pending (attachDevice_frame slot deviceClass s) :)
@[simp] theorem attachDevice_freeUses (slot deviceClass : Byte) (s : State) : (attachDevice slot deviceClass s).freeUses = s.freeUses :=
  (congrArg State.freeUses (attachDevice_frame slot deviceClass s) :)
@[simp] theorem attachDevice_clock (slot deviceClass : Byte) (s : State) : (attachDevice slot deviceClass s).clock = s.clock :=
  (congrArg State.clock (attachDevice_frame slot deviceClass s) :)
@[simp] theorem attachDevice_settings (slot deviceClass : Byte) (s : State) : (attachDevice slot deviceClass s).settings = s.settings :=
  (congrArg State.settings (attachDevice_frame slot deviceClass s) :)
@[simp] theorem attachDevice_tables (slot deviceClass : Byte) (s : State) : (attachDevice slot deviceClass s).tables = s.tables :=
  (congrArg State.tables (attachDevice_frame slot deviceClass s) :)
@[simp] theorem attachDevice_focusUnit (slot deviceClass : Byte) (s : State) : (attachDevice slot deviceClass s).focusUnit = s.focusUnit :=
  (congrArg State.focusUnit (attachDevice_frame slot deviceClass s) :)
@[simp] theorem attachDevice_pointer (slot deviceClass : Byte) (s : State) : (attachDevice slot deviceClass s).pointer = s.pointer :=
  (congrArg State.pointer (attachDevice_frame slot deviceClass s) :)
@[simp] theorem attachDevice_video (slot deviceClass : Byte) (s : State) : (attachDevice slot deviceClass s).video = s.video :=
  (congrArg State.video (attachDevice_frame slot deviceClass s) :)
@[simp] theorem attachDevice_schedule (slot deviceClass : Byte) (s : State) : (attachDevice slot deviceClass s).schedule = s.schedule :=
  (congrArg State.schedule (attachDevice_frame slot deviceClass s) :)
@[simp] theorem attachDevice_engine (slot deviceClass : Byte) (s : State) : (attachDevice slot deviceClass s).engine = s.engine :=
  (congrArg State.engine (attachDevice_frame slot deviceClass s) :)
@[simp] theorem attachDevice_journal (slot deviceClass : Byte) (s : State) : (attachDevice slot deviceClass s).journal = s.journal :=
  (congrArg State.journal (attachDevice_frame slot deviceClass s) :)
@[simp] theorem attachDevice_image (slot deviceClass : Byte) (s : State) : (attachDevice slot deviceClass s).image = s.image :=
  (congrArg State.image (attachDevice_frame slot deviceClass s) :)
@[simp] theorem attachDevice_foreign (slot deviceClass : Byte) (s : State) : (attachDevice slot deviceClass s).foreign = s.foreign :=
  (congrArg State.foreign (attachDevice_frame slot deviceClass s) :)
@[simp] theorem attachDevice_mismatches (slot deviceClass : Byte) (s : State) : (attachDevice slot deviceClass s).mismatches = s.mismatches :=
  (congrArg State.mismatches (attachDevice_frame slot deviceClass s) :)

/-- All that detachEvent can change. -/
theorem detachEvent_frame (slot : Byte) (s : State) :
    detachEvent slot s = { s with keys := (detachEvent slot s).keys, ports := (detachEvent slot s).ports, console := (detachEvent slot s).console, recognizer := (detachEvent slot s).recognizer } := by
  apply State.eq_of_fields
  all_goals first
    | with_reducible rfl
    | (unfold detachEvent; (try dsimp only); repeat' split
       all_goals simp)
@[simp] theorem detachEvent_pending (slot : Byte) (s : State) : (detachEvent slot s).pending = s.pending :=
  (congrArg State.pending (detachEvent_frame slot s) :)
@[simp] theorem detachEvent_sent (slot : Byte) (s : State) : (detachEvent slot s).sent = s.sent :=
  (congrArg State.sent (detachEvent_frame slot s) :)
@[simp] theorem detachEvent_freeUses (slot : Byte) (s : State) : (detachEvent slot s).freeUses = s.freeUses :=
  (congrArg State.freeUses (detachEvent_frame slot s) :)
@[simp] theorem detachEvent_clock (slot : Byte) (s : State) : (detachEvent slot s).clock = s.clock :=
  (congrArg State.clock (detachEvent_frame slot s) :)
@[simp] theorem detachEvent_settings (slot : Byte) (s : State) : (detachEvent slot s).settings = s.settings :=
  (congrArg State.settings (detachEvent_frame slot s) :)
@[simp] theorem detachEvent_tables (slot : Byte) (s : State) : (detachEvent slot s).tables = s.tables :=
  (congrArg State.tables (detachEvent_frame slot s) :)
@[simp] theorem detachEvent_focusUnit (slot : Byte) (s : State) : (detachEvent slot s).focusUnit = s.focusUnit :=
  (congrArg State.focusUnit (detachEvent_frame slot s) :)
@[simp] theorem detachEvent_pointer (slot : Byte) (s : State) : (detachEvent slot s).pointer = s.pointer :=
  (congrArg State.pointer (detachEvent_frame slot s) :)
@[simp] theorem detachEvent_video (slot : Byte) (s : State) : (detachEvent slot s).video = s.video :=
  (congrArg State.video (detachEvent_frame slot s) :)
@[simp] theorem detachEvent_schedule (slot : Byte) (s : State) : (detachEvent slot s).schedule = s.schedule :=
  (congrArg State.schedule (detachEvent_frame slot s) :)
@[simp] theorem detachEvent_engine (slot : Byte) (s : State) : (detachEvent slot s).engine = s.engine :=
  (congrArg State.engine (detachEvent_frame slot s) :)
@[simp] theorem detachEvent_journal (slot : Byte) (s : State) : (detachEvent slot s).journal = s.journal :=
  (congrArg State.journal (detachEvent_frame slot s) :)
@[simp] theorem detachEvent_image (slot : Byte) (s : State) : (detachEvent slot s).image = s.image :=
  (congrArg State.image (detachEvent_frame slot s) :)
@[simp] theorem detachEvent_foreign (slot : Byte) (s : State) : (detachEvent slot s).foreign = s.foreign :=
  (congrArg State.foreign (detachEvent_frame slot s) :)
@[simp] theorem detachEvent_mismatches (slot : Byte) (s : State) : (detachEvent slot s).mismatches = s.mismatches :=
  (congrArg State.mismatches (detachEvent_frame slot s) :)

/-- All that resetConsole can change. -/
theorem resetConsole_frame (s : State) :
    resetConsole s = { s with keys := (resetConsole s).keys, ports := (resetConsole s).ports, console := (resetConsole s).console, recognizer := (resetConsole s).recognizer, sent := (resetConsole s).sent } := by
  apply State.eq_of_fields
  all_goals first
    | with_reducible rfl
    | (unfold resetConsole; simp)
@[simp] theorem resetConsole_pending (s : State) : (resetConsole s).pending = s.pending :=
  (congrArg State.pending (resetConsole_frame s) :)
@[simp] theorem resetConsole_freeUses (s : State) : (resetConsole s).freeUses = s.freeUses :=
  (congrArg State.freeUses (resetConsole_frame s) :)
@[simp] theorem resetConsole_clock (s : State) : (resetConsole s).clock = s.clock :=
  (congrArg State.clock (resetConsole_frame s) :)
@[simp] theorem resetConsole_settings (s : State) : (resetConsole s).settings = s.settings :=
  (congrArg State.settings (resetConsole_frame s) :)
@[simp] theorem resetConsole_tables (s : State) : (resetConsole s).tables = s.tables :=
  (congrArg State.tables (resetConsole_frame s) :)
@[simp] theorem resetConsole_focusUnit (s : State) : (resetConsole s).focusUnit = s.focusUnit :=
  (congrArg State.focusUnit (resetConsole_frame s) :)
@[simp] theorem resetConsole_pointer (s : State) : (resetConsole s).pointer = s.pointer :=
  (congrArg State.pointer (resetConsole_frame s) :)
@[simp] theorem resetConsole_video (s : State) : (resetConsole s).video = s.video :=
  (congrArg State.video (resetConsole_frame s) :)
@[simp] theorem resetConsole_schedule (s : State) : (resetConsole s).schedule = s.schedule :=
  (congrArg State.schedule (resetConsole_frame s) :)
@[simp] theorem resetConsole_engine (s : State) : (resetConsole s).engine = s.engine :=
  (congrArg State.engine (resetConsole_frame s) :)
@[simp] theorem resetConsole_journal (s : State) : (resetConsole s).journal = s.journal :=
  (congrArg State.journal (resetConsole_frame s) :)
@[simp] theorem resetConsole_image (s : State) : (resetConsole s).image = s.image :=
  (congrArg State.image (resetConsole_frame s) :)
@[simp] theorem resetConsole_foreign (s : State) : (resetConsole s).foreign = s.foreign :=
  (congrArg State.foreign (resetConsole_frame s) :)
@[simp] theorem resetConsole_mismatches (s : State) : (resetConsole s).mismatches = s.mismatches :=
  (congrArg State.mismatches (resetConsole_frame s) :)

/-- All that ageEntry can change. -/
theorem ageEntry_frame (slot : Slot) (usage : Byte) (s : State) :
    ageEntry slot usage s = { s with keys := (ageEntry slot usage s).keys, ports := (ageEntry slot usage s).ports } := by
  apply State.eq_of_fields
  all_goals first
    | with_reducible rfl
    | (unfold ageEntry; (try dsimp only); repeat' split
       all_goals simp)
@[simp] theorem ageEntry_pending (slot : Slot) (usage : Byte) (s : State) : (ageEntry slot usage s).pending = s.pending :=
  (congrArg State.pending (ageEntry_frame slot usage s) :)
@[simp] theorem ageEntry_sent (slot : Slot) (usage : Byte) (s : State) : (ageEntry slot usage s).sent = s.sent :=
  (congrArg State.sent (ageEntry_frame slot usage s) :)
@[simp] theorem ageEntry_freeUses (slot : Slot) (usage : Byte) (s : State) : (ageEntry slot usage s).freeUses = s.freeUses :=
  (congrArg State.freeUses (ageEntry_frame slot usage s) :)
@[simp] theorem ageEntry_clock (slot : Slot) (usage : Byte) (s : State) : (ageEntry slot usage s).clock = s.clock :=
  (congrArg State.clock (ageEntry_frame slot usage s) :)
@[simp] theorem ageEntry_settings (slot : Slot) (usage : Byte) (s : State) : (ageEntry slot usage s).settings = s.settings :=
  (congrArg State.settings (ageEntry_frame slot usage s) :)
@[simp] theorem ageEntry_tables (slot : Slot) (usage : Byte) (s : State) : (ageEntry slot usage s).tables = s.tables :=
  (congrArg State.tables (ageEntry_frame slot usage s) :)
@[simp] theorem ageEntry_console (slot : Slot) (usage : Byte) (s : State) : (ageEntry slot usage s).console = s.console :=
  (congrArg State.console (ageEntry_frame slot usage s) :)
@[simp] theorem ageEntry_recognizer (slot : Slot) (usage : Byte) (s : State) : (ageEntry slot usage s).recognizer = s.recognizer :=
  (congrArg State.recognizer (ageEntry_frame slot usage s) :)
@[simp] theorem ageEntry_focusUnit (slot : Slot) (usage : Byte) (s : State) : (ageEntry slot usage s).focusUnit = s.focusUnit :=
  (congrArg State.focusUnit (ageEntry_frame slot usage s) :)
@[simp] theorem ageEntry_pointer (slot : Slot) (usage : Byte) (s : State) : (ageEntry slot usage s).pointer = s.pointer :=
  (congrArg State.pointer (ageEntry_frame slot usage s) :)
@[simp] theorem ageEntry_video (slot : Slot) (usage : Byte) (s : State) : (ageEntry slot usage s).video = s.video :=
  (congrArg State.video (ageEntry_frame slot usage s) :)
@[simp] theorem ageEntry_schedule (slot : Slot) (usage : Byte) (s : State) : (ageEntry slot usage s).schedule = s.schedule :=
  (congrArg State.schedule (ageEntry_frame slot usage s) :)
@[simp] theorem ageEntry_engine (slot : Slot) (usage : Byte) (s : State) : (ageEntry slot usage s).engine = s.engine :=
  (congrArg State.engine (ageEntry_frame slot usage s) :)
@[simp] theorem ageEntry_journal (slot : Slot) (usage : Byte) (s : State) : (ageEntry slot usage s).journal = s.journal :=
  (congrArg State.journal (ageEntry_frame slot usage s) :)
@[simp] theorem ageEntry_image (slot : Slot) (usage : Byte) (s : State) : (ageEntry slot usage s).image = s.image :=
  (congrArg State.image (ageEntry_frame slot usage s) :)
@[simp] theorem ageEntry_foreign (slot : Slot) (usage : Byte) (s : State) : (ageEntry slot usage s).foreign = s.foreign :=
  (congrArg State.foreign (ageEntry_frame slot usage s) :)
@[simp] theorem ageEntry_mismatches (slot : Slot) (usage : Byte) (s : State) : (ageEntry slot usage s).mismatches = s.mismatches :=
  (congrArg State.mismatches (ageEntry_frame slot usage s) :)

/-- All that ageAll can change. -/
theorem ageAll_frame (s : State) :
    ageAll s = { s with keys := (ageAll s).keys, ports := (ageAll s).ports } := by
  apply State.eq_of_fields
  all_goals first
    | with_reducible rfl
    | (exact foldl_keeps State.pending _ (fun t x => by simp) _ _)
    | (exact foldl_keeps State.sent _ (fun t x => by simp) _ _)
    | (exact foldl_keeps State.freeUses _ (fun t x => by simp) _ _)
    | (exact foldl_keeps State.clock _ (fun t x => by simp) _ _)
    | (exact foldl_keeps State.settings _ (fun t x => by simp) _ _)
    | (exact foldl_keeps State.tables _ (fun t x => by simp) _ _)
    | (exact foldl_keeps State.console _ (fun t x => by simp) _ _)
    | (exact foldl_keeps State.recognizer _ (fun t x => by simp) _ _)
    | (exact foldl_keeps State.focusUnit _ (fun t x => by simp) _ _)
    | (exact foldl_keeps State.pointer _ (fun t x => by simp) _ _)
    | (exact foldl_keeps State.video _ (fun t x => by simp) _ _)
    | (exact foldl_keeps State.schedule _ (fun t x => by simp) _ _)
    | (exact foldl_keeps State.engine _ (fun t x => by simp) _ _)
    | (exact foldl_keeps State.journal _ (fun t x => by simp) _ _)
    | (exact foldl_keeps State.image _ (fun t x => by simp) _ _)
    | (exact foldl_keeps State.foreign _ (fun t x => by simp) _ _)
    | (exact foldl_keeps State.mismatches _ (fun t x => by simp) _ _)
@[simp] theorem ageAll_pending (s : State) : (ageAll s).pending = s.pending :=
  (congrArg State.pending (ageAll_frame s) :)
@[simp] theorem ageAll_sent (s : State) : (ageAll s).sent = s.sent :=
  (congrArg State.sent (ageAll_frame s) :)
@[simp] theorem ageAll_freeUses (s : State) : (ageAll s).freeUses = s.freeUses :=
  (congrArg State.freeUses (ageAll_frame s) :)
@[simp] theorem ageAll_clock (s : State) : (ageAll s).clock = s.clock :=
  (congrArg State.clock (ageAll_frame s) :)
@[simp] theorem ageAll_settings (s : State) : (ageAll s).settings = s.settings :=
  (congrArg State.settings (ageAll_frame s) :)
@[simp] theorem ageAll_tables (s : State) : (ageAll s).tables = s.tables :=
  (congrArg State.tables (ageAll_frame s) :)
@[simp] theorem ageAll_console (s : State) : (ageAll s).console = s.console :=
  (congrArg State.console (ageAll_frame s) :)
@[simp] theorem ageAll_recognizer (s : State) : (ageAll s).recognizer = s.recognizer :=
  (congrArg State.recognizer (ageAll_frame s) :)
@[simp] theorem ageAll_focusUnit (s : State) : (ageAll s).focusUnit = s.focusUnit :=
  (congrArg State.focusUnit (ageAll_frame s) :)
@[simp] theorem ageAll_pointer (s : State) : (ageAll s).pointer = s.pointer :=
  (congrArg State.pointer (ageAll_frame s) :)
@[simp] theorem ageAll_video (s : State) : (ageAll s).video = s.video :=
  (congrArg State.video (ageAll_frame s) :)
@[simp] theorem ageAll_schedule (s : State) : (ageAll s).schedule = s.schedule :=
  (congrArg State.schedule (ageAll_frame s) :)
@[simp] theorem ageAll_engine (s : State) : (ageAll s).engine = s.engine :=
  (congrArg State.engine (ageAll_frame s) :)
@[simp] theorem ageAll_journal (s : State) : (ageAll s).journal = s.journal :=
  (congrArg State.journal (ageAll_frame s) :)
@[simp] theorem ageAll_image (s : State) : (ageAll s).image = s.image :=
  (congrArg State.image (ageAll_frame s) :)
@[simp] theorem ageAll_foreign (s : State) : (ageAll s).foreign = s.foreign :=
  (congrArg State.foreign (ageAll_frame s) :)
@[simp] theorem ageAll_mismatches (s : State) : (ageAll s).mismatches = s.mismatches :=
  (congrArg State.mismatches (ageAll_frame s) :)

/-- All that leaveBroadcast can change. -/
theorem leaveBroadcast_frame (k : Computer) (s : State) :
    leaveBroadcast k s = { s with focusUnit := (leaveBroadcast k s).focusUnit } := by
  apply State.eq_of_fields
  all_goals first
    | with_reducible rfl
    | (unfold leaveBroadcast; simp)
@[simp] theorem leaveBroadcast_pending (k : Computer) (s : State) : (leaveBroadcast k s).pending = s.pending :=
  (congrArg State.pending (leaveBroadcast_frame k s) :)
@[simp] theorem leaveBroadcast_sent (k : Computer) (s : State) : (leaveBroadcast k s).sent = s.sent :=
  (congrArg State.sent (leaveBroadcast_frame k s) :)
@[simp] theorem leaveBroadcast_freeUses (k : Computer) (s : State) : (leaveBroadcast k s).freeUses = s.freeUses :=
  (congrArg State.freeUses (leaveBroadcast_frame k s) :)
@[simp] theorem leaveBroadcast_clock (k : Computer) (s : State) : (leaveBroadcast k s).clock = s.clock :=
  (congrArg State.clock (leaveBroadcast_frame k s) :)
@[simp] theorem leaveBroadcast_settings (k : Computer) (s : State) : (leaveBroadcast k s).settings = s.settings :=
  (congrArg State.settings (leaveBroadcast_frame k s) :)
@[simp] theorem leaveBroadcast_tables (k : Computer) (s : State) : (leaveBroadcast k s).tables = s.tables :=
  (congrArg State.tables (leaveBroadcast_frame k s) :)
@[simp] theorem leaveBroadcast_console (k : Computer) (s : State) : (leaveBroadcast k s).console = s.console :=
  (congrArg State.console (leaveBroadcast_frame k s) :)
@[simp] theorem leaveBroadcast_keys (k : Computer) (s : State) : (leaveBroadcast k s).keys = s.keys :=
  (congrArg State.keys (leaveBroadcast_frame k s) :)
@[simp] theorem leaveBroadcast_recognizer (k : Computer) (s : State) : (leaveBroadcast k s).recognizer = s.recognizer :=
  (congrArg State.recognizer (leaveBroadcast_frame k s) :)
@[simp] theorem leaveBroadcast_pointer (k : Computer) (s : State) : (leaveBroadcast k s).pointer = s.pointer :=
  (congrArg State.pointer (leaveBroadcast_frame k s) :)
@[simp] theorem leaveBroadcast_ports (k : Computer) (s : State) : (leaveBroadcast k s).ports = s.ports :=
  (congrArg State.ports (leaveBroadcast_frame k s) :)
@[simp] theorem leaveBroadcast_video (k : Computer) (s : State) : (leaveBroadcast k s).video = s.video :=
  (congrArg State.video (leaveBroadcast_frame k s) :)
@[simp] theorem leaveBroadcast_schedule (k : Computer) (s : State) : (leaveBroadcast k s).schedule = s.schedule :=
  (congrArg State.schedule (leaveBroadcast_frame k s) :)
@[simp] theorem leaveBroadcast_engine (k : Computer) (s : State) : (leaveBroadcast k s).engine = s.engine :=
  (congrArg State.engine (leaveBroadcast_frame k s) :)
@[simp] theorem leaveBroadcast_journal (k : Computer) (s : State) : (leaveBroadcast k s).journal = s.journal :=
  (congrArg State.journal (leaveBroadcast_frame k s) :)
@[simp] theorem leaveBroadcast_image (k : Computer) (s : State) : (leaveBroadcast k s).image = s.image :=
  (congrArg State.image (leaveBroadcast_frame k s) :)
@[simp] theorem leaveBroadcast_foreign (k : Computer) (s : State) : (leaveBroadcast k s).foreign = s.foreign :=
  (congrArg State.foreign (leaveBroadcast_frame k s) :)
@[simp] theorem leaveBroadcast_mismatches (k : Computer) (s : State) : (leaveBroadcast k s).mismatches = s.mismatches :=
  (congrArg State.mismatches (leaveBroadcast_frame k s) :)

/-- All that clearLeds can change. -/
theorem clearLeds_frame (k : Computer) (s : State) :
    clearLeds k s = { s with sent := (clearLeds k s).sent, console := (clearLeds k s).console, ports := (clearLeds k s).ports } := by
  apply State.eq_of_fields
  all_goals first
    | with_reducible rfl
    | (unfold clearLeds; dsimp only; split <;> simp)
@[simp] theorem clearLeds_pending (k : Computer) (s : State) : (clearLeds k s).pending = s.pending :=
  (congrArg State.pending (clearLeds_frame k s) :)
@[simp] theorem clearLeds_freeUses (k : Computer) (s : State) : (clearLeds k s).freeUses = s.freeUses :=
  (congrArg State.freeUses (clearLeds_frame k s) :)
@[simp] theorem clearLeds_clock (k : Computer) (s : State) : (clearLeds k s).clock = s.clock :=
  (congrArg State.clock (clearLeds_frame k s) :)
@[simp] theorem clearLeds_settings (k : Computer) (s : State) : (clearLeds k s).settings = s.settings :=
  (congrArg State.settings (clearLeds_frame k s) :)
@[simp] theorem clearLeds_tables (k : Computer) (s : State) : (clearLeds k s).tables = s.tables :=
  (congrArg State.tables (clearLeds_frame k s) :)
@[simp] theorem clearLeds_keys (k : Computer) (s : State) : (clearLeds k s).keys = s.keys :=
  (congrArg State.keys (clearLeds_frame k s) :)
@[simp] theorem clearLeds_recognizer (k : Computer) (s : State) : (clearLeds k s).recognizer = s.recognizer :=
  (congrArg State.recognizer (clearLeds_frame k s) :)
@[simp] theorem clearLeds_focusUnit (k : Computer) (s : State) : (clearLeds k s).focusUnit = s.focusUnit :=
  (congrArg State.focusUnit (clearLeds_frame k s) :)
@[simp] theorem clearLeds_pointer (k : Computer) (s : State) : (clearLeds k s).pointer = s.pointer :=
  (congrArg State.pointer (clearLeds_frame k s) :)
@[simp] theorem clearLeds_video (k : Computer) (s : State) : (clearLeds k s).video = s.video :=
  (congrArg State.video (clearLeds_frame k s) :)
@[simp] theorem clearLeds_schedule (k : Computer) (s : State) : (clearLeds k s).schedule = s.schedule :=
  (congrArg State.schedule (clearLeds_frame k s) :)
@[simp] theorem clearLeds_engine (k : Computer) (s : State) : (clearLeds k s).engine = s.engine :=
  (congrArg State.engine (clearLeds_frame k s) :)
@[simp] theorem clearLeds_journal (k : Computer) (s : State) : (clearLeds k s).journal = s.journal :=
  (congrArg State.journal (clearLeds_frame k s) :)
@[simp] theorem clearLeds_image (k : Computer) (s : State) : (clearLeds k s).image = s.image :=
  (congrArg State.image (clearLeds_frame k s) :)
@[simp] theorem clearLeds_foreign (k : Computer) (s : State) : (clearLeds k s).foreign = s.foreign :=
  (congrArg State.foreign (clearLeds_frame k s) :)
@[simp] theorem clearLeds_mismatches (k : Computer) (s : State) : (clearLeds k s).mismatches = s.mismatches :=
  (congrArg State.mismatches (clearLeds_frame k s) :)

/-- All that abandonWake can change. -/
theorem abandonWake_frame (k : Computer) (s : State) :
    abandonWake k s = { s with ports := (abandonWake k s).ports, engine := (abandonWake k s).engine } := by
  apply State.eq_of_fields
  all_goals first
    | with_reducible rfl
    | (unfold abandonWake; split <;> simp)
@[simp] theorem abandonWake_pending (k : Computer) (s : State) : (abandonWake k s).pending = s.pending :=
  (congrArg State.pending (abandonWake_frame k s) :)
@[simp] theorem abandonWake_sent (k : Computer) (s : State) : (abandonWake k s).sent = s.sent :=
  (congrArg State.sent (abandonWake_frame k s) :)
@[simp] theorem abandonWake_freeUses (k : Computer) (s : State) : (abandonWake k s).freeUses = s.freeUses :=
  (congrArg State.freeUses (abandonWake_frame k s) :)
@[simp] theorem abandonWake_clock (k : Computer) (s : State) : (abandonWake k s).clock = s.clock :=
  (congrArg State.clock (abandonWake_frame k s) :)
@[simp] theorem abandonWake_settings (k : Computer) (s : State) : (abandonWake k s).settings = s.settings :=
  (congrArg State.settings (abandonWake_frame k s) :)
@[simp] theorem abandonWake_tables (k : Computer) (s : State) : (abandonWake k s).tables = s.tables :=
  (congrArg State.tables (abandonWake_frame k s) :)
@[simp] theorem abandonWake_console (k : Computer) (s : State) : (abandonWake k s).console = s.console :=
  (congrArg State.console (abandonWake_frame k s) :)
@[simp] theorem abandonWake_keys (k : Computer) (s : State) : (abandonWake k s).keys = s.keys :=
  (congrArg State.keys (abandonWake_frame k s) :)
@[simp] theorem abandonWake_recognizer (k : Computer) (s : State) : (abandonWake k s).recognizer = s.recognizer :=
  (congrArg State.recognizer (abandonWake_frame k s) :)
@[simp] theorem abandonWake_focusUnit (k : Computer) (s : State) : (abandonWake k s).focusUnit = s.focusUnit :=
  (congrArg State.focusUnit (abandonWake_frame k s) :)
@[simp] theorem abandonWake_pointer (k : Computer) (s : State) : (abandonWake k s).pointer = s.pointer :=
  (congrArg State.pointer (abandonWake_frame k s) :)
@[simp] theorem abandonWake_video (k : Computer) (s : State) : (abandonWake k s).video = s.video :=
  (congrArg State.video (abandonWake_frame k s) :)
@[simp] theorem abandonWake_schedule (k : Computer) (s : State) : (abandonWake k s).schedule = s.schedule :=
  (congrArg State.schedule (abandonWake_frame k s) :)
@[simp] theorem abandonWake_journal (k : Computer) (s : State) : (abandonWake k s).journal = s.journal :=
  (congrArg State.journal (abandonWake_frame k s) :)
@[simp] theorem abandonWake_image (k : Computer) (s : State) : (abandonWake k s).image = s.image :=
  (congrArg State.image (abandonWake_frame k s) :)
@[simp] theorem abandonWake_foreign (k : Computer) (s : State) : (abandonWake k s).foreign = s.foreign :=
  (congrArg State.foreign (abandonWake_frame k s) :)
@[simp] theorem abandonWake_mismatches (k : Computer) (s : State) : (abandonWake k s).mismatches = s.mismatches :=
  (congrArg State.mismatches (abandonWake_frame k s) :)

/-- All that leaveQueueable can change. -/
theorem leaveQueueable_frame (k : Computer) (s : State) :
    leaveQueueable k s = { s with sent := (leaveQueueable k s).sent, console := (leaveQueueable k s).console, keys := (leaveQueueable k s).keys, focusUnit := (leaveQueueable k s).focusUnit, ports := (leaveQueueable k s).ports, engine := (leaveQueueable k s).engine } := by
  apply State.eq_of_fields
  all_goals first
    | with_reducible rfl
    | (unfold leaveQueueable; simp)
@[simp] theorem leaveQueueable_pending (k : Computer) (s : State) : (leaveQueueable k s).pending = s.pending :=
  (congrArg State.pending (leaveQueueable_frame k s) :)
@[simp] theorem leaveQueueable_freeUses (k : Computer) (s : State) : (leaveQueueable k s).freeUses = s.freeUses :=
  (congrArg State.freeUses (leaveQueueable_frame k s) :)
@[simp] theorem leaveQueueable_clock (k : Computer) (s : State) : (leaveQueueable k s).clock = s.clock :=
  (congrArg State.clock (leaveQueueable_frame k s) :)
@[simp] theorem leaveQueueable_settings (k : Computer) (s : State) : (leaveQueueable k s).settings = s.settings :=
  (congrArg State.settings (leaveQueueable_frame k s) :)
@[simp] theorem leaveQueueable_tables (k : Computer) (s : State) : (leaveQueueable k s).tables = s.tables :=
  (congrArg State.tables (leaveQueueable_frame k s) :)
@[simp] theorem leaveQueueable_recognizer (k : Computer) (s : State) : (leaveQueueable k s).recognizer = s.recognizer :=
  (congrArg State.recognizer (leaveQueueable_frame k s) :)
@[simp] theorem leaveQueueable_pointer (k : Computer) (s : State) : (leaveQueueable k s).pointer = s.pointer :=
  (congrArg State.pointer (leaveQueueable_frame k s) :)
@[simp] theorem leaveQueueable_video (k : Computer) (s : State) : (leaveQueueable k s).video = s.video :=
  (congrArg State.video (leaveQueueable_frame k s) :)
@[simp] theorem leaveQueueable_schedule (k : Computer) (s : State) : (leaveQueueable k s).schedule = s.schedule :=
  (congrArg State.schedule (leaveQueueable_frame k s) :)
@[simp] theorem leaveQueueable_journal (k : Computer) (s : State) : (leaveQueueable k s).journal = s.journal :=
  (congrArg State.journal (leaveQueueable_frame k s) :)
@[simp] theorem leaveQueueable_image (k : Computer) (s : State) : (leaveQueueable k s).image = s.image :=
  (congrArg State.image (leaveQueueable_frame k s) :)
@[simp] theorem leaveQueueable_foreign (k : Computer) (s : State) : (leaveQueueable k s).foreign = s.foreign :=
  (congrArg State.foreign (leaveQueueable_frame k s) :)
@[simp] theorem leaveQueueable_mismatches (k : Computer) (s : State) : (leaveQueueable k s).mismatches = s.mismatches :=
  (congrArg State.mismatches (leaveQueueable_frame k s) :)

/-- All that leaveIf can change. -/
theorem leaveIf_frame (was : Bool) (k : Computer) (s : State) :
    leaveIf was k s = { s with sent := (leaveIf was k s).sent, console := (leaveIf was k s).console, keys := (leaveIf was k s).keys, focusUnit := (leaveIf was k s).focusUnit, ports := (leaveIf was k s).ports, engine := (leaveIf was k s).engine } := by
  apply State.eq_of_fields
  all_goals first
    | with_reducible rfl
    | (unfold leaveIf; split <;> simp)
@[simp] theorem leaveIf_pending (was : Bool) (k : Computer) (s : State) : (leaveIf was k s).pending = s.pending :=
  (congrArg State.pending (leaveIf_frame was k s) :)
@[simp] theorem leaveIf_freeUses (was : Bool) (k : Computer) (s : State) : (leaveIf was k s).freeUses = s.freeUses :=
  (congrArg State.freeUses (leaveIf_frame was k s) :)
@[simp] theorem leaveIf_clock (was : Bool) (k : Computer) (s : State) : (leaveIf was k s).clock = s.clock :=
  (congrArg State.clock (leaveIf_frame was k s) :)
@[simp] theorem leaveIf_settings (was : Bool) (k : Computer) (s : State) : (leaveIf was k s).settings = s.settings :=
  (congrArg State.settings (leaveIf_frame was k s) :)
@[simp] theorem leaveIf_tables (was : Bool) (k : Computer) (s : State) : (leaveIf was k s).tables = s.tables :=
  (congrArg State.tables (leaveIf_frame was k s) :)
@[simp] theorem leaveIf_recognizer (was : Bool) (k : Computer) (s : State) : (leaveIf was k s).recognizer = s.recognizer :=
  (congrArg State.recognizer (leaveIf_frame was k s) :)
@[simp] theorem leaveIf_pointer (was : Bool) (k : Computer) (s : State) : (leaveIf was k s).pointer = s.pointer :=
  (congrArg State.pointer (leaveIf_frame was k s) :)
@[simp] theorem leaveIf_video (was : Bool) (k : Computer) (s : State) : (leaveIf was k s).video = s.video :=
  (congrArg State.video (leaveIf_frame was k s) :)
@[simp] theorem leaveIf_schedule (was : Bool) (k : Computer) (s : State) : (leaveIf was k s).schedule = s.schedule :=
  (congrArg State.schedule (leaveIf_frame was k s) :)
@[simp] theorem leaveIf_journal (was : Bool) (k : Computer) (s : State) : (leaveIf was k s).journal = s.journal :=
  (congrArg State.journal (leaveIf_frame was k s) :)
@[simp] theorem leaveIf_image (was : Bool) (k : Computer) (s : State) : (leaveIf was k s).image = s.image :=
  (congrArg State.image (leaveIf_frame was k s) :)
@[simp] theorem leaveIf_foreign (was : Bool) (k : Computer) (s : State) : (leaveIf was k s).foreign = s.foreign :=
  (congrArg State.foreign (leaveIf_frame was k s) :)
@[simp] theorem leaveIf_mismatches (was : Bool) (k : Computer) (s : State) : (leaveIf was k s).mismatches = s.mismatches :=
  (congrArg State.mismatches (leaveIf_frame was k s) :)

/-- All that changePresence can change. -/
theorem changePresence_frame (k : Computer) (present : Bool) (s : State) :
    changePresence k present s = { s with ports := (changePresence k present s).ports } := by
  apply State.eq_of_fields
  all_goals first
    | with_reducible rfl
    | (unfold changePresence; simp)
@[simp] theorem changePresence_pending (k : Computer) (present : Bool) (s : State) : (changePresence k present s).pending = s.pending :=
  (congrArg State.pending (changePresence_frame k present s) :)
@[simp] theorem changePresence_sent (k : Computer) (present : Bool) (s : State) : (changePresence k present s).sent = s.sent :=
  (congrArg State.sent (changePresence_frame k present s) :)
@[simp] theorem changePresence_freeUses (k : Computer) (present : Bool) (s : State) : (changePresence k present s).freeUses = s.freeUses :=
  (congrArg State.freeUses (changePresence_frame k present s) :)
@[simp] theorem changePresence_clock (k : Computer) (present : Bool) (s : State) : (changePresence k present s).clock = s.clock :=
  (congrArg State.clock (changePresence_frame k present s) :)
@[simp] theorem changePresence_settings (k : Computer) (present : Bool) (s : State) : (changePresence k present s).settings = s.settings :=
  (congrArg State.settings (changePresence_frame k present s) :)
@[simp] theorem changePresence_tables (k : Computer) (present : Bool) (s : State) : (changePresence k present s).tables = s.tables :=
  (congrArg State.tables (changePresence_frame k present s) :)
@[simp] theorem changePresence_console (k : Computer) (present : Bool) (s : State) : (changePresence k present s).console = s.console :=
  (congrArg State.console (changePresence_frame k present s) :)
@[simp] theorem changePresence_keys (k : Computer) (present : Bool) (s : State) : (changePresence k present s).keys = s.keys :=
  (congrArg State.keys (changePresence_frame k present s) :)
@[simp] theorem changePresence_recognizer (k : Computer) (present : Bool) (s : State) : (changePresence k present s).recognizer = s.recognizer :=
  (congrArg State.recognizer (changePresence_frame k present s) :)
@[simp] theorem changePresence_focusUnit (k : Computer) (present : Bool) (s : State) : (changePresence k present s).focusUnit = s.focusUnit :=
  (congrArg State.focusUnit (changePresence_frame k present s) :)
@[simp] theorem changePresence_pointer (k : Computer) (present : Bool) (s : State) : (changePresence k present s).pointer = s.pointer :=
  (congrArg State.pointer (changePresence_frame k present s) :)
@[simp] theorem changePresence_video (k : Computer) (present : Bool) (s : State) : (changePresence k present s).video = s.video :=
  (congrArg State.video (changePresence_frame k present s) :)
@[simp] theorem changePresence_schedule (k : Computer) (present : Bool) (s : State) : (changePresence k present s).schedule = s.schedule :=
  (congrArg State.schedule (changePresence_frame k present s) :)
@[simp] theorem changePresence_engine (k : Computer) (present : Bool) (s : State) : (changePresence k present s).engine = s.engine :=
  (congrArg State.engine (changePresence_frame k present s) :)
@[simp] theorem changePresence_journal (k : Computer) (present : Bool) (s : State) : (changePresence k present s).journal = s.journal :=
  (congrArg State.journal (changePresence_frame k present s) :)
@[simp] theorem changePresence_image (k : Computer) (present : Bool) (s : State) : (changePresence k present s).image = s.image :=
  (congrArg State.image (changePresence_frame k present s) :)
@[simp] theorem changePresence_foreign (k : Computer) (present : Bool) (s : State) : (changePresence k present s).foreign = s.foreign :=
  (congrArg State.foreign (changePresence_frame k present s) :)
@[simp] theorem changePresence_mismatches (k : Computer) (present : Bool) (s : State) : (changePresence k present s).mismatches = s.mismatches :=
  (congrArg State.mismatches (changePresence_frame k present s) :)

/-- All that presenceArrival can change. -/
theorem presenceArrival_frame (k : Computer) (s : State) :
    presenceArrival k s = { s with ports := (presenceArrival k s).ports, journal := (presenceArrival k s).journal } := by
  apply State.eq_of_fields
  all_goals first
    | with_reducible rfl
    | (unfold presenceArrival; simp)
@[simp] theorem presenceArrival_pending (k : Computer) (s : State) : (presenceArrival k s).pending = s.pending :=
  (congrArg State.pending (presenceArrival_frame k s) :)
@[simp] theorem presenceArrival_sent (k : Computer) (s : State) : (presenceArrival k s).sent = s.sent :=
  (congrArg State.sent (presenceArrival_frame k s) :)
@[simp] theorem presenceArrival_freeUses (k : Computer) (s : State) : (presenceArrival k s).freeUses = s.freeUses :=
  (congrArg State.freeUses (presenceArrival_frame k s) :)
@[simp] theorem presenceArrival_clock (k : Computer) (s : State) : (presenceArrival k s).clock = s.clock :=
  (congrArg State.clock (presenceArrival_frame k s) :)
@[simp] theorem presenceArrival_settings (k : Computer) (s : State) : (presenceArrival k s).settings = s.settings :=
  (congrArg State.settings (presenceArrival_frame k s) :)
@[simp] theorem presenceArrival_tables (k : Computer) (s : State) : (presenceArrival k s).tables = s.tables :=
  (congrArg State.tables (presenceArrival_frame k s) :)
@[simp] theorem presenceArrival_console (k : Computer) (s : State) : (presenceArrival k s).console = s.console :=
  (congrArg State.console (presenceArrival_frame k s) :)
@[simp] theorem presenceArrival_keys (k : Computer) (s : State) : (presenceArrival k s).keys = s.keys :=
  (congrArg State.keys (presenceArrival_frame k s) :)
@[simp] theorem presenceArrival_recognizer (k : Computer) (s : State) : (presenceArrival k s).recognizer = s.recognizer :=
  (congrArg State.recognizer (presenceArrival_frame k s) :)
@[simp] theorem presenceArrival_focusUnit (k : Computer) (s : State) : (presenceArrival k s).focusUnit = s.focusUnit :=
  (congrArg State.focusUnit (presenceArrival_frame k s) :)
@[simp] theorem presenceArrival_pointer (k : Computer) (s : State) : (presenceArrival k s).pointer = s.pointer :=
  (congrArg State.pointer (presenceArrival_frame k s) :)
@[simp] theorem presenceArrival_video (k : Computer) (s : State) : (presenceArrival k s).video = s.video :=
  (congrArg State.video (presenceArrival_frame k s) :)
@[simp] theorem presenceArrival_schedule (k : Computer) (s : State) : (presenceArrival k s).schedule = s.schedule :=
  (congrArg State.schedule (presenceArrival_frame k s) :)
@[simp] theorem presenceArrival_engine (k : Computer) (s : State) : (presenceArrival k s).engine = s.engine :=
  (congrArg State.engine (presenceArrival_frame k s) :)
@[simp] theorem presenceArrival_image (k : Computer) (s : State) : (presenceArrival k s).image = s.image :=
  (congrArg State.image (presenceArrival_frame k s) :)
@[simp] theorem presenceArrival_foreign (k : Computer) (s : State) : (presenceArrival k s).foreign = s.foreign :=
  (congrArg State.foreign (presenceArrival_frame k s) :)
@[simp] theorem presenceArrival_mismatches (k : Computer) (s : State) : (presenceArrival k s).mismatches = s.mismatches :=
  (congrArg State.mismatches (presenceArrival_frame k s) :)

/-- All that presenceLoss can change. -/
theorem presenceLoss_frame (k : Computer) (s : State) :
    presenceLoss k s = { s with sent := (presenceLoss k s).sent, console := (presenceLoss k s).console, keys := (presenceLoss k s).keys, focusUnit := (presenceLoss k s).focusUnit, ports := (presenceLoss k s).ports, engine := (presenceLoss k s).engine, journal := (presenceLoss k s).journal } := by
  apply State.eq_of_fields
  all_goals first
    | with_reducible rfl
    | (unfold presenceLoss; simp)
@[simp] theorem presenceLoss_pending (k : Computer) (s : State) : (presenceLoss k s).pending = s.pending :=
  (congrArg State.pending (presenceLoss_frame k s) :)
@[simp] theorem presenceLoss_freeUses (k : Computer) (s : State) : (presenceLoss k s).freeUses = s.freeUses :=
  (congrArg State.freeUses (presenceLoss_frame k s) :)
@[simp] theorem presenceLoss_clock (k : Computer) (s : State) : (presenceLoss k s).clock = s.clock :=
  (congrArg State.clock (presenceLoss_frame k s) :)
@[simp] theorem presenceLoss_settings (k : Computer) (s : State) : (presenceLoss k s).settings = s.settings :=
  (congrArg State.settings (presenceLoss_frame k s) :)
@[simp] theorem presenceLoss_tables (k : Computer) (s : State) : (presenceLoss k s).tables = s.tables :=
  (congrArg State.tables (presenceLoss_frame k s) :)
@[simp] theorem presenceLoss_recognizer (k : Computer) (s : State) : (presenceLoss k s).recognizer = s.recognizer :=
  (congrArg State.recognizer (presenceLoss_frame k s) :)
@[simp] theorem presenceLoss_pointer (k : Computer) (s : State) : (presenceLoss k s).pointer = s.pointer :=
  (congrArg State.pointer (presenceLoss_frame k s) :)
@[simp] theorem presenceLoss_video (k : Computer) (s : State) : (presenceLoss k s).video = s.video :=
  (congrArg State.video (presenceLoss_frame k s) :)
@[simp] theorem presenceLoss_schedule (k : Computer) (s : State) : (presenceLoss k s).schedule = s.schedule :=
  (congrArg State.schedule (presenceLoss_frame k s) :)
@[simp] theorem presenceLoss_image (k : Computer) (s : State) : (presenceLoss k s).image = s.image :=
  (congrArg State.image (presenceLoss_frame k s) :)
@[simp] theorem presenceLoss_foreign (k : Computer) (s : State) : (presenceLoss k s).foreign = s.foreign :=
  (congrArg State.foreign (presenceLoss_frame k s) :)
@[simp] theorem presenceLoss_mismatches (k : Computer) (s : State) : (presenceLoss k s).mismatches = s.mismatches :=
  (congrArg State.mismatches (presenceLoss_frame k s) :)

/-- All that expireDebounce can change. -/
theorem expireDebounce_frame (k : Computer) (s : State) :
    expireDebounce k s = { s with sent := (expireDebounce k s).sent, console := (expireDebounce k s).console, keys := (expireDebounce k s).keys, focusUnit := (expireDebounce k s).focusUnit, ports := (expireDebounce k s).ports, engine := (expireDebounce k s).engine, journal := (expireDebounce k s).journal } := by
  apply State.eq_of_fields
  all_goals first
    | with_reducible rfl
    | (unfold expireDebounce; (try dsimp only); repeat' split
       all_goals simp)
@[simp] theorem expireDebounce_pending (k : Computer) (s : State) : (expireDebounce k s).pending = s.pending :=
  (congrArg State.pending (expireDebounce_frame k s) :)
@[simp] theorem expireDebounce_freeUses (k : Computer) (s : State) : (expireDebounce k s).freeUses = s.freeUses :=
  (congrArg State.freeUses (expireDebounce_frame k s) :)
@[simp] theorem expireDebounce_clock (k : Computer) (s : State) : (expireDebounce k s).clock = s.clock :=
  (congrArg State.clock (expireDebounce_frame k s) :)
@[simp] theorem expireDebounce_settings (k : Computer) (s : State) : (expireDebounce k s).settings = s.settings :=
  (congrArg State.settings (expireDebounce_frame k s) :)
@[simp] theorem expireDebounce_tables (k : Computer) (s : State) : (expireDebounce k s).tables = s.tables :=
  (congrArg State.tables (expireDebounce_frame k s) :)
@[simp] theorem expireDebounce_recognizer (k : Computer) (s : State) : (expireDebounce k s).recognizer = s.recognizer :=
  (congrArg State.recognizer (expireDebounce_frame k s) :)
@[simp] theorem expireDebounce_pointer (k : Computer) (s : State) : (expireDebounce k s).pointer = s.pointer :=
  (congrArg State.pointer (expireDebounce_frame k s) :)
@[simp] theorem expireDebounce_video (k : Computer) (s : State) : (expireDebounce k s).video = s.video :=
  (congrArg State.video (expireDebounce_frame k s) :)
@[simp] theorem expireDebounce_schedule (k : Computer) (s : State) : (expireDebounce k s).schedule = s.schedule :=
  (congrArg State.schedule (expireDebounce_frame k s) :)
@[simp] theorem expireDebounce_image (k : Computer) (s : State) : (expireDebounce k s).image = s.image :=
  (congrArg State.image (expireDebounce_frame k s) :)
@[simp] theorem expireDebounce_foreign (k : Computer) (s : State) : (expireDebounce k s).foreign = s.foreign :=
  (congrArg State.foreign (expireDebounce_frame k s) :)
@[simp] theorem expireDebounce_mismatches (k : Computer) (s : State) : (expireDebounce k s).mismatches = s.mismatches :=
  (congrArg State.mismatches (expireDebounce_frame k s) :)

/-- All that moveLink can change. -/
theorem moveLink_frame (k : Computer) (old new : LinkState) (s : State) :
    moveLink k old new s = { s with ports := (moveLink k old new s).ports } := by
  apply State.eq_of_fields
  all_goals first
    | with_reducible rfl
    | (unfold moveLink; split <;> simp)
@[simp] theorem moveLink_pending (k : Computer) (old new : LinkState) (s : State) : (moveLink k old new s).pending = s.pending :=
  (congrArg State.pending (moveLink_frame k old new s) :)
@[simp] theorem moveLink_sent (k : Computer) (old new : LinkState) (s : State) : (moveLink k old new s).sent = s.sent :=
  (congrArg State.sent (moveLink_frame k old new s) :)
@[simp] theorem moveLink_freeUses (k : Computer) (old new : LinkState) (s : State) : (moveLink k old new s).freeUses = s.freeUses :=
  (congrArg State.freeUses (moveLink_frame k old new s) :)
@[simp] theorem moveLink_clock (k : Computer) (old new : LinkState) (s : State) : (moveLink k old new s).clock = s.clock :=
  (congrArg State.clock (moveLink_frame k old new s) :)
@[simp] theorem moveLink_settings (k : Computer) (old new : LinkState) (s : State) : (moveLink k old new s).settings = s.settings :=
  (congrArg State.settings (moveLink_frame k old new s) :)
@[simp] theorem moveLink_tables (k : Computer) (old new : LinkState) (s : State) : (moveLink k old new s).tables = s.tables :=
  (congrArg State.tables (moveLink_frame k old new s) :)
@[simp] theorem moveLink_console (k : Computer) (old new : LinkState) (s : State) : (moveLink k old new s).console = s.console :=
  (congrArg State.console (moveLink_frame k old new s) :)
@[simp] theorem moveLink_keys (k : Computer) (old new : LinkState) (s : State) : (moveLink k old new s).keys = s.keys :=
  (congrArg State.keys (moveLink_frame k old new s) :)
@[simp] theorem moveLink_recognizer (k : Computer) (old new : LinkState) (s : State) : (moveLink k old new s).recognizer = s.recognizer :=
  (congrArg State.recognizer (moveLink_frame k old new s) :)
@[simp] theorem moveLink_focusUnit (k : Computer) (old new : LinkState) (s : State) : (moveLink k old new s).focusUnit = s.focusUnit :=
  (congrArg State.focusUnit (moveLink_frame k old new s) :)
@[simp] theorem moveLink_pointer (k : Computer) (old new : LinkState) (s : State) : (moveLink k old new s).pointer = s.pointer :=
  (congrArg State.pointer (moveLink_frame k old new s) :)
@[simp] theorem moveLink_video (k : Computer) (old new : LinkState) (s : State) : (moveLink k old new s).video = s.video :=
  (congrArg State.video (moveLink_frame k old new s) :)
@[simp] theorem moveLink_schedule (k : Computer) (old new : LinkState) (s : State) : (moveLink k old new s).schedule = s.schedule :=
  (congrArg State.schedule (moveLink_frame k old new s) :)
@[simp] theorem moveLink_engine (k : Computer) (old new : LinkState) (s : State) : (moveLink k old new s).engine = s.engine :=
  (congrArg State.engine (moveLink_frame k old new s) :)
@[simp] theorem moveLink_journal (k : Computer) (old new : LinkState) (s : State) : (moveLink k old new s).journal = s.journal :=
  (congrArg State.journal (moveLink_frame k old new s) :)
@[simp] theorem moveLink_image (k : Computer) (old new : LinkState) (s : State) : (moveLink k old new s).image = s.image :=
  (congrArg State.image (moveLink_frame k old new s) :)
@[simp] theorem moveLink_foreign (k : Computer) (old new : LinkState) (s : State) : (moveLink k old new s).foreign = s.foreign :=
  (congrArg State.foreign (moveLink_frame k old new s) :)
@[simp] theorem moveLink_mismatches (k : Computer) (old new : LinkState) (s : State) : (moveLink k old new s).mismatches = s.mismatches :=
  (congrArg State.mismatches (moveLink_frame k old new s) :)

/-- All that wakeDone can change. -/
theorem wakeDone_frame (k : Computer) (a : WakeAttempt) (s : State) :
    wakeDone k a s = { s with ports := (wakeDone k a s).ports, engine := (wakeDone k a s).engine, journal := (wakeDone k a s).journal } := by
  apply State.eq_of_fields
  all_goals first
    | with_reducible rfl
    | (unfold wakeDone; simp)
@[simp] theorem wakeDone_pending (k : Computer) (a : WakeAttempt) (s : State) : (wakeDone k a s).pending = s.pending :=
  (congrArg State.pending (wakeDone_frame k a s) :)
@[simp] theorem wakeDone_sent (k : Computer) (a : WakeAttempt) (s : State) : (wakeDone k a s).sent = s.sent :=
  (congrArg State.sent (wakeDone_frame k a s) :)
@[simp] theorem wakeDone_freeUses (k : Computer) (a : WakeAttempt) (s : State) : (wakeDone k a s).freeUses = s.freeUses :=
  (congrArg State.freeUses (wakeDone_frame k a s) :)
@[simp] theorem wakeDone_clock (k : Computer) (a : WakeAttempt) (s : State) : (wakeDone k a s).clock = s.clock :=
  (congrArg State.clock (wakeDone_frame k a s) :)
@[simp] theorem wakeDone_settings (k : Computer) (a : WakeAttempt) (s : State) : (wakeDone k a s).settings = s.settings :=
  (congrArg State.settings (wakeDone_frame k a s) :)
@[simp] theorem wakeDone_tables (k : Computer) (a : WakeAttempt) (s : State) : (wakeDone k a s).tables = s.tables :=
  (congrArg State.tables (wakeDone_frame k a s) :)
@[simp] theorem wakeDone_console (k : Computer) (a : WakeAttempt) (s : State) : (wakeDone k a s).console = s.console :=
  (congrArg State.console (wakeDone_frame k a s) :)
@[simp] theorem wakeDone_keys (k : Computer) (a : WakeAttempt) (s : State) : (wakeDone k a s).keys = s.keys :=
  (congrArg State.keys (wakeDone_frame k a s) :)
@[simp] theorem wakeDone_recognizer (k : Computer) (a : WakeAttempt) (s : State) : (wakeDone k a s).recognizer = s.recognizer :=
  (congrArg State.recognizer (wakeDone_frame k a s) :)
@[simp] theorem wakeDone_focusUnit (k : Computer) (a : WakeAttempt) (s : State) : (wakeDone k a s).focusUnit = s.focusUnit :=
  (congrArg State.focusUnit (wakeDone_frame k a s) :)
@[simp] theorem wakeDone_pointer (k : Computer) (a : WakeAttempt) (s : State) : (wakeDone k a s).pointer = s.pointer :=
  (congrArg State.pointer (wakeDone_frame k a s) :)
@[simp] theorem wakeDone_video (k : Computer) (a : WakeAttempt) (s : State) : (wakeDone k a s).video = s.video :=
  (congrArg State.video (wakeDone_frame k a s) :)
@[simp] theorem wakeDone_schedule (k : Computer) (a : WakeAttempt) (s : State) : (wakeDone k a s).schedule = s.schedule :=
  (congrArg State.schedule (wakeDone_frame k a s) :)
@[simp] theorem wakeDone_image (k : Computer) (a : WakeAttempt) (s : State) : (wakeDone k a s).image = s.image :=
  (congrArg State.image (wakeDone_frame k a s) :)
@[simp] theorem wakeDone_foreign (k : Computer) (a : WakeAttempt) (s : State) : (wakeDone k a s).foreign = s.foreign :=
  (congrArg State.foreign (wakeDone_frame k a s) :)
@[simp] theorem wakeDone_mismatches (k : Computer) (a : WakeAttempt) (s : State) : (wakeDone k a s).mismatches = s.mismatches :=
  (congrArg State.mismatches (wakeDone_frame k a s) :)

/-- All that resumePort can change. -/
theorem resumePort_frame (k : Computer) (s : State) :
    resumePort k s = { s with ports := (resumePort k s).ports, engine := (resumePort k s).engine, journal := (resumePort k s).journal } := by
  apply State.eq_of_fields
  all_goals first
    | with_reducible rfl
    | (unfold resumePort; split <;> simp)
@[simp] theorem resumePort_pending (k : Computer) (s : State) : (resumePort k s).pending = s.pending :=
  (congrArg State.pending (resumePort_frame k s) :)
@[simp] theorem resumePort_sent (k : Computer) (s : State) : (resumePort k s).sent = s.sent :=
  (congrArg State.sent (resumePort_frame k s) :)
@[simp] theorem resumePort_freeUses (k : Computer) (s : State) : (resumePort k s).freeUses = s.freeUses :=
  (congrArg State.freeUses (resumePort_frame k s) :)
@[simp] theorem resumePort_clock (k : Computer) (s : State) : (resumePort k s).clock = s.clock :=
  (congrArg State.clock (resumePort_frame k s) :)
@[simp] theorem resumePort_settings (k : Computer) (s : State) : (resumePort k s).settings = s.settings :=
  (congrArg State.settings (resumePort_frame k s) :)
@[simp] theorem resumePort_tables (k : Computer) (s : State) : (resumePort k s).tables = s.tables :=
  (congrArg State.tables (resumePort_frame k s) :)
@[simp] theorem resumePort_console (k : Computer) (s : State) : (resumePort k s).console = s.console :=
  (congrArg State.console (resumePort_frame k s) :)
@[simp] theorem resumePort_keys (k : Computer) (s : State) : (resumePort k s).keys = s.keys :=
  (congrArg State.keys (resumePort_frame k s) :)
@[simp] theorem resumePort_recognizer (k : Computer) (s : State) : (resumePort k s).recognizer = s.recognizer :=
  (congrArg State.recognizer (resumePort_frame k s) :)
@[simp] theorem resumePort_focusUnit (k : Computer) (s : State) : (resumePort k s).focusUnit = s.focusUnit :=
  (congrArg State.focusUnit (resumePort_frame k s) :)
@[simp] theorem resumePort_pointer (k : Computer) (s : State) : (resumePort k s).pointer = s.pointer :=
  (congrArg State.pointer (resumePort_frame k s) :)
@[simp] theorem resumePort_video (k : Computer) (s : State) : (resumePort k s).video = s.video :=
  (congrArg State.video (resumePort_frame k s) :)
@[simp] theorem resumePort_schedule (k : Computer) (s : State) : (resumePort k s).schedule = s.schedule :=
  (congrArg State.schedule (resumePort_frame k s) :)
@[simp] theorem resumePort_image (k : Computer) (s : State) : (resumePort k s).image = s.image :=
  (congrArg State.image (resumePort_frame k s) :)
@[simp] theorem resumePort_foreign (k : Computer) (s : State) : (resumePort k s).foreign = s.foreign :=
  (congrArg State.foreign (resumePort_frame k s) :)
@[simp] theorem resumePort_mismatches (k : Computer) (s : State) : (resumePort k s).mismatches = s.mismatches :=
  (congrArg State.mismatches (resumePort_frame k s) :)

/-- All that recordFocusReset can change. -/
theorem recordFocusReset_frame (k : Computer) (s : State) :
    recordFocusReset k s = { s with journal := (recordFocusReset k s).journal } := by
  apply State.eq_of_fields
  all_goals first
    | with_reducible rfl
    | (unfold recordFocusReset; split <;> simp)
@[simp] theorem recordFocusReset_pending (k : Computer) (s : State) : (recordFocusReset k s).pending = s.pending :=
  (congrArg State.pending (recordFocusReset_frame k s) :)
@[simp] theorem recordFocusReset_sent (k : Computer) (s : State) : (recordFocusReset k s).sent = s.sent :=
  (congrArg State.sent (recordFocusReset_frame k s) :)
@[simp] theorem recordFocusReset_freeUses (k : Computer) (s : State) : (recordFocusReset k s).freeUses = s.freeUses :=
  (congrArg State.freeUses (recordFocusReset_frame k s) :)
@[simp] theorem recordFocusReset_clock (k : Computer) (s : State) : (recordFocusReset k s).clock = s.clock :=
  (congrArg State.clock (recordFocusReset_frame k s) :)
@[simp] theorem recordFocusReset_settings (k : Computer) (s : State) : (recordFocusReset k s).settings = s.settings :=
  (congrArg State.settings (recordFocusReset_frame k s) :)
@[simp] theorem recordFocusReset_tables (k : Computer) (s : State) : (recordFocusReset k s).tables = s.tables :=
  (congrArg State.tables (recordFocusReset_frame k s) :)
@[simp] theorem recordFocusReset_console (k : Computer) (s : State) : (recordFocusReset k s).console = s.console :=
  (congrArg State.console (recordFocusReset_frame k s) :)
@[simp] theorem recordFocusReset_keys (k : Computer) (s : State) : (recordFocusReset k s).keys = s.keys :=
  (congrArg State.keys (recordFocusReset_frame k s) :)
@[simp] theorem recordFocusReset_recognizer (k : Computer) (s : State) : (recordFocusReset k s).recognizer = s.recognizer :=
  (congrArg State.recognizer (recordFocusReset_frame k s) :)
@[simp] theorem recordFocusReset_focusUnit (k : Computer) (s : State) : (recordFocusReset k s).focusUnit = s.focusUnit :=
  (congrArg State.focusUnit (recordFocusReset_frame k s) :)
@[simp] theorem recordFocusReset_pointer (k : Computer) (s : State) : (recordFocusReset k s).pointer = s.pointer :=
  (congrArg State.pointer (recordFocusReset_frame k s) :)
@[simp] theorem recordFocusReset_ports (k : Computer) (s : State) : (recordFocusReset k s).ports = s.ports :=
  (congrArg State.ports (recordFocusReset_frame k s) :)
@[simp] theorem recordFocusReset_video (k : Computer) (s : State) : (recordFocusReset k s).video = s.video :=
  (congrArg State.video (recordFocusReset_frame k s) :)
@[simp] theorem recordFocusReset_schedule (k : Computer) (s : State) : (recordFocusReset k s).schedule = s.schedule :=
  (congrArg State.schedule (recordFocusReset_frame k s) :)
@[simp] theorem recordFocusReset_engine (k : Computer) (s : State) : (recordFocusReset k s).engine = s.engine :=
  (congrArg State.engine (recordFocusReset_frame k s) :)
@[simp] theorem recordFocusReset_image (k : Computer) (s : State) : (recordFocusReset k s).image = s.image :=
  (congrArg State.image (recordFocusReset_frame k s) :)
@[simp] theorem recordFocusReset_foreign (k : Computer) (s : State) : (recordFocusReset k s).foreign = s.foreign :=
  (congrArg State.foreign (recordFocusReset_frame k s) :)
@[simp] theorem recordFocusReset_mismatches (k : Computer) (s : State) : (recordFocusReset k s).mismatches = s.mismatches :=
  (congrArg State.mismatches (recordFocusReset_frame k s) :)

/-- All that resetBus can change. -/
theorem resetBus_frame (k : Computer) (s : State) :
    resetBus k s = { s with sent := (resetBus k s).sent, console := (resetBus k s).console, keys := (resetBus k s).keys, focusUnit := (resetBus k s).focusUnit, ports := (resetBus k s).ports, engine := (resetBus k s).engine, journal := (resetBus k s).journal } := by
  apply State.eq_of_fields
  all_goals first
    | with_reducible rfl
    | (unfold resetBus; split <;> simp)
@[simp] theorem resetBus_pending (k : Computer) (s : State) : (resetBus k s).pending = s.pending :=
  (congrArg State.pending (resetBus_frame k s) :)
@[simp] theorem resetBus_freeUses (k : Computer) (s : State) : (resetBus k s).freeUses = s.freeUses :=
  (congrArg State.freeUses (resetBus_frame k s) :)
@[simp] theorem resetBus_clock (k : Computer) (s : State) : (resetBus k s).clock = s.clock :=
  (congrArg State.clock (resetBus_frame k s) :)
@[simp] theorem resetBus_settings (k : Computer) (s : State) : (resetBus k s).settings = s.settings :=
  (congrArg State.settings (resetBus_frame k s) :)
@[simp] theorem resetBus_tables (k : Computer) (s : State) : (resetBus k s).tables = s.tables :=
  (congrArg State.tables (resetBus_frame k s) :)
@[simp] theorem resetBus_recognizer (k : Computer) (s : State) : (resetBus k s).recognizer = s.recognizer :=
  (congrArg State.recognizer (resetBus_frame k s) :)
@[simp] theorem resetBus_pointer (k : Computer) (s : State) : (resetBus k s).pointer = s.pointer :=
  (congrArg State.pointer (resetBus_frame k s) :)
@[simp] theorem resetBus_video (k : Computer) (s : State) : (resetBus k s).video = s.video :=
  (congrArg State.video (resetBus_frame k s) :)
@[simp] theorem resetBus_schedule (k : Computer) (s : State) : (resetBus k s).schedule = s.schedule :=
  (congrArg State.schedule (resetBus_frame k s) :)
@[simp] theorem resetBus_image (k : Computer) (s : State) : (resetBus k s).image = s.image :=
  (congrArg State.image (resetBus_frame k s) :)
@[simp] theorem resetBus_foreign (k : Computer) (s : State) : (resetBus k s).foreign = s.foreign :=
  (congrArg State.foreign (resetBus_frame k s) :)
@[simp] theorem resetBus_mismatches (k : Computer) (s : State) : (resetBus k s).mismatches = s.mismatches :=
  (congrArg State.mismatches (resetBus_frame k s) :)

/-- All that endResync can change. -/
theorem endResync_frame (k : Computer) (acc : Resync) (s : State) :
    endResync k acc s = { s with ports := (endResync k acc s).ports } := by
  apply State.eq_of_fields
  all_goals first
    | with_reducible rfl
    | (unfold endResync; simp)
@[simp] theorem endResync_pending (k : Computer) (acc : Resync) (s : State) : (endResync k acc s).pending = s.pending :=
  (congrArg State.pending (endResync_frame k acc s) :)
@[simp] theorem endResync_sent (k : Computer) (acc : Resync) (s : State) : (endResync k acc s).sent = s.sent :=
  (congrArg State.sent (endResync_frame k acc s) :)
@[simp] theorem endResync_freeUses (k : Computer) (acc : Resync) (s : State) : (endResync k acc s).freeUses = s.freeUses :=
  (congrArg State.freeUses (endResync_frame k acc s) :)
@[simp] theorem endResync_clock (k : Computer) (acc : Resync) (s : State) : (endResync k acc s).clock = s.clock :=
  (congrArg State.clock (endResync_frame k acc s) :)
@[simp] theorem endResync_settings (k : Computer) (acc : Resync) (s : State) : (endResync k acc s).settings = s.settings :=
  (congrArg State.settings (endResync_frame k acc s) :)
@[simp] theorem endResync_tables (k : Computer) (acc : Resync) (s : State) : (endResync k acc s).tables = s.tables :=
  (congrArg State.tables (endResync_frame k acc s) :)
@[simp] theorem endResync_console (k : Computer) (acc : Resync) (s : State) : (endResync k acc s).console = s.console :=
  (congrArg State.console (endResync_frame k acc s) :)
@[simp] theorem endResync_keys (k : Computer) (acc : Resync) (s : State) : (endResync k acc s).keys = s.keys :=
  (congrArg State.keys (endResync_frame k acc s) :)
@[simp] theorem endResync_recognizer (k : Computer) (acc : Resync) (s : State) : (endResync k acc s).recognizer = s.recognizer :=
  (congrArg State.recognizer (endResync_frame k acc s) :)
@[simp] theorem endResync_focusUnit (k : Computer) (acc : Resync) (s : State) : (endResync k acc s).focusUnit = s.focusUnit :=
  (congrArg State.focusUnit (endResync_frame k acc s) :)
@[simp] theorem endResync_pointer (k : Computer) (acc : Resync) (s : State) : (endResync k acc s).pointer = s.pointer :=
  (congrArg State.pointer (endResync_frame k acc s) :)
@[simp] theorem endResync_video (k : Computer) (acc : Resync) (s : State) : (endResync k acc s).video = s.video :=
  (congrArg State.video (endResync_frame k acc s) :)
@[simp] theorem endResync_schedule (k : Computer) (acc : Resync) (s : State) : (endResync k acc s).schedule = s.schedule :=
  (congrArg State.schedule (endResync_frame k acc s) :)
@[simp] theorem endResync_engine (k : Computer) (acc : Resync) (s : State) : (endResync k acc s).engine = s.engine :=
  (congrArg State.engine (endResync_frame k acc s) :)
@[simp] theorem endResync_journal (k : Computer) (acc : Resync) (s : State) : (endResync k acc s).journal = s.journal :=
  (congrArg State.journal (endResync_frame k acc s) :)
@[simp] theorem endResync_image (k : Computer) (acc : Resync) (s : State) : (endResync k acc s).image = s.image :=
  (congrArg State.image (endResync_frame k acc s) :)
@[simp] theorem endResync_foreign (k : Computer) (acc : Resync) (s : State) : (endResync k acc s).foreign = s.foreign :=
  (congrArg State.foreign (endResync_frame k acc s) :)
@[simp] theorem endResync_mismatches (k : Computer) (acc : Resync) (s : State) : (endResync k acc s).mismatches = s.mismatches :=
  (congrArg State.mismatches (endResync_frame k acc s) :)

/-- All that deliverHead can change. -/
theorem deliverHead_frame (k : Computer) (s : State) :
    deliverHead k s = { s with ports := (deliverHead k s).ports, sent := (deliverHead k s).sent } := by
  apply State.eq_of_fields
  all_goals first
    | with_reducible rfl
    | (unfold deliverHead; split <;> simp)
@[simp] theorem deliverHead_pending (k : Computer) (s : State) : (deliverHead k s).pending = s.pending :=
  (congrArg State.pending (deliverHead_frame k s) :)
@[simp] theorem deliverHead_freeUses (k : Computer) (s : State) : (deliverHead k s).freeUses = s.freeUses :=
  (congrArg State.freeUses (deliverHead_frame k s) :)
@[simp] theorem deliverHead_clock (k : Computer) (s : State) : (deliverHead k s).clock = s.clock :=
  (congrArg State.clock (deliverHead_frame k s) :)
@[simp] theorem deliverHead_settings (k : Computer) (s : State) : (deliverHead k s).settings = s.settings :=
  (congrArg State.settings (deliverHead_frame k s) :)
@[simp] theorem deliverHead_tables (k : Computer) (s : State) : (deliverHead k s).tables = s.tables :=
  (congrArg State.tables (deliverHead_frame k s) :)
@[simp] theorem deliverHead_console (k : Computer) (s : State) : (deliverHead k s).console = s.console :=
  (congrArg State.console (deliverHead_frame k s) :)
@[simp] theorem deliverHead_keys (k : Computer) (s : State) : (deliverHead k s).keys = s.keys :=
  (congrArg State.keys (deliverHead_frame k s) :)
@[simp] theorem deliverHead_recognizer (k : Computer) (s : State) : (deliverHead k s).recognizer = s.recognizer :=
  (congrArg State.recognizer (deliverHead_frame k s) :)
@[simp] theorem deliverHead_focusUnit (k : Computer) (s : State) : (deliverHead k s).focusUnit = s.focusUnit :=
  (congrArg State.focusUnit (deliverHead_frame k s) :)
@[simp] theorem deliverHead_pointer (k : Computer) (s : State) : (deliverHead k s).pointer = s.pointer :=
  (congrArg State.pointer (deliverHead_frame k s) :)
@[simp] theorem deliverHead_video (k : Computer) (s : State) : (deliverHead k s).video = s.video :=
  (congrArg State.video (deliverHead_frame k s) :)
@[simp] theorem deliverHead_schedule (k : Computer) (s : State) : (deliverHead k s).schedule = s.schedule :=
  (congrArg State.schedule (deliverHead_frame k s) :)
@[simp] theorem deliverHead_engine (k : Computer) (s : State) : (deliverHead k s).engine = s.engine :=
  (congrArg State.engine (deliverHead_frame k s) :)
@[simp] theorem deliverHead_journal (k : Computer) (s : State) : (deliverHead k s).journal = s.journal :=
  (congrArg State.journal (deliverHead_frame k s) :)
@[simp] theorem deliverHead_image (k : Computer) (s : State) : (deliverHead k s).image = s.image :=
  (congrArg State.image (deliverHead_frame k s) :)
@[simp] theorem deliverHead_foreign (k : Computer) (s : State) : (deliverHead k s).foreign = s.foreign :=
  (congrArg State.foreign (deliverHead_frame k s) :)
@[simp] theorem deliverHead_mismatches (k : Computer) (s : State) : (deliverHead k s).mismatches = s.mismatches :=
  (congrArg State.mismatches (deliverHead_frame k s) :)

/-- All that testResync can change. -/
theorem testResync_frame (k : Computer) (s : State) :
    testResync k s = { s with ports := (testResync k s).ports } := by
  apply State.eq_of_fields
  all_goals first
    | with_reducible rfl
    | (unfold testResync; (try dsimp only); repeat' split
       all_goals simp)
@[simp] theorem testResync_pending (k : Computer) (s : State) : (testResync k s).pending = s.pending :=
  (congrArg State.pending (testResync_frame k s) :)
@[simp] theorem testResync_sent (k : Computer) (s : State) : (testResync k s).sent = s.sent :=
  (congrArg State.sent (testResync_frame k s) :)
@[simp] theorem testResync_freeUses (k : Computer) (s : State) : (testResync k s).freeUses = s.freeUses :=
  (congrArg State.freeUses (testResync_frame k s) :)
@[simp] theorem testResync_clock (k : Computer) (s : State) : (testResync k s).clock = s.clock :=
  (congrArg State.clock (testResync_frame k s) :)
@[simp] theorem testResync_settings (k : Computer) (s : State) : (testResync k s).settings = s.settings :=
  (congrArg State.settings (testResync_frame k s) :)
@[simp] theorem testResync_tables (k : Computer) (s : State) : (testResync k s).tables = s.tables :=
  (congrArg State.tables (testResync_frame k s) :)
@[simp] theorem testResync_console (k : Computer) (s : State) : (testResync k s).console = s.console :=
  (congrArg State.console (testResync_frame k s) :)
@[simp] theorem testResync_keys (k : Computer) (s : State) : (testResync k s).keys = s.keys :=
  (congrArg State.keys (testResync_frame k s) :)
@[simp] theorem testResync_recognizer (k : Computer) (s : State) : (testResync k s).recognizer = s.recognizer :=
  (congrArg State.recognizer (testResync_frame k s) :)
@[simp] theorem testResync_focusUnit (k : Computer) (s : State) : (testResync k s).focusUnit = s.focusUnit :=
  (congrArg State.focusUnit (testResync_frame k s) :)
@[simp] theorem testResync_pointer (k : Computer) (s : State) : (testResync k s).pointer = s.pointer :=
  (congrArg State.pointer (testResync_frame k s) :)
@[simp] theorem testResync_video (k : Computer) (s : State) : (testResync k s).video = s.video :=
  (congrArg State.video (testResync_frame k s) :)
@[simp] theorem testResync_schedule (k : Computer) (s : State) : (testResync k s).schedule = s.schedule :=
  (congrArg State.schedule (testResync_frame k s) :)
@[simp] theorem testResync_engine (k : Computer) (s : State) : (testResync k s).engine = s.engine :=
  (congrArg State.engine (testResync_frame k s) :)
@[simp] theorem testResync_journal (k : Computer) (s : State) : (testResync k s).journal = s.journal :=
  (congrArg State.journal (testResync_frame k s) :)
@[simp] theorem testResync_image (k : Computer) (s : State) : (testResync k s).image = s.image :=
  (congrArg State.image (testResync_frame k s) :)
@[simp] theorem testResync_foreign (k : Computer) (s : State) : (testResync k s).foreign = s.foreign :=
  (congrArg State.foreign (testResync_frame k s) :)
@[simp] theorem testResync_mismatches (k : Computer) (s : State) : (testResync k s).mismatches = s.mismatches :=
  (congrArg State.mismatches (testResync_frame k s) :)

/-- All that pollPort can change. -/
theorem pollPort_frame (k : Computer) (s : State) :
    pollPort k s = { s with ports := (pollPort k s).ports, sent := (pollPort k s).sent } := by
  apply State.eq_of_fields
  all_goals first
    | with_reducible rfl
    | (unfold pollPort; split <;> simp)
@[simp] theorem pollPort_pending (k : Computer) (s : State) : (pollPort k s).pending = s.pending :=
  (congrArg State.pending (pollPort_frame k s) :)
@[simp] theorem pollPort_freeUses (k : Computer) (s : State) : (pollPort k s).freeUses = s.freeUses :=
  (congrArg State.freeUses (pollPort_frame k s) :)
@[simp] theorem pollPort_clock (k : Computer) (s : State) : (pollPort k s).clock = s.clock :=
  (congrArg State.clock (pollPort_frame k s) :)
@[simp] theorem pollPort_settings (k : Computer) (s : State) : (pollPort k s).settings = s.settings :=
  (congrArg State.settings (pollPort_frame k s) :)
@[simp] theorem pollPort_tables (k : Computer) (s : State) : (pollPort k s).tables = s.tables :=
  (congrArg State.tables (pollPort_frame k s) :)
@[simp] theorem pollPort_console (k : Computer) (s : State) : (pollPort k s).console = s.console :=
  (congrArg State.console (pollPort_frame k s) :)
@[simp] theorem pollPort_keys (k : Computer) (s : State) : (pollPort k s).keys = s.keys :=
  (congrArg State.keys (pollPort_frame k s) :)
@[simp] theorem pollPort_recognizer (k : Computer) (s : State) : (pollPort k s).recognizer = s.recognizer :=
  (congrArg State.recognizer (pollPort_frame k s) :)
@[simp] theorem pollPort_focusUnit (k : Computer) (s : State) : (pollPort k s).focusUnit = s.focusUnit :=
  (congrArg State.focusUnit (pollPort_frame k s) :)
@[simp] theorem pollPort_pointer (k : Computer) (s : State) : (pollPort k s).pointer = s.pointer :=
  (congrArg State.pointer (pollPort_frame k s) :)
@[simp] theorem pollPort_video (k : Computer) (s : State) : (pollPort k s).video = s.video :=
  (congrArg State.video (pollPort_frame k s) :)
@[simp] theorem pollPort_schedule (k : Computer) (s : State) : (pollPort k s).schedule = s.schedule :=
  (congrArg State.schedule (pollPort_frame k s) :)
@[simp] theorem pollPort_engine (k : Computer) (s : State) : (pollPort k s).engine = s.engine :=
  (congrArg State.engine (pollPort_frame k s) :)
@[simp] theorem pollPort_journal (k : Computer) (s : State) : (pollPort k s).journal = s.journal :=
  (congrArg State.journal (pollPort_frame k s) :)
@[simp] theorem pollPort_image (k : Computer) (s : State) : (pollPort k s).image = s.image :=
  (congrArg State.image (pollPort_frame k s) :)
@[simp] theorem pollPort_foreign (k : Computer) (s : State) : (pollPort k s).foreign = s.foreign :=
  (congrArg State.foreign (pollPort_frame k s) :)
@[simp] theorem pollPort_mismatches (k : Computer) (s : State) : (pollPort k s).mismatches = s.mismatches :=
  (congrArg State.mismatches (pollPort_frame k s) :)

/-- All that takeLedReport can change. -/
theorem takeLedReport_frame (k : Computer) (leds : Leds) (s : State) :
    takeLedReport k leds s = { s with ports := (takeLedReport k leds s).ports, sent := (takeLedReport k leds s).sent, console := (takeLedReport k leds s).console } := by
  apply State.eq_of_fields
  all_goals first
    | with_reducible rfl
    | (unfold takeLedReport; (try dsimp only); repeat' split
       all_goals simp)
@[simp] theorem takeLedReport_pending (k : Computer) (leds : Leds) (s : State) : (takeLedReport k leds s).pending = s.pending :=
  (congrArg State.pending (takeLedReport_frame k leds s) :)
@[simp] theorem takeLedReport_freeUses (k : Computer) (leds : Leds) (s : State) : (takeLedReport k leds s).freeUses = s.freeUses :=
  (congrArg State.freeUses (takeLedReport_frame k leds s) :)
@[simp] theorem takeLedReport_clock (k : Computer) (leds : Leds) (s : State) : (takeLedReport k leds s).clock = s.clock :=
  (congrArg State.clock (takeLedReport_frame k leds s) :)
@[simp] theorem takeLedReport_settings (k : Computer) (leds : Leds) (s : State) : (takeLedReport k leds s).settings = s.settings :=
  (congrArg State.settings (takeLedReport_frame k leds s) :)
@[simp] theorem takeLedReport_tables (k : Computer) (leds : Leds) (s : State) : (takeLedReport k leds s).tables = s.tables :=
  (congrArg State.tables (takeLedReport_frame k leds s) :)
@[simp] theorem takeLedReport_keys (k : Computer) (leds : Leds) (s : State) : (takeLedReport k leds s).keys = s.keys :=
  (congrArg State.keys (takeLedReport_frame k leds s) :)
@[simp] theorem takeLedReport_recognizer (k : Computer) (leds : Leds) (s : State) : (takeLedReport k leds s).recognizer = s.recognizer :=
  (congrArg State.recognizer (takeLedReport_frame k leds s) :)
@[simp] theorem takeLedReport_focusUnit (k : Computer) (leds : Leds) (s : State) : (takeLedReport k leds s).focusUnit = s.focusUnit :=
  (congrArg State.focusUnit (takeLedReport_frame k leds s) :)
@[simp] theorem takeLedReport_pointer (k : Computer) (leds : Leds) (s : State) : (takeLedReport k leds s).pointer = s.pointer :=
  (congrArg State.pointer (takeLedReport_frame k leds s) :)
@[simp] theorem takeLedReport_video (k : Computer) (leds : Leds) (s : State) : (takeLedReport k leds s).video = s.video :=
  (congrArg State.video (takeLedReport_frame k leds s) :)
@[simp] theorem takeLedReport_schedule (k : Computer) (leds : Leds) (s : State) : (takeLedReport k leds s).schedule = s.schedule :=
  (congrArg State.schedule (takeLedReport_frame k leds s) :)
@[simp] theorem takeLedReport_engine (k : Computer) (leds : Leds) (s : State) : (takeLedReport k leds s).engine = s.engine :=
  (congrArg State.engine (takeLedReport_frame k leds s) :)
@[simp] theorem takeLedReport_journal (k : Computer) (leds : Leds) (s : State) : (takeLedReport k leds s).journal = s.journal :=
  (congrArg State.journal (takeLedReport_frame k leds s) :)
@[simp] theorem takeLedReport_image (k : Computer) (leds : Leds) (s : State) : (takeLedReport k leds s).image = s.image :=
  (congrArg State.image (takeLedReport_frame k leds s) :)
@[simp] theorem takeLedReport_foreign (k : Computer) (leds : Leds) (s : State) : (takeLedReport k leds s).foreign = s.foreign :=
  (congrArg State.foreign (takeLedReport_frame k leds s) :)
@[simp] theorem takeLedReport_mismatches (k : Computer) (leds : Leds) (s : State) : (takeLedReport k leds s).mismatches = s.mismatches :=
  (congrArg State.mismatches (takeLedReport_frame k leds s) :)

/-- All that armPort can change. -/
theorem armPort_frame (k : Computer) (armed : Bool) (s : State) :
    armPort k armed s = { s with ports := (armPort k armed s).ports } := by
  apply State.eq_of_fields
  all_goals first
    | with_reducible rfl
    | (unfold armPort; split <;> simp)
@[simp] theorem armPort_pending (k : Computer) (armed : Bool) (s : State) : (armPort k armed s).pending = s.pending :=
  (congrArg State.pending (armPort_frame k armed s) :)
@[simp] theorem armPort_sent (k : Computer) (armed : Bool) (s : State) : (armPort k armed s).sent = s.sent :=
  (congrArg State.sent (armPort_frame k armed s) :)
@[simp] theorem armPort_freeUses (k : Computer) (armed : Bool) (s : State) : (armPort k armed s).freeUses = s.freeUses :=
  (congrArg State.freeUses (armPort_frame k armed s) :)
@[simp] theorem armPort_clock (k : Computer) (armed : Bool) (s : State) : (armPort k armed s).clock = s.clock :=
  (congrArg State.clock (armPort_frame k armed s) :)
@[simp] theorem armPort_settings (k : Computer) (armed : Bool) (s : State) : (armPort k armed s).settings = s.settings :=
  (congrArg State.settings (armPort_frame k armed s) :)
@[simp] theorem armPort_tables (k : Computer) (armed : Bool) (s : State) : (armPort k armed s).tables = s.tables :=
  (congrArg State.tables (armPort_frame k armed s) :)
@[simp] theorem armPort_console (k : Computer) (armed : Bool) (s : State) : (armPort k armed s).console = s.console :=
  (congrArg State.console (armPort_frame k armed s) :)
@[simp] theorem armPort_keys (k : Computer) (armed : Bool) (s : State) : (armPort k armed s).keys = s.keys :=
  (congrArg State.keys (armPort_frame k armed s) :)
@[simp] theorem armPort_recognizer (k : Computer) (armed : Bool) (s : State) : (armPort k armed s).recognizer = s.recognizer :=
  (congrArg State.recognizer (armPort_frame k armed s) :)
@[simp] theorem armPort_focusUnit (k : Computer) (armed : Bool) (s : State) : (armPort k armed s).focusUnit = s.focusUnit :=
  (congrArg State.focusUnit (armPort_frame k armed s) :)
@[simp] theorem armPort_pointer (k : Computer) (armed : Bool) (s : State) : (armPort k armed s).pointer = s.pointer :=
  (congrArg State.pointer (armPort_frame k armed s) :)
@[simp] theorem armPort_video (k : Computer) (armed : Bool) (s : State) : (armPort k armed s).video = s.video :=
  (congrArg State.video (armPort_frame k armed s) :)
@[simp] theorem armPort_schedule (k : Computer) (armed : Bool) (s : State) : (armPort k armed s).schedule = s.schedule :=
  (congrArg State.schedule (armPort_frame k armed s) :)
@[simp] theorem armPort_engine (k : Computer) (armed : Bool) (s : State) : (armPort k armed s).engine = s.engine :=
  (congrArg State.engine (armPort_frame k armed s) :)
@[simp] theorem armPort_journal (k : Computer) (armed : Bool) (s : State) : (armPort k armed s).journal = s.journal :=
  (congrArg State.journal (armPort_frame k armed s) :)
@[simp] theorem armPort_image (k : Computer) (armed : Bool) (s : State) : (armPort k armed s).image = s.image :=
  (congrArg State.image (armPort_frame k armed s) :)
@[simp] theorem armPort_foreign (k : Computer) (armed : Bool) (s : State) : (armPort k armed s).foreign = s.foreign :=
  (congrArg State.foreign (armPort_frame k armed s) :)
@[simp] theorem armPort_mismatches (k : Computer) (armed : Bool) (s : State) : (armPort k armed s).mismatches = s.mismatches :=
  (congrArg State.mismatches (armPort_frame k armed s) :)

/-- All that resendWake can change. -/
theorem resendWake_frame (k : Computer) (a : WakeAttempt) (s : State) :
    resendWake k a s = { s with ports := (resendWake k a s).ports, sent := (resendWake k a s).sent } := by
  apply State.eq_of_fields
  all_goals first
    | with_reducible rfl
    | (unfold resendWake; simp)
@[simp] theorem resendWake_pending (k : Computer) (a : WakeAttempt) (s : State) : (resendWake k a s).pending = s.pending :=
  (congrArg State.pending (resendWake_frame k a s) :)
@[simp] theorem resendWake_freeUses (k : Computer) (a : WakeAttempt) (s : State) : (resendWake k a s).freeUses = s.freeUses :=
  (congrArg State.freeUses (resendWake_frame k a s) :)
@[simp] theorem resendWake_clock (k : Computer) (a : WakeAttempt) (s : State) : (resendWake k a s).clock = s.clock :=
  (congrArg State.clock (resendWake_frame k a s) :)
@[simp] theorem resendWake_settings (k : Computer) (a : WakeAttempt) (s : State) : (resendWake k a s).settings = s.settings :=
  (congrArg State.settings (resendWake_frame k a s) :)
@[simp] theorem resendWake_tables (k : Computer) (a : WakeAttempt) (s : State) : (resendWake k a s).tables = s.tables :=
  (congrArg State.tables (resendWake_frame k a s) :)
@[simp] theorem resendWake_console (k : Computer) (a : WakeAttempt) (s : State) : (resendWake k a s).console = s.console :=
  (congrArg State.console (resendWake_frame k a s) :)
@[simp] theorem resendWake_keys (k : Computer) (a : WakeAttempt) (s : State) : (resendWake k a s).keys = s.keys :=
  (congrArg State.keys (resendWake_frame k a s) :)
@[simp] theorem resendWake_recognizer (k : Computer) (a : WakeAttempt) (s : State) : (resendWake k a s).recognizer = s.recognizer :=
  (congrArg State.recognizer (resendWake_frame k a s) :)
@[simp] theorem resendWake_focusUnit (k : Computer) (a : WakeAttempt) (s : State) : (resendWake k a s).focusUnit = s.focusUnit :=
  (congrArg State.focusUnit (resendWake_frame k a s) :)
@[simp] theorem resendWake_pointer (k : Computer) (a : WakeAttempt) (s : State) : (resendWake k a s).pointer = s.pointer :=
  (congrArg State.pointer (resendWake_frame k a s) :)
@[simp] theorem resendWake_video (k : Computer) (a : WakeAttempt) (s : State) : (resendWake k a s).video = s.video :=
  (congrArg State.video (resendWake_frame k a s) :)
@[simp] theorem resendWake_schedule (k : Computer) (a : WakeAttempt) (s : State) : (resendWake k a s).schedule = s.schedule :=
  (congrArg State.schedule (resendWake_frame k a s) :)
@[simp] theorem resendWake_engine (k : Computer) (a : WakeAttempt) (s : State) : (resendWake k a s).engine = s.engine :=
  (congrArg State.engine (resendWake_frame k a s) :)
@[simp] theorem resendWake_journal (k : Computer) (a : WakeAttempt) (s : State) : (resendWake k a s).journal = s.journal :=
  (congrArg State.journal (resendWake_frame k a s) :)
@[simp] theorem resendWake_image (k : Computer) (a : WakeAttempt) (s : State) : (resendWake k a s).image = s.image :=
  (congrArg State.image (resendWake_frame k a s) :)
@[simp] theorem resendWake_foreign (k : Computer) (a : WakeAttempt) (s : State) : (resendWake k a s).foreign = s.foreign :=
  (congrArg State.foreign (resendWake_frame k a s) :)
@[simp] theorem resendWake_mismatches (k : Computer) (a : WakeAttempt) (s : State) : (resendWake k a s).mismatches = s.mismatches :=
  (congrArg State.mismatches (resendWake_frame k a s) :)

/-- All that failWake can change. -/
theorem failWake_frame (k : Computer) (a : WakeAttempt) (s : State) :
    failWake k a s = { s with ports := (failWake k a s).ports, engine := (failWake k a s).engine, journal := (failWake k a s).journal } := by
  apply State.eq_of_fields
  all_goals first
    | with_reducible rfl
    | (unfold failWake; simp)
@[simp] theorem failWake_pending (k : Computer) (a : WakeAttempt) (s : State) : (failWake k a s).pending = s.pending :=
  (congrArg State.pending (failWake_frame k a s) :)
@[simp] theorem failWake_sent (k : Computer) (a : WakeAttempt) (s : State) : (failWake k a s).sent = s.sent :=
  (congrArg State.sent (failWake_frame k a s) :)
@[simp] theorem failWake_freeUses (k : Computer) (a : WakeAttempt) (s : State) : (failWake k a s).freeUses = s.freeUses :=
  (congrArg State.freeUses (failWake_frame k a s) :)
@[simp] theorem failWake_clock (k : Computer) (a : WakeAttempt) (s : State) : (failWake k a s).clock = s.clock :=
  (congrArg State.clock (failWake_frame k a s) :)
@[simp] theorem failWake_settings (k : Computer) (a : WakeAttempt) (s : State) : (failWake k a s).settings = s.settings :=
  (congrArg State.settings (failWake_frame k a s) :)
@[simp] theorem failWake_tables (k : Computer) (a : WakeAttempt) (s : State) : (failWake k a s).tables = s.tables :=
  (congrArg State.tables (failWake_frame k a s) :)
@[simp] theorem failWake_console (k : Computer) (a : WakeAttempt) (s : State) : (failWake k a s).console = s.console :=
  (congrArg State.console (failWake_frame k a s) :)
@[simp] theorem failWake_keys (k : Computer) (a : WakeAttempt) (s : State) : (failWake k a s).keys = s.keys :=
  (congrArg State.keys (failWake_frame k a s) :)
@[simp] theorem failWake_recognizer (k : Computer) (a : WakeAttempt) (s : State) : (failWake k a s).recognizer = s.recognizer :=
  (congrArg State.recognizer (failWake_frame k a s) :)
@[simp] theorem failWake_focusUnit (k : Computer) (a : WakeAttempt) (s : State) : (failWake k a s).focusUnit = s.focusUnit :=
  (congrArg State.focusUnit (failWake_frame k a s) :)
@[simp] theorem failWake_pointer (k : Computer) (a : WakeAttempt) (s : State) : (failWake k a s).pointer = s.pointer :=
  (congrArg State.pointer (failWake_frame k a s) :)
@[simp] theorem failWake_video (k : Computer) (a : WakeAttempt) (s : State) : (failWake k a s).video = s.video :=
  (congrArg State.video (failWake_frame k a s) :)
@[simp] theorem failWake_schedule (k : Computer) (a : WakeAttempt) (s : State) : (failWake k a s).schedule = s.schedule :=
  (congrArg State.schedule (failWake_frame k a s) :)
@[simp] theorem failWake_image (k : Computer) (a : WakeAttempt) (s : State) : (failWake k a s).image = s.image :=
  (congrArg State.image (failWake_frame k a s) :)
@[simp] theorem failWake_foreign (k : Computer) (a : WakeAttempt) (s : State) : (failWake k a s).foreign = s.foreign :=
  (congrArg State.foreign (failWake_frame k a s) :)
@[simp] theorem failWake_mismatches (k : Computer) (a : WakeAttempt) (s : State) : (failWake k a s).mismatches = s.mismatches :=
  (congrArg State.mismatches (failWake_frame k a s) :)

/-- All that expireWake can change. -/
theorem expireWake_frame (k : Computer) (s : State) :
    expireWake k s = { s with ports := (expireWake k s).ports, engine := (expireWake k s).engine, journal := (expireWake k s).journal, sent := (expireWake k s).sent } := by
  apply State.eq_of_fields
  all_goals first
    | with_reducible rfl
    | (unfold expireWake; (try dsimp only); repeat' split
       all_goals simp)
@[simp] theorem expireWake_pending (k : Computer) (s : State) : (expireWake k s).pending = s.pending :=
  (congrArg State.pending (expireWake_frame k s) :)
@[simp] theorem expireWake_freeUses (k : Computer) (s : State) : (expireWake k s).freeUses = s.freeUses :=
  (congrArg State.freeUses (expireWake_frame k s) :)
@[simp] theorem expireWake_clock (k : Computer) (s : State) : (expireWake k s).clock = s.clock :=
  (congrArg State.clock (expireWake_frame k s) :)
@[simp] theorem expireWake_settings (k : Computer) (s : State) : (expireWake k s).settings = s.settings :=
  (congrArg State.settings (expireWake_frame k s) :)
@[simp] theorem expireWake_tables (k : Computer) (s : State) : (expireWake k s).tables = s.tables :=
  (congrArg State.tables (expireWake_frame k s) :)
@[simp] theorem expireWake_console (k : Computer) (s : State) : (expireWake k s).console = s.console :=
  (congrArg State.console (expireWake_frame k s) :)
@[simp] theorem expireWake_keys (k : Computer) (s : State) : (expireWake k s).keys = s.keys :=
  (congrArg State.keys (expireWake_frame k s) :)
@[simp] theorem expireWake_recognizer (k : Computer) (s : State) : (expireWake k s).recognizer = s.recognizer :=
  (congrArg State.recognizer (expireWake_frame k s) :)
@[simp] theorem expireWake_focusUnit (k : Computer) (s : State) : (expireWake k s).focusUnit = s.focusUnit :=
  (congrArg State.focusUnit (expireWake_frame k s) :)
@[simp] theorem expireWake_pointer (k : Computer) (s : State) : (expireWake k s).pointer = s.pointer :=
  (congrArg State.pointer (expireWake_frame k s) :)
@[simp] theorem expireWake_video (k : Computer) (s : State) : (expireWake k s).video = s.video :=
  (congrArg State.video (expireWake_frame k s) :)
@[simp] theorem expireWake_schedule (k : Computer) (s : State) : (expireWake k s).schedule = s.schedule :=
  (congrArg State.schedule (expireWake_frame k s) :)
@[simp] theorem expireWake_image (k : Computer) (s : State) : (expireWake k s).image = s.image :=
  (congrArg State.image (expireWake_frame k s) :)
@[simp] theorem expireWake_foreign (k : Computer) (s : State) : (expireWake k s).foreign = s.foreign :=
  (congrArg State.foreign (expireWake_frame k s) :)
@[simp] theorem expireWake_mismatches (k : Computer) (s : State) : (expireWake k s).mismatches = s.mismatches :=
  (congrArg State.mismatches (expireWake_frame k s) :)

/-- All that takeForeign can change. -/
theorem takeForeign_frame (k : Computer) (s : State) :
    takeForeign k s = { s with foreign := (takeForeign k s).foreign } := by
  apply State.eq_of_fields
  all_goals first
    | with_reducible rfl
    | (unfold takeForeign; split <;> simp)
@[simp] theorem takeForeign_pending (k : Computer) (s : State) : (takeForeign k s).pending = s.pending :=
  (congrArg State.pending (takeForeign_frame k s) :)
@[simp] theorem takeForeign_sent (k : Computer) (s : State) : (takeForeign k s).sent = s.sent :=
  (congrArg State.sent (takeForeign_frame k s) :)
@[simp] theorem takeForeign_freeUses (k : Computer) (s : State) : (takeForeign k s).freeUses = s.freeUses :=
  (congrArg State.freeUses (takeForeign_frame k s) :)
@[simp] theorem takeForeign_clock (k : Computer) (s : State) : (takeForeign k s).clock = s.clock :=
  (congrArg State.clock (takeForeign_frame k s) :)
@[simp] theorem takeForeign_settings (k : Computer) (s : State) : (takeForeign k s).settings = s.settings :=
  (congrArg State.settings (takeForeign_frame k s) :)
@[simp] theorem takeForeign_tables (k : Computer) (s : State) : (takeForeign k s).tables = s.tables :=
  (congrArg State.tables (takeForeign_frame k s) :)
@[simp] theorem takeForeign_console (k : Computer) (s : State) : (takeForeign k s).console = s.console :=
  (congrArg State.console (takeForeign_frame k s) :)
@[simp] theorem takeForeign_keys (k : Computer) (s : State) : (takeForeign k s).keys = s.keys :=
  (congrArg State.keys (takeForeign_frame k s) :)
@[simp] theorem takeForeign_recognizer (k : Computer) (s : State) : (takeForeign k s).recognizer = s.recognizer :=
  (congrArg State.recognizer (takeForeign_frame k s) :)
@[simp] theorem takeForeign_focusUnit (k : Computer) (s : State) : (takeForeign k s).focusUnit = s.focusUnit :=
  (congrArg State.focusUnit (takeForeign_frame k s) :)
@[simp] theorem takeForeign_pointer (k : Computer) (s : State) : (takeForeign k s).pointer = s.pointer :=
  (congrArg State.pointer (takeForeign_frame k s) :)
@[simp] theorem takeForeign_ports (k : Computer) (s : State) : (takeForeign k s).ports = s.ports :=
  (congrArg State.ports (takeForeign_frame k s) :)
@[simp] theorem takeForeign_video (k : Computer) (s : State) : (takeForeign k s).video = s.video :=
  (congrArg State.video (takeForeign_frame k s) :)
@[simp] theorem takeForeign_schedule (k : Computer) (s : State) : (takeForeign k s).schedule = s.schedule :=
  (congrArg State.schedule (takeForeign_frame k s) :)
@[simp] theorem takeForeign_engine (k : Computer) (s : State) : (takeForeign k s).engine = s.engine :=
  (congrArg State.engine (takeForeign_frame k s) :)
@[simp] theorem takeForeign_journal (k : Computer) (s : State) : (takeForeign k s).journal = s.journal :=
  (congrArg State.journal (takeForeign_frame k s) :)
@[simp] theorem takeForeign_image (k : Computer) (s : State) : (takeForeign k s).image = s.image :=
  (congrArg State.image (takeForeign_frame k s) :)
@[simp] theorem takeForeign_mismatches (k : Computer) (s : State) : (takeForeign k s).mismatches = s.mismatches :=
  (congrArg State.mismatches (takeForeign_frame k s) :)

/-- All that takeMismatch can change. -/
theorem takeMismatch_frame (k : Computer) (b : Byte) (s : State) :
    takeMismatch k b s = { s with foreign := (takeMismatch k b s).foreign, mismatches := (takeMismatch k b s).mismatches } := by
  apply State.eq_of_fields
  all_goals first
    | with_reducible rfl
    | (unfold takeMismatch; (try dsimp only); repeat' split
       all_goals simp)
@[simp] theorem takeMismatch_pending (k : Computer) (b : Byte) (s : State) : (takeMismatch k b s).pending = s.pending :=
  (congrArg State.pending (takeMismatch_frame k b s) :)
@[simp] theorem takeMismatch_sent (k : Computer) (b : Byte) (s : State) : (takeMismatch k b s).sent = s.sent :=
  (congrArg State.sent (takeMismatch_frame k b s) :)
@[simp] theorem takeMismatch_freeUses (k : Computer) (b : Byte) (s : State) : (takeMismatch k b s).freeUses = s.freeUses :=
  (congrArg State.freeUses (takeMismatch_frame k b s) :)
@[simp] theorem takeMismatch_clock (k : Computer) (b : Byte) (s : State) : (takeMismatch k b s).clock = s.clock :=
  (congrArg State.clock (takeMismatch_frame k b s) :)
@[simp] theorem takeMismatch_settings (k : Computer) (b : Byte) (s : State) : (takeMismatch k b s).settings = s.settings :=
  (congrArg State.settings (takeMismatch_frame k b s) :)
@[simp] theorem takeMismatch_tables (k : Computer) (b : Byte) (s : State) : (takeMismatch k b s).tables = s.tables :=
  (congrArg State.tables (takeMismatch_frame k b s) :)
@[simp] theorem takeMismatch_console (k : Computer) (b : Byte) (s : State) : (takeMismatch k b s).console = s.console :=
  (congrArg State.console (takeMismatch_frame k b s) :)
@[simp] theorem takeMismatch_keys (k : Computer) (b : Byte) (s : State) : (takeMismatch k b s).keys = s.keys :=
  (congrArg State.keys (takeMismatch_frame k b s) :)
@[simp] theorem takeMismatch_recognizer (k : Computer) (b : Byte) (s : State) : (takeMismatch k b s).recognizer = s.recognizer :=
  (congrArg State.recognizer (takeMismatch_frame k b s) :)
@[simp] theorem takeMismatch_focusUnit (k : Computer) (b : Byte) (s : State) : (takeMismatch k b s).focusUnit = s.focusUnit :=
  (congrArg State.focusUnit (takeMismatch_frame k b s) :)
@[simp] theorem takeMismatch_pointer (k : Computer) (b : Byte) (s : State) : (takeMismatch k b s).pointer = s.pointer :=
  (congrArg State.pointer (takeMismatch_frame k b s) :)
@[simp] theorem takeMismatch_ports (k : Computer) (b : Byte) (s : State) : (takeMismatch k b s).ports = s.ports :=
  (congrArg State.ports (takeMismatch_frame k b s) :)
@[simp] theorem takeMismatch_video (k : Computer) (b : Byte) (s : State) : (takeMismatch k b s).video = s.video :=
  (congrArg State.video (takeMismatch_frame k b s) :)
@[simp] theorem takeMismatch_schedule (k : Computer) (b : Byte) (s : State) : (takeMismatch k b s).schedule = s.schedule :=
  (congrArg State.schedule (takeMismatch_frame k b s) :)
@[simp] theorem takeMismatch_engine (k : Computer) (b : Byte) (s : State) : (takeMismatch k b s).engine = s.engine :=
  (congrArg State.engine (takeMismatch_frame k b s) :)
@[simp] theorem takeMismatch_journal (k : Computer) (b : Byte) (s : State) : (takeMismatch k b s).journal = s.journal :=
  (congrArg State.journal (takeMismatch_frame k b s) :)
@[simp] theorem takeMismatch_image (k : Computer) (b : Byte) (s : State) : (takeMismatch k b s).image = s.image :=
  (congrArg State.image (takeMismatch_frame k b s) :)

/-- All that readResult can change. -/
theorem readResult_frame (k : Computer) (s : State) :
    readResult k s = { s with foreign := (readResult k s).foreign, sent := (readResult k s).sent, freeUses := (readResult k s).freeUses } := by
  apply State.eq_of_fields
  all_goals first
    | with_reducible rfl
    | (unfold readResult; (try dsimp only); repeat' split
       all_goals simp)
@[simp] theorem readResult_pending (k : Computer) (s : State) : (readResult k s).pending = s.pending :=
  (congrArg State.pending (readResult_frame k s) :)
@[simp] theorem readResult_clock (k : Computer) (s : State) : (readResult k s).clock = s.clock :=
  (congrArg State.clock (readResult_frame k s) :)
@[simp] theorem readResult_settings (k : Computer) (s : State) : (readResult k s).settings = s.settings :=
  (congrArg State.settings (readResult_frame k s) :)
@[simp] theorem readResult_tables (k : Computer) (s : State) : (readResult k s).tables = s.tables :=
  (congrArg State.tables (readResult_frame k s) :)
@[simp] theorem readResult_console (k : Computer) (s : State) : (readResult k s).console = s.console :=
  (congrArg State.console (readResult_frame k s) :)
@[simp] theorem readResult_keys (k : Computer) (s : State) : (readResult k s).keys = s.keys :=
  (congrArg State.keys (readResult_frame k s) :)
@[simp] theorem readResult_recognizer (k : Computer) (s : State) : (readResult k s).recognizer = s.recognizer :=
  (congrArg State.recognizer (readResult_frame k s) :)
@[simp] theorem readResult_focusUnit (k : Computer) (s : State) : (readResult k s).focusUnit = s.focusUnit :=
  (congrArg State.focusUnit (readResult_frame k s) :)
@[simp] theorem readResult_pointer (k : Computer) (s : State) : (readResult k s).pointer = s.pointer :=
  (congrArg State.pointer (readResult_frame k s) :)
@[simp] theorem readResult_ports (k : Computer) (s : State) : (readResult k s).ports = s.ports :=
  (congrArg State.ports (readResult_frame k s) :)
@[simp] theorem readResult_video (k : Computer) (s : State) : (readResult k s).video = s.video :=
  (congrArg State.video (readResult_frame k s) :)
@[simp] theorem readResult_schedule (k : Computer) (s : State) : (readResult k s).schedule = s.schedule :=
  (congrArg State.schedule (readResult_frame k s) :)
@[simp] theorem readResult_engine (k : Computer) (s : State) : (readResult k s).engine = s.engine :=
  (congrArg State.engine (readResult_frame k s) :)
@[simp] theorem readResult_journal (k : Computer) (s : State) : (readResult k s).journal = s.journal :=
  (congrArg State.journal (readResult_frame k s) :)
@[simp] theorem readResult_image (k : Computer) (s : State) : (readResult k s).image = s.image :=
  (congrArg State.image (readResult_frame k s) :)
@[simp] theorem readResult_mismatches (k : Computer) (s : State) : (readResult k s).mismatches = s.mismatches :=
  (congrArg State.mismatches (readResult_frame k s) :)

/-- All that judgeFiring can change. -/
theorem judgeFiring_frame (e : ScheduleEntry) (answer : Result) (s : State) :
    judgeFiring e answer s = { s with journal := (judgeFiring e answer s).journal } := by
  apply State.eq_of_fields
  all_goals first
    | with_reducible rfl
    | (unfold judgeFiring; split <;> simp)
@[simp] theorem judgeFiring_pending (e : ScheduleEntry) (answer : Result) (s : State) : (judgeFiring e answer s).pending = s.pending :=
  (congrArg State.pending (judgeFiring_frame e answer s) :)
@[simp] theorem judgeFiring_sent (e : ScheduleEntry) (answer : Result) (s : State) : (judgeFiring e answer s).sent = s.sent :=
  (congrArg State.sent (judgeFiring_frame e answer s) :)
@[simp] theorem judgeFiring_freeUses (e : ScheduleEntry) (answer : Result) (s : State) : (judgeFiring e answer s).freeUses = s.freeUses :=
  (congrArg State.freeUses (judgeFiring_frame e answer s) :)
@[simp] theorem judgeFiring_clock (e : ScheduleEntry) (answer : Result) (s : State) : (judgeFiring e answer s).clock = s.clock :=
  (congrArg State.clock (judgeFiring_frame e answer s) :)
@[simp] theorem judgeFiring_settings (e : ScheduleEntry) (answer : Result) (s : State) : (judgeFiring e answer s).settings = s.settings :=
  (congrArg State.settings (judgeFiring_frame e answer s) :)
@[simp] theorem judgeFiring_tables (e : ScheduleEntry) (answer : Result) (s : State) : (judgeFiring e answer s).tables = s.tables :=
  (congrArg State.tables (judgeFiring_frame e answer s) :)
@[simp] theorem judgeFiring_console (e : ScheduleEntry) (answer : Result) (s : State) : (judgeFiring e answer s).console = s.console :=
  (congrArg State.console (judgeFiring_frame e answer s) :)
@[simp] theorem judgeFiring_keys (e : ScheduleEntry) (answer : Result) (s : State) : (judgeFiring e answer s).keys = s.keys :=
  (congrArg State.keys (judgeFiring_frame e answer s) :)
@[simp] theorem judgeFiring_recognizer (e : ScheduleEntry) (answer : Result) (s : State) : (judgeFiring e answer s).recognizer = s.recognizer :=
  (congrArg State.recognizer (judgeFiring_frame e answer s) :)
@[simp] theorem judgeFiring_focusUnit (e : ScheduleEntry) (answer : Result) (s : State) : (judgeFiring e answer s).focusUnit = s.focusUnit :=
  (congrArg State.focusUnit (judgeFiring_frame e answer s) :)
@[simp] theorem judgeFiring_pointer (e : ScheduleEntry) (answer : Result) (s : State) : (judgeFiring e answer s).pointer = s.pointer :=
  (congrArg State.pointer (judgeFiring_frame e answer s) :)
@[simp] theorem judgeFiring_ports (e : ScheduleEntry) (answer : Result) (s : State) : (judgeFiring e answer s).ports = s.ports :=
  (congrArg State.ports (judgeFiring_frame e answer s) :)
@[simp] theorem judgeFiring_video (e : ScheduleEntry) (answer : Result) (s : State) : (judgeFiring e answer s).video = s.video :=
  (congrArg State.video (judgeFiring_frame e answer s) :)
@[simp] theorem judgeFiring_schedule (e : ScheduleEntry) (answer : Result) (s : State) : (judgeFiring e answer s).schedule = s.schedule :=
  (congrArg State.schedule (judgeFiring_frame e answer s) :)
@[simp] theorem judgeFiring_engine (e : ScheduleEntry) (answer : Result) (s : State) : (judgeFiring e answer s).engine = s.engine :=
  (congrArg State.engine (judgeFiring_frame e answer s) :)
@[simp] theorem judgeFiring_image (e : ScheduleEntry) (answer : Result) (s : State) : (judgeFiring e answer s).image = s.image :=
  (congrArg State.image (judgeFiring_frame e answer s) :)
@[simp] theorem judgeFiring_foreign (e : ScheduleEntry) (answer : Result) (s : State) : (judgeFiring e answer s).foreign = s.foreign :=
  (congrArg State.foreign (judgeFiring_frame e answer s) :)
@[simp] theorem judgeFiring_mismatches (e : ScheduleEntry) (answer : Result) (s : State) : (judgeFiring e answer s).mismatches = s.mismatches :=
  (congrArg State.mismatches (judgeFiring_frame e answer s) :)

/-- All that fireEntry can change. -/
theorem fireEntry_frame (i : ScheduleIndex) (e : ScheduleEntry) (s : State) :
    fireEntry i e s = { s with sent := (fireEntry i e s).sent, console := (fireEntry i e s).console, keys := (fireEntry i e s).keys, focusUnit := (fireEntry i e s).focusUnit, pointer := (fireEntry i e s).pointer, ports := (fireEntry i e s).ports, journal := (fireEntry i e s).journal, video := (fireEntry i e s).video, engine := (fireEntry i e s).engine, schedule := (fireEntry i e s).schedule, tables := (fireEntry i e s).tables } := by
  apply State.eq_of_fields
  all_goals first
    | with_reducible rfl
    | (unfold fireEntry; simp)
@[simp] theorem fireEntry_pending (i : ScheduleIndex) (e : ScheduleEntry) (s : State) : (fireEntry i e s).pending = s.pending :=
  (congrArg State.pending (fireEntry_frame i e s) :)
@[simp] theorem fireEntry_freeUses (i : ScheduleIndex) (e : ScheduleEntry) (s : State) : (fireEntry i e s).freeUses = s.freeUses :=
  (congrArg State.freeUses (fireEntry_frame i e s) :)
@[simp] theorem fireEntry_clock (i : ScheduleIndex) (e : ScheduleEntry) (s : State) : (fireEntry i e s).clock = s.clock :=
  (congrArg State.clock (fireEntry_frame i e s) :)
@[simp] theorem fireEntry_settings (i : ScheduleIndex) (e : ScheduleEntry) (s : State) : (fireEntry i e s).settings = s.settings :=
  (congrArg State.settings (fireEntry_frame i e s) :)
@[simp] theorem fireEntry_recognizer (i : ScheduleIndex) (e : ScheduleEntry) (s : State) : (fireEntry i e s).recognizer = s.recognizer :=
  (congrArg State.recognizer (fireEntry_frame i e s) :)
@[simp] theorem fireEntry_image (i : ScheduleIndex) (e : ScheduleEntry) (s : State) : (fireEntry i e s).image = s.image :=
  (congrArg State.image (fireEntry_frame i e s) :)
@[simp] theorem fireEntry_foreign (i : ScheduleIndex) (e : ScheduleEntry) (s : State) : (fireEntry i e s).foreign = s.foreign :=
  (congrArg State.foreign (fireEntry_frame i e s) :)
@[simp] theorem fireEntry_mismatches (i : ScheduleIndex) (e : ScheduleEntry) (s : State) : (fireEntry i e s).mismatches = s.mismatches :=
  (congrArg State.mismatches (fireEntry_frame i e s) :)

/-- All that fireIfDue can change. -/
theorem fireIfDue_frame (i : ScheduleIndex) (s : State) :
    fireIfDue i s = { s with sent := (fireIfDue i s).sent, console := (fireIfDue i s).console, keys := (fireIfDue i s).keys, focusUnit := (fireIfDue i s).focusUnit, pointer := (fireIfDue i s).pointer, ports := (fireIfDue i s).ports, journal := (fireIfDue i s).journal, video := (fireIfDue i s).video, engine := (fireIfDue i s).engine, schedule := (fireIfDue i s).schedule, tables := (fireIfDue i s).tables } := by
  apply State.eq_of_fields
  all_goals first
    | with_reducible rfl
    | (unfold fireIfDue; (try dsimp only); repeat' split
       all_goals simp)
@[simp] theorem fireIfDue_pending (i : ScheduleIndex) (s : State) : (fireIfDue i s).pending = s.pending :=
  (congrArg State.pending (fireIfDue_frame i s) :)
@[simp] theorem fireIfDue_freeUses (i : ScheduleIndex) (s : State) : (fireIfDue i s).freeUses = s.freeUses :=
  (congrArg State.freeUses (fireIfDue_frame i s) :)
@[simp] theorem fireIfDue_clock (i : ScheduleIndex) (s : State) : (fireIfDue i s).clock = s.clock :=
  (congrArg State.clock (fireIfDue_frame i s) :)
@[simp] theorem fireIfDue_settings (i : ScheduleIndex) (s : State) : (fireIfDue i s).settings = s.settings :=
  (congrArg State.settings (fireIfDue_frame i s) :)
@[simp] theorem fireIfDue_recognizer (i : ScheduleIndex) (s : State) : (fireIfDue i s).recognizer = s.recognizer :=
  (congrArg State.recognizer (fireIfDue_frame i s) :)
@[simp] theorem fireIfDue_image (i : ScheduleIndex) (s : State) : (fireIfDue i s).image = s.image :=
  (congrArg State.image (fireIfDue_frame i s) :)
@[simp] theorem fireIfDue_foreign (i : ScheduleIndex) (s : State) : (fireIfDue i s).foreign = s.foreign :=
  (congrArg State.foreign (fireIfDue_frame i s) :)
@[simp] theorem fireIfDue_mismatches (i : ScheduleIndex) (s : State) : (fireIfDue i s).mismatches = s.mismatches :=
  (congrArg State.mismatches (fireIfDue_frame i s) :)

/-- All that takeExpiry can change. -/
theorem takeExpiry_frame (s : State) (x : Expiry) :
    takeExpiry s x = { s with sent := (takeExpiry s x).sent, console := (takeExpiry s x).console, keys := (takeExpiry s x).keys, focusUnit := (takeExpiry s x).focusUnit, pointer := (takeExpiry s x).pointer, ports := (takeExpiry s x).ports, journal := (takeExpiry s x).journal, video := (takeExpiry s x).video, engine := (takeExpiry s x).engine, schedule := (takeExpiry s x).schedule, tables := (takeExpiry s x).tables, recognizer := (takeExpiry s x).recognizer } := by
  apply State.eq_of_fields
  all_goals first
    | with_reducible rfl
    | (cases x <;> simp [takeExpiry])
@[simp] theorem takeExpiry_pending (s : State) (x : Expiry) : (takeExpiry s x).pending = s.pending :=
  (congrArg State.pending (takeExpiry_frame s x) :)
@[simp] theorem takeExpiry_freeUses (s : State) (x : Expiry) : (takeExpiry s x).freeUses = s.freeUses :=
  (congrArg State.freeUses (takeExpiry_frame s x) :)
@[simp] theorem takeExpiry_clock (s : State) (x : Expiry) : (takeExpiry s x).clock = s.clock :=
  (congrArg State.clock (takeExpiry_frame s x) :)
@[simp] theorem takeExpiry_settings (s : State) (x : Expiry) : (takeExpiry s x).settings = s.settings :=
  (congrArg State.settings (takeExpiry_frame s x) :)
@[simp] theorem takeExpiry_image (s : State) (x : Expiry) : (takeExpiry s x).image = s.image :=
  (congrArg State.image (takeExpiry_frame s x) :)
@[simp] theorem takeExpiry_foreign (s : State) (x : Expiry) : (takeExpiry s x).foreign = s.foreign :=
  (congrArg State.foreign (takeExpiry_frame s x) :)
@[simp] theorem takeExpiry_mismatches (s : State) (x : Expiry) : (takeExpiry s x).mismatches = s.mismatches :=
  (congrArg State.mismatches (takeExpiry_frame s x) :)

/-- All that takeDue can change. -/
theorem takeDue_frame (s : State) :
    takeDue s = { s with sent := (takeDue s).sent, console := (takeDue s).console, keys := (takeDue s).keys, focusUnit := (takeDue s).focusUnit, pointer := (takeDue s).pointer, ports := (takeDue s).ports, journal := (takeDue s).journal, video := (takeDue s).video, engine := (takeDue s).engine, schedule := (takeDue s).schedule, tables := (takeDue s).tables, recognizer := (takeDue s).recognizer, freeUses := (takeDue s).freeUses } := by
  apply State.eq_of_fields
  all_goals first
    | with_reducible rfl
    | (unfold takeDue
       rw [foldl_keeps State.pending _ (fun t x => by simp)])
    | (unfold takeDue
       rw [foldl_keeps State.clock _ (fun t x => by simp)])
    | (unfold takeDue
       rw [foldl_keeps State.settings _ (fun t x => by simp)])
    | (unfold takeDue
       rw [foldl_keeps State.image _ (fun t x => by simp)])
    | (unfold takeDue
       rw [foldl_keeps State.foreign _ (fun t x => by simp)])
    | (unfold takeDue
       rw [foldl_keeps State.mismatches _ (fun t x => by simp)])
@[simp] theorem takeDue_pending (s : State) : (takeDue s).pending = s.pending :=
  (congrArg State.pending (takeDue_frame s) :)
@[simp] theorem takeDue_clock (s : State) : (takeDue s).clock = s.clock :=
  (congrArg State.clock (takeDue_frame s) :)
@[simp] theorem takeDue_settings (s : State) : (takeDue s).settings = s.settings :=
  (congrArg State.settings (takeDue_frame s) :)
@[simp] theorem takeDue_image (s : State) : (takeDue s).image = s.image :=
  (congrArg State.image (takeDue_frame s) :)
@[simp] theorem takeDue_foreign (s : State) : (takeDue s).foreign = s.foreign :=
  (congrArg State.foreign (takeDue_frame s) :)
@[simp] theorem takeDue_mismatches (s : State) : (takeDue s).mismatches = s.mismatches :=
  (congrArg State.mismatches (takeDue_frame s) :)

/-- All that dropReport can change. -/
theorem dropReport_frame (r : CommandReport) (s : State) :
    dropReport r s = { s with foreign := (dropReport r s).foreign, mismatches := (dropReport r s).mismatches } := by
  apply State.eq_of_fields
  all_goals first
    | with_reducible rfl
    | (unfold dropReport; (try dsimp only); repeat' split
       all_goals simp)
@[simp] theorem dropReport_pending (r : CommandReport) (s : State) : (dropReport r s).pending = s.pending :=
  (congrArg State.pending (dropReport_frame r s) :)
@[simp] theorem dropReport_sent (r : CommandReport) (s : State) : (dropReport r s).sent = s.sent :=
  (congrArg State.sent (dropReport_frame r s) :)
@[simp] theorem dropReport_freeUses (r : CommandReport) (s : State) : (dropReport r s).freeUses = s.freeUses :=
  (congrArg State.freeUses (dropReport_frame r s) :)
@[simp] theorem dropReport_clock (r : CommandReport) (s : State) : (dropReport r s).clock = s.clock :=
  (congrArg State.clock (dropReport_frame r s) :)
@[simp] theorem dropReport_settings (r : CommandReport) (s : State) : (dropReport r s).settings = s.settings :=
  (congrArg State.settings (dropReport_frame r s) :)
@[simp] theorem dropReport_tables (r : CommandReport) (s : State) : (dropReport r s).tables = s.tables :=
  (congrArg State.tables (dropReport_frame r s) :)
@[simp] theorem dropReport_console (r : CommandReport) (s : State) : (dropReport r s).console = s.console :=
  (congrArg State.console (dropReport_frame r s) :)
@[simp] theorem dropReport_keys (r : CommandReport) (s : State) : (dropReport r s).keys = s.keys :=
  (congrArg State.keys (dropReport_frame r s) :)
@[simp] theorem dropReport_recognizer (r : CommandReport) (s : State) : (dropReport r s).recognizer = s.recognizer :=
  (congrArg State.recognizer (dropReport_frame r s) :)
@[simp] theorem dropReport_focusUnit (r : CommandReport) (s : State) : (dropReport r s).focusUnit = s.focusUnit :=
  (congrArg State.focusUnit (dropReport_frame r s) :)
@[simp] theorem dropReport_pointer (r : CommandReport) (s : State) : (dropReport r s).pointer = s.pointer :=
  (congrArg State.pointer (dropReport_frame r s) :)
@[simp] theorem dropReport_ports (r : CommandReport) (s : State) : (dropReport r s).ports = s.ports :=
  (congrArg State.ports (dropReport_frame r s) :)
@[simp] theorem dropReport_video (r : CommandReport) (s : State) : (dropReport r s).video = s.video :=
  (congrArg State.video (dropReport_frame r s) :)
@[simp] theorem dropReport_schedule (r : CommandReport) (s : State) : (dropReport r s).schedule = s.schedule :=
  (congrArg State.schedule (dropReport_frame r s) :)
@[simp] theorem dropReport_engine (r : CommandReport) (s : State) : (dropReport r s).engine = s.engine :=
  (congrArg State.engine (dropReport_frame r s) :)
@[simp] theorem dropReport_journal (r : CommandReport) (s : State) : (dropReport r s).journal = s.journal :=
  (congrArg State.journal (dropReport_frame r s) :)
@[simp] theorem dropReport_image (r : CommandReport) (s : State) : (dropReport r s).image = s.image :=
  (congrArg State.image (dropReport_frame r s) :)

/-- All that loadImage can change. -/
theorem loadImage_frame (im : Option (List Byte)) (s : State) :
    loadImage im s = { s with settings := (loadImage im s).settings, tables := (loadImage im s).tables, image := (loadImage im s).image } := rfl
@[simp] theorem loadImage_pending (im : Option (List Byte)) (s : State) : (loadImage im s).pending = s.pending :=
  (congrArg State.pending (loadImage_frame im s) :)
@[simp] theorem loadImage_sent (im : Option (List Byte)) (s : State) : (loadImage im s).sent = s.sent :=
  (congrArg State.sent (loadImage_frame im s) :)
@[simp] theorem loadImage_freeUses (im : Option (List Byte)) (s : State) : (loadImage im s).freeUses = s.freeUses :=
  (congrArg State.freeUses (loadImage_frame im s) :)
@[simp] theorem loadImage_clock (im : Option (List Byte)) (s : State) : (loadImage im s).clock = s.clock :=
  (congrArg State.clock (loadImage_frame im s) :)
@[simp] theorem loadImage_console (im : Option (List Byte)) (s : State) : (loadImage im s).console = s.console :=
  (congrArg State.console (loadImage_frame im s) :)
@[simp] theorem loadImage_keys (im : Option (List Byte)) (s : State) : (loadImage im s).keys = s.keys :=
  (congrArg State.keys (loadImage_frame im s) :)
@[simp] theorem loadImage_recognizer (im : Option (List Byte)) (s : State) : (loadImage im s).recognizer = s.recognizer :=
  (congrArg State.recognizer (loadImage_frame im s) :)
@[simp] theorem loadImage_focusUnit (im : Option (List Byte)) (s : State) : (loadImage im s).focusUnit = s.focusUnit :=
  (congrArg State.focusUnit (loadImage_frame im s) :)
@[simp] theorem loadImage_pointer (im : Option (List Byte)) (s : State) : (loadImage im s).pointer = s.pointer :=
  (congrArg State.pointer (loadImage_frame im s) :)
@[simp] theorem loadImage_ports (im : Option (List Byte)) (s : State) : (loadImage im s).ports = s.ports :=
  (congrArg State.ports (loadImage_frame im s) :)
@[simp] theorem loadImage_video (im : Option (List Byte)) (s : State) : (loadImage im s).video = s.video :=
  (congrArg State.video (loadImage_frame im s) :)
@[simp] theorem loadImage_schedule (im : Option (List Byte)) (s : State) : (loadImage im s).schedule = s.schedule :=
  (congrArg State.schedule (loadImage_frame im s) :)
@[simp] theorem loadImage_engine (im : Option (List Byte)) (s : State) : (loadImage im s).engine = s.engine :=
  (congrArg State.engine (loadImage_frame im s) :)
@[simp] theorem loadImage_journal (im : Option (List Byte)) (s : State) : (loadImage im s).journal = s.journal :=
  (congrArg State.journal (loadImage_frame im s) :)
@[simp] theorem loadImage_foreign (im : Option (List Byte)) (s : State) : (loadImage im s).foreign = s.foreign :=
  (congrArg State.foreign (loadImage_frame im s) :)
@[simp] theorem loadImage_mismatches (im : Option (List Byte)) (s : State) : (loadImage im s).mismatches = s.mismatches :=
  (congrArg State.mismatches (loadImage_frame im s) :)

/-- All that freshPointer can change. -/
theorem freshPointer_frame (s : State) :
    freshPointer s = { s with pointer := (freshPointer s).pointer } := rfl
@[simp] theorem freshPointer_pending (s : State) : (freshPointer s).pending = s.pending :=
  (congrArg State.pending (freshPointer_frame s) :)
@[simp] theorem freshPointer_sent (s : State) : (freshPointer s).sent = s.sent :=
  (congrArg State.sent (freshPointer_frame s) :)
@[simp] theorem freshPointer_freeUses (s : State) : (freshPointer s).freeUses = s.freeUses :=
  (congrArg State.freeUses (freshPointer_frame s) :)
@[simp] theorem freshPointer_clock (s : State) : (freshPointer s).clock = s.clock :=
  (congrArg State.clock (freshPointer_frame s) :)
@[simp] theorem freshPointer_settings (s : State) : (freshPointer s).settings = s.settings :=
  (congrArg State.settings (freshPointer_frame s) :)
@[simp] theorem freshPointer_tables (s : State) : (freshPointer s).tables = s.tables :=
  (congrArg State.tables (freshPointer_frame s) :)
@[simp] theorem freshPointer_console (s : State) : (freshPointer s).console = s.console :=
  (congrArg State.console (freshPointer_frame s) :)
@[simp] theorem freshPointer_keys (s : State) : (freshPointer s).keys = s.keys :=
  (congrArg State.keys (freshPointer_frame s) :)
@[simp] theorem freshPointer_recognizer (s : State) : (freshPointer s).recognizer = s.recognizer :=
  (congrArg State.recognizer (freshPointer_frame s) :)
@[simp] theorem freshPointer_focusUnit (s : State) : (freshPointer s).focusUnit = s.focusUnit :=
  (congrArg State.focusUnit (freshPointer_frame s) :)
@[simp] theorem freshPointer_ports (s : State) : (freshPointer s).ports = s.ports :=
  (congrArg State.ports (freshPointer_frame s) :)
@[simp] theorem freshPointer_video (s : State) : (freshPointer s).video = s.video :=
  (congrArg State.video (freshPointer_frame s) :)
@[simp] theorem freshPointer_schedule (s : State) : (freshPointer s).schedule = s.schedule :=
  (congrArg State.schedule (freshPointer_frame s) :)
@[simp] theorem freshPointer_engine (s : State) : (freshPointer s).engine = s.engine :=
  (congrArg State.engine (freshPointer_frame s) :)
@[simp] theorem freshPointer_journal (s : State) : (freshPointer s).journal = s.journal :=
  (congrArg State.journal (freshPointer_frame s) :)
@[simp] theorem freshPointer_image (s : State) : (freshPointer s).image = s.image :=
  (congrArg State.image (freshPointer_frame s) :)
@[simp] theorem freshPointer_foreign (s : State) : (freshPointer s).foreign = s.foreign :=
  (congrArg State.foreign (freshPointer_frame s) :)
@[simp] theorem freshPointer_mismatches (s : State) : (freshPointer s).mismatches = s.mismatches :=
  (congrArg State.mismatches (freshPointer_frame s) :)

/-- All that resetBlocks can change. -/
theorem resetBlocks_frame (s : State) :
    resetBlocks s = { s with console := (resetBlocks s).console, keys := (resetBlocks s).keys, recognizer := (resetBlocks s).recognizer, focusUnit := (resetBlocks s).focusUnit, ports := (resetBlocks s).ports, video := (resetBlocks s).video, schedule := (resetBlocks s).schedule, journal := (resetBlocks s).journal, foreign := (resetBlocks s).foreign, mismatches := (resetBlocks s).mismatches } := rfl
@[simp] theorem resetBlocks_pending (s : State) : (resetBlocks s).pending = s.pending :=
  (congrArg State.pending (resetBlocks_frame s) :)
@[simp] theorem resetBlocks_sent (s : State) : (resetBlocks s).sent = s.sent :=
  (congrArg State.sent (resetBlocks_frame s) :)
@[simp] theorem resetBlocks_freeUses (s : State) : (resetBlocks s).freeUses = s.freeUses :=
  (congrArg State.freeUses (resetBlocks_frame s) :)
@[simp] theorem resetBlocks_clock (s : State) : (resetBlocks s).clock = s.clock :=
  (congrArg State.clock (resetBlocks_frame s) :)
@[simp] theorem resetBlocks_settings (s : State) : (resetBlocks s).settings = s.settings :=
  (congrArg State.settings (resetBlocks_frame s) :)
@[simp] theorem resetBlocks_tables (s : State) : (resetBlocks s).tables = s.tables :=
  (congrArg State.tables (resetBlocks_frame s) :)
@[simp] theorem resetBlocks_pointer (s : State) : (resetBlocks s).pointer = s.pointer :=
  (congrArg State.pointer (resetBlocks_frame s) :)
@[simp] theorem resetBlocks_engine (s : State) : (resetBlocks s).engine = s.engine :=
  (congrArg State.engine (resetBlocks_frame s) :)
@[simp] theorem resetBlocks_image (s : State) : (resetBlocks s).image = s.image :=
  (congrArg State.image (resetBlocks_frame s) :)

/-- All that deskResetState can change. -/
theorem deskResetState_frame (b : Bool) (s : State) :
    deskResetState b s = { s with sent := (deskResetState b s).sent, settings := (deskResetState b s).settings, tables := (deskResetState b s).tables, image := (deskResetState b s).image, engine := (deskResetState b s).engine, pointer := (deskResetState b s).pointer, console := (deskResetState b s).console, keys := (deskResetState b s).keys, recognizer := (deskResetState b s).recognizer, focusUnit := (deskResetState b s).focusUnit, ports := (deskResetState b s).ports, video := (deskResetState b s).video, schedule := (deskResetState b s).schedule, journal := (deskResetState b s).journal, foreign := (deskResetState b s).foreign, mismatches := (deskResetState b s).mismatches } := by
  apply State.eq_of_fields
  all_goals first
    | with_reducible rfl
    | (unfold deskResetState; simp)
@[simp] theorem deskResetState_pending (b : Bool) (s : State) : (deskResetState b s).pending = s.pending :=
  (congrArg State.pending (deskResetState_frame b s) :)
@[simp] theorem deskResetState_freeUses (b : Bool) (s : State) : (deskResetState b s).freeUses = s.freeUses :=
  (congrArg State.freeUses (deskResetState_frame b s) :)
@[simp] theorem deskResetState_clock (b : Bool) (s : State) : (deskResetState b s).clock = s.clock :=
  (congrArg State.clock (deskResetState_frame b s) :)

/-- All that beginWrite can change. -/
theorem beginWrite_frame (s : State) :
    beginWrite s = { s with image := (beginWrite s).image, freeUses := (beginWrite s).freeUses } := rfl
@[simp] theorem beginWrite_pending (s : State) : (beginWrite s).pending = s.pending :=
  (congrArg State.pending (beginWrite_frame s) :)
@[simp] theorem beginWrite_sent (s : State) : (beginWrite s).sent = s.sent :=
  (congrArg State.sent (beginWrite_frame s) :)
@[simp] theorem beginWrite_clock (s : State) : (beginWrite s).clock = s.clock :=
  (congrArg State.clock (beginWrite_frame s) :)
@[simp] theorem beginWrite_settings (s : State) : (beginWrite s).settings = s.settings :=
  (congrArg State.settings (beginWrite_frame s) :)
@[simp] theorem beginWrite_tables (s : State) : (beginWrite s).tables = s.tables :=
  (congrArg State.tables (beginWrite_frame s) :)
@[simp] theorem beginWrite_console (s : State) : (beginWrite s).console = s.console :=
  (congrArg State.console (beginWrite_frame s) :)
@[simp] theorem beginWrite_keys (s : State) : (beginWrite s).keys = s.keys :=
  (congrArg State.keys (beginWrite_frame s) :)
@[simp] theorem beginWrite_recognizer (s : State) : (beginWrite s).recognizer = s.recognizer :=
  (congrArg State.recognizer (beginWrite_frame s) :)
@[simp] theorem beginWrite_focusUnit (s : State) : (beginWrite s).focusUnit = s.focusUnit :=
  (congrArg State.focusUnit (beginWrite_frame s) :)
@[simp] theorem beginWrite_pointer (s : State) : (beginWrite s).pointer = s.pointer :=
  (congrArg State.pointer (beginWrite_frame s) :)
@[simp] theorem beginWrite_ports (s : State) : (beginWrite s).ports = s.ports :=
  (congrArg State.ports (beginWrite_frame s) :)
@[simp] theorem beginWrite_video (s : State) : (beginWrite s).video = s.video :=
  (congrArg State.video (beginWrite_frame s) :)
@[simp] theorem beginWrite_schedule (s : State) : (beginWrite s).schedule = s.schedule :=
  (congrArg State.schedule (beginWrite_frame s) :)
@[simp] theorem beginWrite_engine (s : State) : (beginWrite s).engine = s.engine :=
  (congrArg State.engine (beginWrite_frame s) :)
@[simp] theorem beginWrite_journal (s : State) : (beginWrite s).journal = s.journal :=
  (congrArg State.journal (beginWrite_frame s) :)
@[simp] theorem beginWrite_foreign (s : State) : (beginWrite s).foreign = s.foreign :=
  (congrArg State.foreign (beginWrite_frame s) :)
@[simp] theorem beginWrite_mismatches (s : State) : (beginWrite s).mismatches = s.mismatches :=
  (congrArg State.mismatches (beginWrite_frame s) :)

/-- All that engineWriteEnded can change. -/
theorem engineWriteEnded_frame (o : WriteOutcome) (s : State) :
    engineWriteEnded o s = { s with ports := (engineWriteEnded o s).ports, engine := (engineWriteEnded o s).engine } := by
  apply State.eq_of_fields
  all_goals first
    | with_reducible rfl
    | (unfold engineWriteEnded; (try dsimp only); repeat' split
       all_goals simp)
@[simp] theorem engineWriteEnded_pending (o : WriteOutcome) (s : State) : (engineWriteEnded o s).pending = s.pending :=
  (congrArg State.pending (engineWriteEnded_frame o s) :)
@[simp] theorem engineWriteEnded_sent (o : WriteOutcome) (s : State) : (engineWriteEnded o s).sent = s.sent :=
  (congrArg State.sent (engineWriteEnded_frame o s) :)
@[simp] theorem engineWriteEnded_freeUses (o : WriteOutcome) (s : State) : (engineWriteEnded o s).freeUses = s.freeUses :=
  (congrArg State.freeUses (engineWriteEnded_frame o s) :)
@[simp] theorem engineWriteEnded_clock (o : WriteOutcome) (s : State) : (engineWriteEnded o s).clock = s.clock :=
  (congrArg State.clock (engineWriteEnded_frame o s) :)
@[simp] theorem engineWriteEnded_settings (o : WriteOutcome) (s : State) : (engineWriteEnded o s).settings = s.settings :=
  (congrArg State.settings (engineWriteEnded_frame o s) :)
@[simp] theorem engineWriteEnded_tables (o : WriteOutcome) (s : State) : (engineWriteEnded o s).tables = s.tables :=
  (congrArg State.tables (engineWriteEnded_frame o s) :)
@[simp] theorem engineWriteEnded_console (o : WriteOutcome) (s : State) : (engineWriteEnded o s).console = s.console :=
  (congrArg State.console (engineWriteEnded_frame o s) :)
@[simp] theorem engineWriteEnded_keys (o : WriteOutcome) (s : State) : (engineWriteEnded o s).keys = s.keys :=
  (congrArg State.keys (engineWriteEnded_frame o s) :)
@[simp] theorem engineWriteEnded_recognizer (o : WriteOutcome) (s : State) : (engineWriteEnded o s).recognizer = s.recognizer :=
  (congrArg State.recognizer (engineWriteEnded_frame o s) :)
@[simp] theorem engineWriteEnded_focusUnit (o : WriteOutcome) (s : State) : (engineWriteEnded o s).focusUnit = s.focusUnit :=
  (congrArg State.focusUnit (engineWriteEnded_frame o s) :)
@[simp] theorem engineWriteEnded_pointer (o : WriteOutcome) (s : State) : (engineWriteEnded o s).pointer = s.pointer :=
  (congrArg State.pointer (engineWriteEnded_frame o s) :)
@[simp] theorem engineWriteEnded_video (o : WriteOutcome) (s : State) : (engineWriteEnded o s).video = s.video :=
  (congrArg State.video (engineWriteEnded_frame o s) :)
@[simp] theorem engineWriteEnded_schedule (o : WriteOutcome) (s : State) : (engineWriteEnded o s).schedule = s.schedule :=
  (congrArg State.schedule (engineWriteEnded_frame o s) :)
@[simp] theorem engineWriteEnded_journal (o : WriteOutcome) (s : State) : (engineWriteEnded o s).journal = s.journal :=
  (congrArg State.journal (engineWriteEnded_frame o s) :)
@[simp] theorem engineWriteEnded_image (o : WriteOutcome) (s : State) : (engineWriteEnded o s).image = s.image :=
  (congrArg State.image (engineWriteEnded_frame o s) :)
@[simp] theorem engineWriteEnded_foreign (o : WriteOutcome) (s : State) : (engineWriteEnded o s).foreign = s.foreign :=
  (congrArg State.foreign (engineWriteEnded_frame o s) :)
@[simp] theorem engineWriteEnded_mismatches (o : WriteOutcome) (s : State) : (engineWriteEnded o s).mismatches = s.mismatches :=
  (congrArg State.mismatches (engineWriteEnded_frame o s) :)

/-- All that endWrite can change. -/
theorem endWrite_frame (o : WriteOutcome) (s : State) :
    endWrite o s = { s with ports := (endWrite o s).ports, engine := (endWrite o s).engine, image := (endWrite o s).image } := by
  apply State.eq_of_fields
  all_goals first
    | with_reducible rfl
    | (unfold endWrite; split <;> simp)
@[simp] theorem endWrite_pending (o : WriteOutcome) (s : State) : (endWrite o s).pending = s.pending :=
  (congrArg State.pending (endWrite_frame o s) :)
@[simp] theorem endWrite_sent (o : WriteOutcome) (s : State) : (endWrite o s).sent = s.sent :=
  (congrArg State.sent (endWrite_frame o s) :)
@[simp] theorem endWrite_freeUses (o : WriteOutcome) (s : State) : (endWrite o s).freeUses = s.freeUses :=
  (congrArg State.freeUses (endWrite_frame o s) :)
@[simp] theorem endWrite_clock (o : WriteOutcome) (s : State) : (endWrite o s).clock = s.clock :=
  (congrArg State.clock (endWrite_frame o s) :)
@[simp] theorem endWrite_settings (o : WriteOutcome) (s : State) : (endWrite o s).settings = s.settings :=
  (congrArg State.settings (endWrite_frame o s) :)
@[simp] theorem endWrite_tables (o : WriteOutcome) (s : State) : (endWrite o s).tables = s.tables :=
  (congrArg State.tables (endWrite_frame o s) :)
@[simp] theorem endWrite_console (o : WriteOutcome) (s : State) : (endWrite o s).console = s.console :=
  (congrArg State.console (endWrite_frame o s) :)
@[simp] theorem endWrite_keys (o : WriteOutcome) (s : State) : (endWrite o s).keys = s.keys :=
  (congrArg State.keys (endWrite_frame o s) :)
@[simp] theorem endWrite_recognizer (o : WriteOutcome) (s : State) : (endWrite o s).recognizer = s.recognizer :=
  (congrArg State.recognizer (endWrite_frame o s) :)
@[simp] theorem endWrite_focusUnit (o : WriteOutcome) (s : State) : (endWrite o s).focusUnit = s.focusUnit :=
  (congrArg State.focusUnit (endWrite_frame o s) :)
@[simp] theorem endWrite_pointer (o : WriteOutcome) (s : State) : (endWrite o s).pointer = s.pointer :=
  (congrArg State.pointer (endWrite_frame o s) :)
@[simp] theorem endWrite_video (o : WriteOutcome) (s : State) : (endWrite o s).video = s.video :=
  (congrArg State.video (endWrite_frame o s) :)
@[simp] theorem endWrite_schedule (o : WriteOutcome) (s : State) : (endWrite o s).schedule = s.schedule :=
  (congrArg State.schedule (endWrite_frame o s) :)
@[simp] theorem endWrite_journal (o : WriteOutcome) (s : State) : (endWrite o s).journal = s.journal :=
  (congrArg State.journal (endWrite_frame o s) :)
@[simp] theorem endWrite_foreign (o : WriteOutcome) (s : State) : (endWrite o s).foreign = s.foreign :=
  (congrArg State.foreign (endWrite_frame o s) :)
@[simp] theorem endWrite_mismatches (o : WriteOutcome) (s : State) : (endWrite o s).mismatches = s.mismatches :=
  (congrArg State.mismatches (endWrite_frame o s) :)

/-- All that forgetTaps can change. -/
theorem forgetTaps_frame (c : Bool) (s : State) :
    forgetTaps c s = { s with recognizer := (forgetTaps c s).recognizer } := by
  apply State.eq_of_fields
  all_goals first
    | with_reducible rfl
    | (unfold forgetTaps; split <;> simp)
@[simp] theorem forgetTaps_pending (c : Bool) (s : State) : (forgetTaps c s).pending = s.pending :=
  (congrArg State.pending (forgetTaps_frame c s) :)
@[simp] theorem forgetTaps_sent (c : Bool) (s : State) : (forgetTaps c s).sent = s.sent :=
  (congrArg State.sent (forgetTaps_frame c s) :)
@[simp] theorem forgetTaps_freeUses (c : Bool) (s : State) : (forgetTaps c s).freeUses = s.freeUses :=
  (congrArg State.freeUses (forgetTaps_frame c s) :)
@[simp] theorem forgetTaps_clock (c : Bool) (s : State) : (forgetTaps c s).clock = s.clock :=
  (congrArg State.clock (forgetTaps_frame c s) :)
@[simp] theorem forgetTaps_settings (c : Bool) (s : State) : (forgetTaps c s).settings = s.settings :=
  (congrArg State.settings (forgetTaps_frame c s) :)
@[simp] theorem forgetTaps_tables (c : Bool) (s : State) : (forgetTaps c s).tables = s.tables :=
  (congrArg State.tables (forgetTaps_frame c s) :)
@[simp] theorem forgetTaps_console (c : Bool) (s : State) : (forgetTaps c s).console = s.console :=
  (congrArg State.console (forgetTaps_frame c s) :)
@[simp] theorem forgetTaps_keys (c : Bool) (s : State) : (forgetTaps c s).keys = s.keys :=
  (congrArg State.keys (forgetTaps_frame c s) :)
@[simp] theorem forgetTaps_focusUnit (c : Bool) (s : State) : (forgetTaps c s).focusUnit = s.focusUnit :=
  (congrArg State.focusUnit (forgetTaps_frame c s) :)
@[simp] theorem forgetTaps_pointer (c : Bool) (s : State) : (forgetTaps c s).pointer = s.pointer :=
  (congrArg State.pointer (forgetTaps_frame c s) :)
@[simp] theorem forgetTaps_ports (c : Bool) (s : State) : (forgetTaps c s).ports = s.ports :=
  (congrArg State.ports (forgetTaps_frame c s) :)
@[simp] theorem forgetTaps_video (c : Bool) (s : State) : (forgetTaps c s).video = s.video :=
  (congrArg State.video (forgetTaps_frame c s) :)
@[simp] theorem forgetTaps_schedule (c : Bool) (s : State) : (forgetTaps c s).schedule = s.schedule :=
  (congrArg State.schedule (forgetTaps_frame c s) :)
@[simp] theorem forgetTaps_engine (c : Bool) (s : State) : (forgetTaps c s).engine = s.engine :=
  (congrArg State.engine (forgetTaps_frame c s) :)
@[simp] theorem forgetTaps_journal (c : Bool) (s : State) : (forgetTaps c s).journal = s.journal :=
  (congrArg State.journal (forgetTaps_frame c s) :)
@[simp] theorem forgetTaps_image (c : Bool) (s : State) : (forgetTaps c s).image = s.image :=
  (congrArg State.image (forgetTaps_frame c s) :)
@[simp] theorem forgetTaps_foreign (c : Bool) (s : State) : (forgetTaps c s).foreign = s.foreign :=
  (congrArg State.foreign (forgetTaps_frame c s) :)
@[simp] theorem forgetTaps_mismatches (c : Bool) (s : State) : (forgetTaps c s).mismatches = s.mismatches :=
  (congrArg State.mismatches (forgetTaps_frame c s) :)

/-- All that applyModeSettings can change. -/
theorem applyModeSettings_frame (m : ModeSettings) (s : State) :
    applyModeSettings m s = { s with keys := (applyModeSettings m s).keys, ports := (applyModeSettings m s).ports, tables := (applyModeSettings m s).tables, recognizer := (applyModeSettings m s).recognizer } := by
  apply State.eq_of_fields
  all_goals first
    | with_reducible rfl
    | (unfold applyModeSettings; (try dsimp only); repeat' split
       all_goals simp)
@[simp] theorem applyModeSettings_pending (m : ModeSettings) (s : State) : (applyModeSettings m s).pending = s.pending :=
  (congrArg State.pending (applyModeSettings_frame m s) :)
@[simp] theorem applyModeSettings_sent (m : ModeSettings) (s : State) : (applyModeSettings m s).sent = s.sent :=
  (congrArg State.sent (applyModeSettings_frame m s) :)
@[simp] theorem applyModeSettings_freeUses (m : ModeSettings) (s : State) : (applyModeSettings m s).freeUses = s.freeUses :=
  (congrArg State.freeUses (applyModeSettings_frame m s) :)
@[simp] theorem applyModeSettings_clock (m : ModeSettings) (s : State) : (applyModeSettings m s).clock = s.clock :=
  (congrArg State.clock (applyModeSettings_frame m s) :)
@[simp] theorem applyModeSettings_settings (m : ModeSettings) (s : State) : (applyModeSettings m s).settings = s.settings :=
  (congrArg State.settings (applyModeSettings_frame m s) :)
@[simp] theorem applyModeSettings_console (m : ModeSettings) (s : State) : (applyModeSettings m s).console = s.console :=
  (congrArg State.console (applyModeSettings_frame m s) :)
@[simp] theorem applyModeSettings_focusUnit (m : ModeSettings) (s : State) : (applyModeSettings m s).focusUnit = s.focusUnit :=
  (congrArg State.focusUnit (applyModeSettings_frame m s) :)
@[simp] theorem applyModeSettings_pointer (m : ModeSettings) (s : State) : (applyModeSettings m s).pointer = s.pointer :=
  (congrArg State.pointer (applyModeSettings_frame m s) :)
@[simp] theorem applyModeSettings_video (m : ModeSettings) (s : State) : (applyModeSettings m s).video = s.video :=
  (congrArg State.video (applyModeSettings_frame m s) :)
@[simp] theorem applyModeSettings_schedule (m : ModeSettings) (s : State) : (applyModeSettings m s).schedule = s.schedule :=
  (congrArg State.schedule (applyModeSettings_frame m s) :)
@[simp] theorem applyModeSettings_engine (m : ModeSettings) (s : State) : (applyModeSettings m s).engine = s.engine :=
  (congrArg State.engine (applyModeSettings_frame m s) :)
@[simp] theorem applyModeSettings_journal (m : ModeSettings) (s : State) : (applyModeSettings m s).journal = s.journal :=
  (congrArg State.journal (applyModeSettings_frame m s) :)
@[simp] theorem applyModeSettings_image (m : ModeSettings) (s : State) : (applyModeSettings m s).image = s.image :=
  (congrArg State.image (applyModeSettings_frame m s) :)
@[simp] theorem applyModeSettings_foreign (m : ModeSettings) (s : State) : (applyModeSettings m s).foreign = s.foreign :=
  (congrArg State.foreign (applyModeSettings_frame m s) :)
@[simp] theorem applyModeSettings_mismatches (m : ModeSettings) (s : State) : (applyModeSettings m s).mismatches = s.mismatches :=
  (congrArg State.mismatches (applyModeSettings_frame m s) :)

/-- All that setHotkey can change. -/
theorem setHotkey_frame (i : Fin 32) (h : Option Hotkey) (s : State) :
    setHotkey i h s = { s with tables := (setHotkey i h s).tables } := rfl
@[simp] theorem setHotkey_pending (i : Fin 32) (h : Option Hotkey) (s : State) : (setHotkey i h s).pending = s.pending :=
  (congrArg State.pending (setHotkey_frame i h s) :)
@[simp] theorem setHotkey_sent (i : Fin 32) (h : Option Hotkey) (s : State) : (setHotkey i h s).sent = s.sent :=
  (congrArg State.sent (setHotkey_frame i h s) :)
@[simp] theorem setHotkey_freeUses (i : Fin 32) (h : Option Hotkey) (s : State) : (setHotkey i h s).freeUses = s.freeUses :=
  (congrArg State.freeUses (setHotkey_frame i h s) :)
@[simp] theorem setHotkey_clock (i : Fin 32) (h : Option Hotkey) (s : State) : (setHotkey i h s).clock = s.clock :=
  (congrArg State.clock (setHotkey_frame i h s) :)
@[simp] theorem setHotkey_settings (i : Fin 32) (h : Option Hotkey) (s : State) : (setHotkey i h s).settings = s.settings :=
  (congrArg State.settings (setHotkey_frame i h s) :)
@[simp] theorem setHotkey_console (i : Fin 32) (h : Option Hotkey) (s : State) : (setHotkey i h s).console = s.console :=
  (congrArg State.console (setHotkey_frame i h s) :)
@[simp] theorem setHotkey_keys (i : Fin 32) (h : Option Hotkey) (s : State) : (setHotkey i h s).keys = s.keys :=
  (congrArg State.keys (setHotkey_frame i h s) :)
@[simp] theorem setHotkey_recognizer (i : Fin 32) (h : Option Hotkey) (s : State) : (setHotkey i h s).recognizer = s.recognizer :=
  (congrArg State.recognizer (setHotkey_frame i h s) :)
@[simp] theorem setHotkey_focusUnit (i : Fin 32) (h : Option Hotkey) (s : State) : (setHotkey i h s).focusUnit = s.focusUnit :=
  (congrArg State.focusUnit (setHotkey_frame i h s) :)
@[simp] theorem setHotkey_pointer (i : Fin 32) (h : Option Hotkey) (s : State) : (setHotkey i h s).pointer = s.pointer :=
  (congrArg State.pointer (setHotkey_frame i h s) :)
@[simp] theorem setHotkey_ports (i : Fin 32) (h : Option Hotkey) (s : State) : (setHotkey i h s).ports = s.ports :=
  (congrArg State.ports (setHotkey_frame i h s) :)
@[simp] theorem setHotkey_video (i : Fin 32) (h : Option Hotkey) (s : State) : (setHotkey i h s).video = s.video :=
  (congrArg State.video (setHotkey_frame i h s) :)
@[simp] theorem setHotkey_schedule (i : Fin 32) (h : Option Hotkey) (s : State) : (setHotkey i h s).schedule = s.schedule :=
  (congrArg State.schedule (setHotkey_frame i h s) :)
@[simp] theorem setHotkey_engine (i : Fin 32) (h : Option Hotkey) (s : State) : (setHotkey i h s).engine = s.engine :=
  (congrArg State.engine (setHotkey_frame i h s) :)
@[simp] theorem setHotkey_journal (i : Fin 32) (h : Option Hotkey) (s : State) : (setHotkey i h s).journal = s.journal :=
  (congrArg State.journal (setHotkey_frame i h s) :)
@[simp] theorem setHotkey_image (i : Fin 32) (h : Option Hotkey) (s : State) : (setHotkey i h s).image = s.image :=
  (congrArg State.image (setHotkey_frame i h s) :)
@[simp] theorem setHotkey_foreign (i : Fin 32) (h : Option Hotkey) (s : State) : (setHotkey i h s).foreign = s.foreign :=
  (congrArg State.foreign (setHotkey_frame i h s) :)
@[simp] theorem setHotkey_mismatches (i : Fin 32) (h : Option Hotkey) (s : State) : (setHotkey i h s).mismatches = s.mismatches :=
  (congrArg State.mismatches (setHotkey_frame i h s) :)

/-- All that setWindow can change. -/
theorem setWindow_frame (j : Input) (w : Window) (s : State) :
    setWindow j w s = { s with tables := (setWindow j w s).tables } := rfl
@[simp] theorem setWindow_pending (j : Input) (w : Window) (s : State) : (setWindow j w s).pending = s.pending :=
  (congrArg State.pending (setWindow_frame j w s) :)
@[simp] theorem setWindow_sent (j : Input) (w : Window) (s : State) : (setWindow j w s).sent = s.sent :=
  (congrArg State.sent (setWindow_frame j w s) :)
@[simp] theorem setWindow_freeUses (j : Input) (w : Window) (s : State) : (setWindow j w s).freeUses = s.freeUses :=
  (congrArg State.freeUses (setWindow_frame j w s) :)
@[simp] theorem setWindow_clock (j : Input) (w : Window) (s : State) : (setWindow j w s).clock = s.clock :=
  (congrArg State.clock (setWindow_frame j w s) :)
@[simp] theorem setWindow_settings (j : Input) (w : Window) (s : State) : (setWindow j w s).settings = s.settings :=
  (congrArg State.settings (setWindow_frame j w s) :)
@[simp] theorem setWindow_console (j : Input) (w : Window) (s : State) : (setWindow j w s).console = s.console :=
  (congrArg State.console (setWindow_frame j w s) :)
@[simp] theorem setWindow_keys (j : Input) (w : Window) (s : State) : (setWindow j w s).keys = s.keys :=
  (congrArg State.keys (setWindow_frame j w s) :)
@[simp] theorem setWindow_recognizer (j : Input) (w : Window) (s : State) : (setWindow j w s).recognizer = s.recognizer :=
  (congrArg State.recognizer (setWindow_frame j w s) :)
@[simp] theorem setWindow_focusUnit (j : Input) (w : Window) (s : State) : (setWindow j w s).focusUnit = s.focusUnit :=
  (congrArg State.focusUnit (setWindow_frame j w s) :)
@[simp] theorem setWindow_pointer (j : Input) (w : Window) (s : State) : (setWindow j w s).pointer = s.pointer :=
  (congrArg State.pointer (setWindow_frame j w s) :)
@[simp] theorem setWindow_ports (j : Input) (w : Window) (s : State) : (setWindow j w s).ports = s.ports :=
  (congrArg State.ports (setWindow_frame j w s) :)
@[simp] theorem setWindow_video (j : Input) (w : Window) (s : State) : (setWindow j w s).video = s.video :=
  (congrArg State.video (setWindow_frame j w s) :)
@[simp] theorem setWindow_schedule (j : Input) (w : Window) (s : State) : (setWindow j w s).schedule = s.schedule :=
  (congrArg State.schedule (setWindow_frame j w s) :)
@[simp] theorem setWindow_engine (j : Input) (w : Window) (s : State) : (setWindow j w s).engine = s.engine :=
  (congrArg State.engine (setWindow_frame j w s) :)
@[simp] theorem setWindow_journal (j : Input) (w : Window) (s : State) : (setWindow j w s).journal = s.journal :=
  (congrArg State.journal (setWindow_frame j w s) :)
@[simp] theorem setWindow_image (j : Input) (w : Window) (s : State) : (setWindow j w s).image = s.image :=
  (congrArg State.image (setWindow_frame j w s) :)
@[simp] theorem setWindow_foreign (j : Input) (w : Window) (s : State) : (setWindow j w s).foreign = s.foreign :=
  (congrArg State.foreign (setWindow_frame j w s) :)
@[simp] theorem setWindow_mismatches (j : Input) (w : Window) (s : State) : (setWindow j w s).mismatches = s.mismatches :=
  (congrArg State.mismatches (setWindow_frame j w s) :)

/-- All that setPortSettings can change. -/
theorem setPortSettings_frame (k : Computer) (p : PortSettings) (s : State) :
    setPortSettings k p s = { s with tables := (setPortSettings k p s).tables } := rfl
@[simp] theorem setPortSettings_pending (k : Computer) (p : PortSettings) (s : State) : (setPortSettings k p s).pending = s.pending :=
  (congrArg State.pending (setPortSettings_frame k p s) :)
@[simp] theorem setPortSettings_sent (k : Computer) (p : PortSettings) (s : State) : (setPortSettings k p s).sent = s.sent :=
  (congrArg State.sent (setPortSettings_frame k p s) :)
@[simp] theorem setPortSettings_freeUses (k : Computer) (p : PortSettings) (s : State) : (setPortSettings k p s).freeUses = s.freeUses :=
  (congrArg State.freeUses (setPortSettings_frame k p s) :)
@[simp] theorem setPortSettings_clock (k : Computer) (p : PortSettings) (s : State) : (setPortSettings k p s).clock = s.clock :=
  (congrArg State.clock (setPortSettings_frame k p s) :)
@[simp] theorem setPortSettings_settings (k : Computer) (p : PortSettings) (s : State) : (setPortSettings k p s).settings = s.settings :=
  (congrArg State.settings (setPortSettings_frame k p s) :)
@[simp] theorem setPortSettings_console (k : Computer) (p : PortSettings) (s : State) : (setPortSettings k p s).console = s.console :=
  (congrArg State.console (setPortSettings_frame k p s) :)
@[simp] theorem setPortSettings_keys (k : Computer) (p : PortSettings) (s : State) : (setPortSettings k p s).keys = s.keys :=
  (congrArg State.keys (setPortSettings_frame k p s) :)
@[simp] theorem setPortSettings_recognizer (k : Computer) (p : PortSettings) (s : State) : (setPortSettings k p s).recognizer = s.recognizer :=
  (congrArg State.recognizer (setPortSettings_frame k p s) :)
@[simp] theorem setPortSettings_focusUnit (k : Computer) (p : PortSettings) (s : State) : (setPortSettings k p s).focusUnit = s.focusUnit :=
  (congrArg State.focusUnit (setPortSettings_frame k p s) :)
@[simp] theorem setPortSettings_pointer (k : Computer) (p : PortSettings) (s : State) : (setPortSettings k p s).pointer = s.pointer :=
  (congrArg State.pointer (setPortSettings_frame k p s) :)
@[simp] theorem setPortSettings_ports (k : Computer) (p : PortSettings) (s : State) : (setPortSettings k p s).ports = s.ports :=
  (congrArg State.ports (setPortSettings_frame k p s) :)
@[simp] theorem setPortSettings_video (k : Computer) (p : PortSettings) (s : State) : (setPortSettings k p s).video = s.video :=
  (congrArg State.video (setPortSettings_frame k p s) :)
@[simp] theorem setPortSettings_schedule (k : Computer) (p : PortSettings) (s : State) : (setPortSettings k p s).schedule = s.schedule :=
  (congrArg State.schedule (setPortSettings_frame k p s) :)
@[simp] theorem setPortSettings_engine (k : Computer) (p : PortSettings) (s : State) : (setPortSettings k p s).engine = s.engine :=
  (congrArg State.engine (setPortSettings_frame k p s) :)
@[simp] theorem setPortSettings_journal (k : Computer) (p : PortSettings) (s : State) : (setPortSettings k p s).journal = s.journal :=
  (congrArg State.journal (setPortSettings_frame k p s) :)
@[simp] theorem setPortSettings_image (k : Computer) (p : PortSettings) (s : State) : (setPortSettings k p s).image = s.image :=
  (congrArg State.image (setPortSettings_frame k p s) :)
@[simp] theorem setPortSettings_foreign (k : Computer) (p : PortSettings) (s : State) : (setPortSettings k p s).foreign = s.foreign :=
  (congrArg State.foreign (setPortSettings_frame k p s) :)
@[simp] theorem setPortSettings_mismatches (k : Computer) (p : PortSettings) (s : State) : (setPortSettings k p s).mismatches = s.mismatches :=
  (congrArg State.mismatches (setPortSettings_frame k p s) :)

/-- All that setPreset can change. -/
theorem setPreset_frame (p : PresetIndex) (pr : Preset) (s : State) :
    setPreset p pr s = { s with tables := (setPreset p pr s).tables } := rfl
@[simp] theorem setPreset_pending (p : PresetIndex) (pr : Preset) (s : State) : (setPreset p pr s).pending = s.pending :=
  (congrArg State.pending (setPreset_frame p pr s) :)
@[simp] theorem setPreset_sent (p : PresetIndex) (pr : Preset) (s : State) : (setPreset p pr s).sent = s.sent :=
  (congrArg State.sent (setPreset_frame p pr s) :)
@[simp] theorem setPreset_freeUses (p : PresetIndex) (pr : Preset) (s : State) : (setPreset p pr s).freeUses = s.freeUses :=
  (congrArg State.freeUses (setPreset_frame p pr s) :)
@[simp] theorem setPreset_clock (p : PresetIndex) (pr : Preset) (s : State) : (setPreset p pr s).clock = s.clock :=
  (congrArg State.clock (setPreset_frame p pr s) :)
@[simp] theorem setPreset_settings (p : PresetIndex) (pr : Preset) (s : State) : (setPreset p pr s).settings = s.settings :=
  (congrArg State.settings (setPreset_frame p pr s) :)
@[simp] theorem setPreset_console (p : PresetIndex) (pr : Preset) (s : State) : (setPreset p pr s).console = s.console :=
  (congrArg State.console (setPreset_frame p pr s) :)
@[simp] theorem setPreset_keys (p : PresetIndex) (pr : Preset) (s : State) : (setPreset p pr s).keys = s.keys :=
  (congrArg State.keys (setPreset_frame p pr s) :)
@[simp] theorem setPreset_recognizer (p : PresetIndex) (pr : Preset) (s : State) : (setPreset p pr s).recognizer = s.recognizer :=
  (congrArg State.recognizer (setPreset_frame p pr s) :)
@[simp] theorem setPreset_focusUnit (p : PresetIndex) (pr : Preset) (s : State) : (setPreset p pr s).focusUnit = s.focusUnit :=
  (congrArg State.focusUnit (setPreset_frame p pr s) :)
@[simp] theorem setPreset_pointer (p : PresetIndex) (pr : Preset) (s : State) : (setPreset p pr s).pointer = s.pointer :=
  (congrArg State.pointer (setPreset_frame p pr s) :)
@[simp] theorem setPreset_ports (p : PresetIndex) (pr : Preset) (s : State) : (setPreset p pr s).ports = s.ports :=
  (congrArg State.ports (setPreset_frame p pr s) :)
@[simp] theorem setPreset_video (p : PresetIndex) (pr : Preset) (s : State) : (setPreset p pr s).video = s.video :=
  (congrArg State.video (setPreset_frame p pr s) :)
@[simp] theorem setPreset_schedule (p : PresetIndex) (pr : Preset) (s : State) : (setPreset p pr s).schedule = s.schedule :=
  (congrArg State.schedule (setPreset_frame p pr s) :)
@[simp] theorem setPreset_engine (p : PresetIndex) (pr : Preset) (s : State) : (setPreset p pr s).engine = s.engine :=
  (congrArg State.engine (setPreset_frame p pr s) :)
@[simp] theorem setPreset_journal (p : PresetIndex) (pr : Preset) (s : State) : (setPreset p pr s).journal = s.journal :=
  (congrArg State.journal (setPreset_frame p pr s) :)
@[simp] theorem setPreset_image (p : PresetIndex) (pr : Preset) (s : State) : (setPreset p pr s).image = s.image :=
  (congrArg State.image (setPreset_frame p pr s) :)
@[simp] theorem setPreset_foreign (p : PresetIndex) (pr : Preset) (s : State) : (setPreset p pr s).foreign = s.foreign :=
  (congrArg State.foreign (setPreset_frame p pr s) :)
@[simp] theorem setPreset_mismatches (p : PresetIndex) (pr : Preset) (s : State) : (setPreset p pr s).mismatches = s.mismatches :=
  (congrArg State.mismatches (setPreset_frame p pr s) :)

/-- All that setStaged can change. -/
theorem setStaged_frame (sc : Screen) (p : Placement) (s : State) :
    setStaged sc p s = { s with tables := (setStaged sc p s).tables } := rfl
@[simp] theorem setStaged_pending (sc : Screen) (p : Placement) (s : State) : (setStaged sc p s).pending = s.pending :=
  (congrArg State.pending (setStaged_frame sc p s) :)
@[simp] theorem setStaged_sent (sc : Screen) (p : Placement) (s : State) : (setStaged sc p s).sent = s.sent :=
  (congrArg State.sent (setStaged_frame sc p s) :)
@[simp] theorem setStaged_freeUses (sc : Screen) (p : Placement) (s : State) : (setStaged sc p s).freeUses = s.freeUses :=
  (congrArg State.freeUses (setStaged_frame sc p s) :)
@[simp] theorem setStaged_clock (sc : Screen) (p : Placement) (s : State) : (setStaged sc p s).clock = s.clock :=
  (congrArg State.clock (setStaged_frame sc p s) :)
@[simp] theorem setStaged_settings (sc : Screen) (p : Placement) (s : State) : (setStaged sc p s).settings = s.settings :=
  (congrArg State.settings (setStaged_frame sc p s) :)
@[simp] theorem setStaged_console (sc : Screen) (p : Placement) (s : State) : (setStaged sc p s).console = s.console :=
  (congrArg State.console (setStaged_frame sc p s) :)
@[simp] theorem setStaged_keys (sc : Screen) (p : Placement) (s : State) : (setStaged sc p s).keys = s.keys :=
  (congrArg State.keys (setStaged_frame sc p s) :)
@[simp] theorem setStaged_recognizer (sc : Screen) (p : Placement) (s : State) : (setStaged sc p s).recognizer = s.recognizer :=
  (congrArg State.recognizer (setStaged_frame sc p s) :)
@[simp] theorem setStaged_focusUnit (sc : Screen) (p : Placement) (s : State) : (setStaged sc p s).focusUnit = s.focusUnit :=
  (congrArg State.focusUnit (setStaged_frame sc p s) :)
@[simp] theorem setStaged_pointer (sc : Screen) (p : Placement) (s : State) : (setStaged sc p s).pointer = s.pointer :=
  (congrArg State.pointer (setStaged_frame sc p s) :)
@[simp] theorem setStaged_ports (sc : Screen) (p : Placement) (s : State) : (setStaged sc p s).ports = s.ports :=
  (congrArg State.ports (setStaged_frame sc p s) :)
@[simp] theorem setStaged_video (sc : Screen) (p : Placement) (s : State) : (setStaged sc p s).video = s.video :=
  (congrArg State.video (setStaged_frame sc p s) :)
@[simp] theorem setStaged_schedule (sc : Screen) (p : Placement) (s : State) : (setStaged sc p s).schedule = s.schedule :=
  (congrArg State.schedule (setStaged_frame sc p s) :)
@[simp] theorem setStaged_engine (sc : Screen) (p : Placement) (s : State) : (setStaged sc p s).engine = s.engine :=
  (congrArg State.engine (setStaged_frame sc p s) :)
@[simp] theorem setStaged_journal (sc : Screen) (p : Placement) (s : State) : (setStaged sc p s).journal = s.journal :=
  (congrArg State.journal (setStaged_frame sc p s) :)
@[simp] theorem setStaged_image (sc : Screen) (p : Placement) (s : State) : (setStaged sc p s).image = s.image :=
  (congrArg State.image (setStaged_frame sc p s) :)
@[simp] theorem setStaged_foreign (sc : Screen) (p : Placement) (s : State) : (setStaged sc p s).foreign = s.foreign :=
  (congrArg State.foreign (setStaged_frame sc p s) :)
@[simp] theorem setStaged_mismatches (sc : Screen) (p : Placement) (s : State) : (setStaged sc p s).mismatches = s.mismatches :=
  (congrArg State.mismatches (setStaged_frame sc p s) :)

/-- All that rewriteWindow can change. -/
theorem rewriteWindow_frame (j : Input) (w : Window) (s : State) :
    rewriteWindow j w s = { s with sent := (rewriteWindow j w s).sent, console := (rewriteWindow j w s).console, keys := (rewriteWindow j w s).keys, focusUnit := (rewriteWindow j w s).focusUnit, pointer := (rewriteWindow j w s).pointer, ports := (rewriteWindow j w s).ports, journal := (rewriteWindow j w s).journal, tables := (rewriteWindow j w s).tables } := by
  apply State.eq_of_fields
  all_goals first
    | with_reducible rfl
    | (unfold rewriteWindow; (try dsimp only); repeat' split
       all_goals simp)
@[simp] theorem rewriteWindow_pending (j : Input) (w : Window) (s : State) : (rewriteWindow j w s).pending = s.pending :=
  (congrArg State.pending (rewriteWindow_frame j w s) :)
@[simp] theorem rewriteWindow_freeUses (j : Input) (w : Window) (s : State) : (rewriteWindow j w s).freeUses = s.freeUses :=
  (congrArg State.freeUses (rewriteWindow_frame j w s) :)
@[simp] theorem rewriteWindow_clock (j : Input) (w : Window) (s : State) : (rewriteWindow j w s).clock = s.clock :=
  (congrArg State.clock (rewriteWindow_frame j w s) :)
@[simp] theorem rewriteWindow_settings (j : Input) (w : Window) (s : State) : (rewriteWindow j w s).settings = s.settings :=
  (congrArg State.settings (rewriteWindow_frame j w s) :)
@[simp] theorem rewriteWindow_recognizer (j : Input) (w : Window) (s : State) : (rewriteWindow j w s).recognizer = s.recognizer :=
  (congrArg State.recognizer (rewriteWindow_frame j w s) :)
@[simp] theorem rewriteWindow_video (j : Input) (w : Window) (s : State) : (rewriteWindow j w s).video = s.video :=
  (congrArg State.video (rewriteWindow_frame j w s) :)
@[simp] theorem rewriteWindow_schedule (j : Input) (w : Window) (s : State) : (rewriteWindow j w s).schedule = s.schedule :=
  (congrArg State.schedule (rewriteWindow_frame j w s) :)
@[simp] theorem rewriteWindow_engine (j : Input) (w : Window) (s : State) : (rewriteWindow j w s).engine = s.engine :=
  (congrArg State.engine (rewriteWindow_frame j w s) :)
@[simp] theorem rewriteWindow_image (j : Input) (w : Window) (s : State) : (rewriteWindow j w s).image = s.image :=
  (congrArg State.image (rewriteWindow_frame j w s) :)
@[simp] theorem rewriteWindow_foreign (j : Input) (w : Window) (s : State) : (rewriteWindow j w s).foreign = s.foreign :=
  (congrArg State.foreign (rewriteWindow_frame j w s) :)
@[simp] theorem rewriteWindow_mismatches (j : Input) (w : Window) (s : State) : (rewriteWindow j w s).mismatches = s.mismatches :=
  (congrArg State.mismatches (rewriteWindow_frame j w s) :)

/-- All that clearAllCounters can change. -/
theorem clearAllCounters_frame (s : State) :
    clearAllCounters s = { s with console := (clearAllCounters s).console, keys := (clearAllCounters s).keys, foreign := (clearAllCounters s).foreign, mismatches := (clearAllCounters s).mismatches, ports := (clearAllCounters s).ports, video := (clearAllCounters s).video } := rfl
@[simp] theorem clearAllCounters_pending (s : State) : (clearAllCounters s).pending = s.pending :=
  (congrArg State.pending (clearAllCounters_frame s) :)
@[simp] theorem clearAllCounters_sent (s : State) : (clearAllCounters s).sent = s.sent :=
  (congrArg State.sent (clearAllCounters_frame s) :)
@[simp] theorem clearAllCounters_freeUses (s : State) : (clearAllCounters s).freeUses = s.freeUses :=
  (congrArg State.freeUses (clearAllCounters_frame s) :)
@[simp] theorem clearAllCounters_clock (s : State) : (clearAllCounters s).clock = s.clock :=
  (congrArg State.clock (clearAllCounters_frame s) :)
@[simp] theorem clearAllCounters_settings (s : State) : (clearAllCounters s).settings = s.settings :=
  (congrArg State.settings (clearAllCounters_frame s) :)
@[simp] theorem clearAllCounters_tables (s : State) : (clearAllCounters s).tables = s.tables :=
  (congrArg State.tables (clearAllCounters_frame s) :)
@[simp] theorem clearAllCounters_recognizer (s : State) : (clearAllCounters s).recognizer = s.recognizer :=
  (congrArg State.recognizer (clearAllCounters_frame s) :)
@[simp] theorem clearAllCounters_focusUnit (s : State) : (clearAllCounters s).focusUnit = s.focusUnit :=
  (congrArg State.focusUnit (clearAllCounters_frame s) :)
@[simp] theorem clearAllCounters_pointer (s : State) : (clearAllCounters s).pointer = s.pointer :=
  (congrArg State.pointer (clearAllCounters_frame s) :)
@[simp] theorem clearAllCounters_schedule (s : State) : (clearAllCounters s).schedule = s.schedule :=
  (congrArg State.schedule (clearAllCounters_frame s) :)
@[simp] theorem clearAllCounters_engine (s : State) : (clearAllCounters s).engine = s.engine :=
  (congrArg State.engine (clearAllCounters_frame s) :)
@[simp] theorem clearAllCounters_journal (s : State) : (clearAllCounters s).journal = s.journal :=
  (congrArg State.journal (clearAllCounters_frame s) :)
@[simp] theorem clearAllCounters_image (s : State) : (clearAllCounters s).image = s.image :=
  (congrArg State.image (clearAllCounters_frame s) :)

end Sys2Proof.Machine
end

