-- ==== Sys2Proof/Laws/Ops.lean ====
section
/-! SUPPORT. What each shared operation does: sets of computers, offered reports, snapshots, releases, buttons, wake
requests, the engine's notices and source requests, each said once. -/

namespace Sys2Proof.Machine

/-! Sets of computers. -/

@[simp] theorem inSet_zero (k : Computer) : inSet 0#8 k = false := by simp [inSet]

theorem inSet_single (k j : Computer) : inSet (single k) j = decide (j = k) := by
  simp only [inSet, single, BitVec.getLsbD_twoPow]
  have := j.isLt
  by_cases h : j = k
  · subst h; simp
  · have : k.val ≠ j.val := fun e => h (Fin.ext e.symm)
    simp [h, this]

@[simp] theorem inSet_and (a b : ComputerSet) (k : Computer) : inSet (a &&& b) k = (inSet a k && inSet b k) := by
  simp [inSet]

@[simp] theorem inSet_or (a b : ComputerSet) (k : Computer) : inSet (a ||| b) k = (inSet a k || inSet b k) := by
  simp [inSet]

@[simp] theorem inSet_without (a : ComputerSet) (k j : Computer) :
    inSet (without a k) j = (inSet a j && decide (j ≠ k)) := by
  have h := inSet_single k j
  have hj := j.isLt
  simp only [inSet, BitVec.getLsbD_eq_getElem hj] at h
  simp [inSet, without, h, hj]

@[simp] theorem inSet_including (a : ComputerSet) (k j : Computer) :
    inSet (including a k) j = (inSet a j || decide (j = k)) := by
  have h := inSet_single k j
  simp only [inSet, BitVec.getLsbD_eq_getElem j.isLt] at h
  simp [inSet, including, h]

/-- Two sets with the same members are one. -/
theorem set_ext {a b : ComputerSet} (h : ∀ k, inSet a k = inSet b k) : a = b :=
  BitVec.eq_of_getLsbD_eq (fun i hi => h ⟨i, hi⟩)

/-- Every one of the eight names is in their list. -/
theorem mem_eight (k : Fin 8) : k ∈ eight := by revert k; decide

/-- The lowest-numbered name that passes a test. -/
theorem find?_eight {p : Fin 8 → Bool} {i : Fin 8} :
    eight.find? p = some i ↔ p i = true ∧ ∀ j, j < i → p j = false := by
  constructor
  · intro h
    obtain ⟨hp, as, bs, he, ha⟩ := List.find?_eq_some_iff_append.mp h
    refine ⟨hp, fun j hj => ?_⟩
    have sorted : List.Pairwise (· < ·) eight := by decide
    have hm : j ∈ as ++ i :: bs := he ▸ mem_eight j
    rw [he, List.pairwise_append] at sorted
    rcases List.mem_append.mp hm with m | m
    · simpa using ha j m
    · rcases List.mem_cons.mp m with m | m
      · subst m; exact absurd hj (lt_irrefl _)
      · exact absurd ((List.pairwise_cons.mp sorted.2.1).1 j m) (not_lt.mpr (le_of_lt hj))
  · rintro ⟨hp, hl⟩
    refine List.find?_eq_some_iff_append.mpr ⟨hp, eight.take i.val, eight.drop (i.val + 1), ?_, fun a ha => ?_⟩
    · clear hp hl; revert i; decide
    · have : ∀ i : Fin 8, ∀ a ∈ eight.take i.val, a < i := by decide
      simp [hl a (this i a ha)]

theorem find?_eight_none {p : Fin 8 → Bool} : eight.find? p = none ↔ ∀ j, p j = false := by
  simp [List.find?_eq_none, mem_eight]

theorem inSet_foldl (p : Computer → Bool) (l : List Computer) (a : ComputerSet) (k : Computer) :
    inSet (l.foldl (fun ks j => if p j then including ks j else ks) a) k = (inSet a k || (decide (k ∈ l) && p k)) := by
  induction l generalizing a with
  | nil => simp
  | cons x xs ih =>
    rw [List.foldl_cons, ih]
    by_cases hx : k = x
    · subst hx
      by_cases hp : p k = true <;> simp [hp]
    · by_cases hp : p x = true <;> simp [hp, hx]

@[simp] theorem inSet_setOf (p : Computer → Bool) (k : Computer) : inSet (setOf p) k = p k := by
  simp [setOf, inSet_foldl, mem_eight]

theorem without_of_not (a : ComputerSet) (k : Computer) (h : inSet a k = false) : without a k = a :=
  set_ext (fun j => by by_cases e : j = k <;> simp_all)

/-! Folds over the eight names. -/

/-- Operations for the members of a set, each on its own port, leave the other ports alone. -/
theorem port_foldl_of_not_member (f : Computer → State → State) (hf : ∀ k t j, j ≠ k → (f k t).port j = t.port j)
    (ks : ComputerSet) (j : Computer) (h : inSet ks j = false) (l : List Computer) (s : State) :
    (l.foldl (fun t k => if inSet ks k then f k t else t) s).port j = s.port j := by
  induction l generalizing s with
  | nil => rfl
  | cons x xs ih =>
    rw [List.foldl_cons, ih]
    split
    · next hx => exact hf x s j (fun e => by subst e; simp_all)
    · rfl

/-! Reports offered to a port. -/

/-- An offered report changes only the queue, the RESYNC and the last pair of a port. -/
theorem offerTo_frame (r : Report) (p : Port) :
    offerTo r p =
      { p with
        queue := (offerTo r p).queue, resync := (offerTo r p).resync, lastPair := (offerTo r p).lastPair } := by
  unfold offerTo enqueue notePair
  repeat' split
  all_goals rfl

/-- A port that is not queueable discards a report. -/
theorem offerTo_of_not_queueable (r : Report) (p : Port) (h : p.link.queueable = false) : offerTo r p = p := by
  simp [offerTo, h]

theorem port_offer (k : Computer) (r : Report) (s : State) (j : Computer) :
    (offer k r s).port j = if j = k then offerTo r (s.port k) else s.port j := port_onPort _ _ _ _

/-- What port j's record can be after reports have been offered to it. -/
def OnlyQueued (p q : Port) : Prop := q = { p with queue := q.queue, resync := q.resync, lastPair := q.lastPair }

theorem OnlyQueued.refl (p : Port) : OnlyQueued p p := rfl

theorem OnlyQueued.trans {p q r : Port} (h : OnlyQueued p q) (g : OnlyQueued q r) : OnlyQueued p r := by
  unfold OnlyQueued at *
  rw [g, h]

theorem OnlyQueued.link {p q : Port} (h : OnlyQueued p q) : q.link = p.link := by
  unfold OnlyQueued at h; rw [h]

theorem onlyQueued_offer (k : Computer) (r : Report) (s : State) (j : Computer) :
    OnlyQueued (s.port j) ((offer k r s).port j) := by
  rw [port_offer]
  split
  · next h => subst h; exact offerTo_frame _ _
  · exact OnlyQueued.refl _

/-- A fold whose every step only queues reports only queues reports. -/
theorem onlyQueued_foldl {α : Type} (f : State → α → State) (h : ∀ t x j, OnlyQueued (t.port j) ((f t x).port j))
    (l : List α) (s : State) (j : Computer) : OnlyQueued (s.port j) ((l.foldl f s).port j) := by
  induction l generalizing s with
  | nil => exact OnlyQueued.refl _
  | cons x xs ih => exact (h s x j).trans (ih _)

/-! Snapshots. -/

theorem onlyQueued_refreshSnapshot (k : Computer) (s : State) (j : Computer) :
    OnlyQueued (s.port j) ((refreshSnapshot k s).port j) := by
  unfold refreshSnapshot
  split
  · exact OnlyQueued.refl _
  · exact onlyQueued_offer _ _ _ _

theorem onlyQueued_refreshSnapshots (ks : ComputerSet) (s : State) (j : Computer) :
    OnlyQueued (s.port j) ((refreshSnapshots ks s).port j) :=
  onlyQueued_foldl _ (fun t x j => by
    split
    · exact onlyQueued_refreshSnapshot _ _ _
    · exact OnlyQueued.refl _) _ _ _

/-- Of the key ownership unit a snapshot changes only the last snapshots. -/
theorem refreshSnapshot_keys (k : Computer) (s : State) :
    (refreshSnapshot k s).keys = { s.keys with snapshots := (refreshSnapshot k s).keys.snapshots } := by
  unfold refreshSnapshot
  split <;> simp

theorem refreshSnapshots_keys (ks : ComputerSet) (s : State) :
    (refreshSnapshots ks s).keys = { s.keys with snapshots := (refreshSnapshots ks s).keys.snapshots } := by
  have h (π : Keys → Keys) (hπ : ∀ (x : Keys) v, π { x with snapshots := v } = π x) :
      π (refreshSnapshots ks s).keys = π s.keys :=
    foldl_keeps (fun t => π t.keys) _ (fun t x => by
      split
      · rw [refreshSnapshot_keys, hπ]
      · rfl) _ _
  have := h (fun x => { x with snapshots := Vector.replicate 8 emptySnapshot }) (fun _ _ => rfl)
  cases hk : (refreshSnapshots ks s).keys
  rw [hk] at this
  cases hs : s.keys
  rw [hs] at this
  simp_all

@[simp] theorem refreshSnapshots_held (ks : ComputerSet) (s : State) :
    (refreshSnapshots ks s).keys.held = s.keys.held := by rw [refreshSnapshots_keys]
@[simp] theorem refreshSnapshots_buttons (ks : ComputerSet) (s : State) :
    (refreshSnapshots ks s).keys.buttons = s.keys.buttons := by rw [refreshSnapshots_keys]
@[simp] theorem refreshSnapshots_overflow (ks : ComputerSet) (s : State) :
    (refreshSnapshots ks s).keys.overflow = s.keys.overflow := by rw [refreshSnapshots_keys]
@[simp] theorem refreshSnapshot_held (k : Computer) (s : State) :
    (refreshSnapshot k s).keys.held = s.keys.held := by rw [refreshSnapshot_keys]
@[simp] theorem refreshSnapshots_snapshot (ks : ComputerSet) (s : State) (k : Computer) :
    (refreshSnapshots ks s).snapshot k = s.snapshot k := by simp [State.snapshot]
@[simp] theorem refreshSnapshot_snapshot (k : Computer) (s : State) (j : Computer) :
    (refreshSnapshot k s).snapshot j = s.snapshot j := by simp [State.snapshot]
@[simp] theorem refreshSnapshots_buttonsOf (ks : ComputerSet) (s : State) (k : Computer) :
    (refreshSnapshots ks s).buttonsOf k = s.buttonsOf k := by simp [State.buttonsOf]

theorem refreshSnapshot_snapshots (k : Computer) (s : State) (j : Computer) :
    (refreshSnapshot k s).keys.snapshots.get j = if j = k then s.snapshot k else s.keys.snapshots.get j := by
  unfold refreshSnapshot
  split
  · next h =>
    split
    · next e => rw [e, h]
    · rfl
  · rw [offer_keys]; exact get_set _ _ _ _

/-- A computer's last snapshot after snapshots have been made: the table's for those of the set, as before for the
others (R15). -/
theorem refreshSnapshots_snapshots (ks : ComputerSet) (s : State) (j : Computer) :
    (refreshSnapshots ks s).keys.snapshots.get j = if inSet ks j then s.snapshot j else s.keys.snapshots.get j := by
  have h (l : List Computer) (t : State) (e : t.keys.held = s.keys.held) :
      (l.foldl (fun t k => if inSet ks k then refreshSnapshot k t else t) t).keys.snapshots.get j =
        if inSet ks j = true ∧ j ∈ l then s.snapshot j else t.keys.snapshots.get j := by
    induction l generalizing t with
    | nil => simp
    | cons x xs ih =>
      rw [List.foldl_cons]
      rw [ih _ (by split <;> simp [e])]
      have es : ∀ k, t.snapshot k = s.snapshot k := fun k => by simp [State.snapshot, e]
      by_cases hj : inSet ks j = true <;> by_cases hx : inSet ks x = true <;> by_cases hm : j ∈ xs <;>
        by_cases hjx : j = x <;> simp_all [refreshSnapshot_snapshots]
  have := h eight s rfl
  simpa [refreshSnapshots, mem_eight] using this

theorem port_refreshSnapshot_of_ne (k : Computer) (s : State) (j : Computer) (h : j ≠ k) :
    (refreshSnapshot k s).port j = s.port j := by
  unfold refreshSnapshot
  split
  · rfl
  · rw [port_offer, if_neg h]; rfl

/-- Snapshots of other computers leave a port alone. -/
theorem port_refreshSnapshots_of_not_member (ks : ComputerSet) (s : State) (j : Computer) (h : inSet ks j = false) :
    (refreshSnapshots ks s).port j = s.port j :=
  port_foldl_of_not_member _ port_refreshSnapshot_of_ne ks j h _ _

/-! Releases. -/

theorem onlyQueued_releaseEntries (p : HeldKey → Bool) (s : State) (j : Computer) :
    OnlyQueued (s.port j) ((releaseEntries p s).port j) := onlyQueued_refreshSnapshots _ _ _

@[simp] theorem releaseEntries_held (p : HeldKey → Bool) (s : State) :
    (releaseEntries p s).keys.held = s.keys.held.filter (fun e => !p e) := by simp [releaseEntries]
@[simp] theorem releaseEntries_buttons (p : HeldKey → Bool) (s : State) :
    (releaseEntries p s).keys.buttons = s.keys.buttons := by simp [releaseEntries]
@[simp] theorem releaseEntries_overflow (p : HeldKey → Bool) (s : State) :
    (releaseEntries p s).keys.overflow = s.keys.overflow := by simp [releaseEntries]

/-- The owners of entries are those of one of them. -/
theorem inSet_ownersOf (es : List HeldKey) (k : Computer) :
    inSet (ownersOf es) k = true ↔ ∃ e ∈ es, inSet e.owners k = true := by
  have h (l : List HeldKey) (a : ComputerSet) :
      inSet (l.foldl (fun ks e => ks ||| e.owners) a) k = true ↔
        inSet a k = true ∨ ∃ e ∈ l, inSet e.owners k = true := by
    induction l generalizing a with
    | nil => simp
    | cons x xs ih => simp [ih, or_assoc]
  simpa [ownersOf] using h es 0#8

/-! Buttons. -/

theorem onlyQueued_offerOwedTo (ks : ComputerSet) (s : State) (j : Computer) :
    OnlyQueued (s.port j) ((offerOwedTo ks s).port j) :=
  onlyQueued_foldl _ (fun t x j => by
    split
    · exact onlyQueued_offer _ _ _ _
    · exact OnlyQueued.refl _) _ _ _

theorem port_offerOwed_of_ne (k : Computer) (s : State) (j : Computer) (h : j ≠ k) :
    (offerOwed k s).port j = s.port j := by
  unfold offerOwed
  rw [port_offer, if_neg h]

/-- Owed reports to other computers leave a port alone. -/
theorem port_offerOwedTo_of_not_member (ks : ComputerSet) (s : State) (j : Computer) (h : inSet ks j = false) :
    (offerOwedTo ks s).port j = s.port j :=
  port_foldl_of_not_member _ port_offerOwed_of_ne ks j h _ _

theorem onlyQueued_releaseButtons (s : State) (j : Computer) :
    OnlyQueued (s.port j) ((releaseButtons s).port j) := onlyQueued_offerOwedTo _ _ _

@[simp] theorem releaseButtons_held (s : State) : (releaseButtons s).keys.held = s.keys.held := by
  simp [releaseButtons]
@[simp] theorem releaseButtons_buttons (s : State) : (releaseButtons s).keys.buttons = Vector.replicate 5 none := by
  simp [releaseButtons]
@[simp] theorem releaseButtons_snapshots (s : State) : (releaseButtons s).keys.snapshots = s.keys.snapshots := by
  simp [releaseButtons]
@[simp] theorem releaseButtons_overflow (s : State) : (releaseButtons s).keys.overflow = s.keys.overflow := by
  simp [releaseButtons]

/-! The focus change (R52 to R56). -/

theorem onlyQueued_carryModifiers (previous : Option Computer) (k : Computer) (s : State) (j : Computer) :
    OnlyQueued (s.port j) ((carryModifiers previous k s).port j) := by
  unfold carryModifiers
  repeat' split
  · exact OnlyQueued.refl _
  · exact onlyQueued_refreshSnapshots _ _ _
  · exact OnlyQueued.refl _

/-! Result slots and the engine's notices. -/

theorem port_writeSlot (k : Computer) (r : ResultSlot) (s : State) (j : Computer) :
    (writeSlot k r s).port j =
      if j = k ∧ s.isManagement k = true then { s.port k with slot := some r } else s.port j := by
  unfold writeSlot
  by_cases h : s.isManagement k = true <;> simp [h, port_onPort]

/-- The issuing port's slot of a deferred command holds its final result (R172, R173). -/
theorem port_completeDeferred (d : Deferred) (result : Result) (s : State) (j : Computer) :
    (completeDeferred d result s).port j =
      if j = d.port ∧ s.isManagement d.port = true then
        { s.port d.port with
          slot := some { tag := d.tag, command := deferredCode d.command, result := result, data := [] } }
      else s.port j := port_writeSlot _ _ _ _

@[simp] theorem completeDeferred_engine (d : Deferred) (result : Result) (s : State) :
    (completeDeferred d result s).engine = none := rfl

/-- What port j's record can be after a result has been written. -/
def OnlySlot (p q : Port) : Prop := q = { p with slot := q.slot }

theorem OnlySlot.refl (p : Port) : OnlySlot p p := rfl

theorem OnlySlot.trans {p q r : Port} (h : OnlySlot p q) (g : OnlySlot q r) : OnlySlot p r := by
  unfold OnlySlot at *
  rw [g, h]

theorem onlySlot_writeSlot (k : Computer) (r : ResultSlot) (s : State) (j : Computer) :
    OnlySlot (s.port j) ((writeSlot k r s).port j) := by
  rw [port_writeSlot]
  split
  · next h => rw [h.1]; rfl
  · rfl

theorem onlySlot_completeDeferred (d : Deferred) (result : Result) (s : State) (j : Computer) :
    OnlySlot (s.port j) ((completeDeferred d result s).port j) := onlySlot_writeSlot _ _ _ _

theorem onlySlot_engineCommit (sc : Screen) (src : Source) (s : State) (j : Computer) :
    OnlySlot (s.port j) ((engineCommit sc src s).port j) := by
  unfold engineCommit
  dsimp only
  repeat' split
  all_goals first
    | exact OnlySlot.refl _
    | exact onlySlot_completeDeferred _ _ _ _

theorem onlySlot_engineWakeEnded (k : Computer) (outcome : Result) (s : State) (j : Computer) :
    OnlySlot (s.port j) ((engineWakeEnded k outcome s).port j) := by
  unfold engineWakeEnded
  repeat' split
  all_goals first
    | exact OnlySlot.refl _
    | exact onlySlot_completeDeferred _ _ _ _

/-- An IDLE engine takes no notice. -/
theorem engineCommit_idle (sc : Screen) (src : Source) (s : State) (h : s.engine = none) : engineCommit sc src s = s := by
  simp [engineCommit, h]

theorem engineWakeEnded_idle (k : Computer) (outcome : Result) (s : State) (h : s.engine = none) :
    engineWakeEnded k outcome s = s := by
  simp [engineWakeEnded, h]

theorem engineWriteEnded_idle (outcome : WriteOutcome) (s : State) (h : s.engine = none) :
    engineWriteEnded outcome s = s := by
  simp [engineWriteEnded, h]

/-- A screen without a pending source has nothing to commit. -/
theorem committed_of_no_pending (r : ScreenRecord) (h : r.pending = none) :
    ({ r with committed := (none : Option Source).getD r.committed, pending := none } : ScreenRecord) = r := by
  cases r; simp_all

/-- A pending source is committed at an IDLE engine (R139, R141, R142). -/
theorem commitPending_idle (sc : Screen) (s : State) (h : s.engine = none) :
    commitPending sc s =
      s.setScreen sc
        { s.screen sc with committed := (s.screen sc).pending.getD (s.screen sc).committed, pending := none } := by
  unfold commitPending
  cases hp : (s.screen sc).pending with
  | none =>
    rw [committed_of_no_pending _ hp, State.setScreen_screen_self]
  | some src => simp only [Option.getD_some]; rw [engineCommit_idle _ _ _ (by simpa using h)]

/-- What a commit of a pending source leaves of every screen (R139, R141, R142). -/
theorem screen_commitPending (sc : Screen) (s : State) (t : Screen) :
    (commitPending sc s).screen t =
      if t = sc then
        { s.screen sc with committed := (s.screen sc).pending.getD (s.screen sc).committed, pending := none }
      else s.screen t := by
  have hv (src : Source) (u : State) : (engineCommit sc src u).screen t = u.screen t := by simp [State.screen]
  unfold commitPending
  cases hp : (s.screen sc).pending with
  | none =>
    dsimp only
    split
    · next e =>
      subst e
      exact (committed_of_no_pending _ hp).symm
    · rfl
  | some src => simp only [hv, State.screen_setScreen, Option.getD_some]

/-! Source requests (R140). -/

theorem screen_requestSource (sc : Screen) (src : Source) (s : State) (t : Screen) :
    (requestSource sc src s).screen t =
      if t = sc then
        (match requestOutcome s sc src with
         | .noChange => s.screen sc
         | .pending => { s.screen sc with pending := some src }
         | .committed => { s.screen sc with committed := src })
      else s.screen t := by
  have hv (u : State) : (engineCommit sc src u).screen t = u.screen t := by simp [State.screen]
  unfold requestSource
  cases requestOutcome s sc src <;> simp +contextual [State.screen_setScreen, hv]

/-! Taking a command (R169). -/

/-- A command report that reaches the engine and passes R169's checks is carried out. -/
theorem takeCommand_of_admitted (c : CommandSpec) (body : State → Reply) (r : CommandReport) (s : State)
    (h : reachesEngine r s = true) (g : refusalOf c r s = none) : takeCommand c body r s = finish c r (body s) := by
  simp [takeCommand, h, g]

theorem takeCommand_of_refused (c : CommandSpec) (body : State → Reply) (r : CommandReport) (s : State) (x : Result)
    (h : reachesEngine r s = true) (g : refusalOf c r s = some x) :
    takeCommand c body r s = finish c r { state := s, result := x } := by
  simp [takeCommand, h, g]

theorem takeCommand_of_not_reached (c : CommandSpec) (body : State → Reply) (r : CommandReport) (s : State)
    (h : reachesEngine r s = false) : takeCommand c body r s = dropReport r s := by
  simp [takeCommand, h]

/-! What comes due at an advance. -/

theorem insertRanked_perm (x : Nat × Expiry) (l : List (Nat × Expiry)) : (insertRanked x l).Perm (x :: l) := by
  induction l with
  | nil => exact .refl _
  | cons y rest ih =>
    unfold insertRanked
    split
    · exact .refl _
    · exact (ih.cons y).trans (.swap x y rest)

theorem withRanks_map_snd (use : Nat) (xs : List Expiry) : (withRanks use xs).map Prod.snd = xs := by
  induction xs generalizing use with
  | nil => rfl
  | cons x rest ih => simp [withRanks, ih]

theorem foldr_insertRanked_perm (l : List (Nat × Expiry)) : (l.foldr insertRanked []).Perm l := by
  induction l with
  | nil => exact .refl _
  | cons x rest ih => exact (insertRanked_perm x _).trans (ih.cons x)

/-- The free order takes each expiry once. -/
theorem inFreeOrder_perm (use : Nat) (xs : List Expiry) : (inFreeOrder use xs).Perm xs := by
  simpa only [inFreeOrder, withRanks_map_snd] using (foldr_insertRanked_perm (withRanks use xs)).map Prod.snd

/-- What is due is taken, each expiry once, in some order; nothing but the count of free uses changes beside. -/
theorem takeDue_cases (s : State) :
    ∃ order : List Expiry, order.Perm (dueNow s) ∧
      takeDue s = order.foldl takeExpiry { s with freeUses := s.freeUses + (dueNow s).length } :=
  ⟨_, inFreeOrder_perm _ _, rfl⟩

theorem takeDue_of_none {s : State} (h : dueNow s = []) : takeDue s = s := by
  obtain ⟨order, hp, ht⟩ := takeDue_cases s
  rw [h] at hp
  simp [ht, hp.eq_nil, h]

theorem takeDue_of_one {s : State} {x : Expiry} (h : dueNow s = [x]) :
    takeDue s = takeExpiry { s with freeUses := s.freeUses + 1 } x := by
  obtain ⟨order, hp, ht⟩ := takeDue_cases s
  rw [h] at hp
  simp [ht, List.perm_singleton.mp hp, h]

/-- What every expiry keeps, and the count of free uses does not touch, is kept by the advance's takings. -/
theorem takeDue_keeps (P : State → Prop) (free : ∀ (s : State) (n : Nat), P s → P { s with freeUses := n })
    (keep : ∀ (s : State) (x : Expiry), P s → P (takeExpiry s x)) (s : State) (h : P s) : P (takeDue s) := by
  obtain ⟨order, -, ht⟩ := takeDue_cases s
  rw [ht]
  generalize hu : ({ s with freeUses := s.freeUses + (dueNow s).length } : State) = u
  have hP : P u := hu ▸ free _ _ h
  clear hu ht
  induction order generalizing u with
  | nil => exact hP
  | cons x rest ih => exact ih _ (keep u x hP)

end Sys2Proof.Machine
end

