-- ==== Sys2Proof/Laws/Bodies.lean ====
section
/-! SUPPORT. What carrying out a command report leaves alone: one lemma for each command's body and each field of the state
that it never changes, and the way from a body to the whole command (R168, R169). -/

namespace Sys2Proof.Machine

/-- All that refuseArgument can change. -/
@[simp] theorem refuseArgument_frame (s : State) :
    (refuseArgument s).state = s := rfl

/-- All that answerRead can change. -/
@[simp] theorem answerRead_frame (data : Option (List Byte)) (s : State) :
    (answerRead data s).state = s := by
  apply State.eq_of_fields
  all_goals first
    | with_reducible rfl
    | (unfold answerRead; split <;> simp)

/-- All that readSlot can change. -/
@[simp] theorem readSlot_frame (bytes : Option (List Byte)) (s : State) :
    (readSlot bytes s).state = s := by
  apply State.eq_of_fields
  all_goals first
    | with_reducible rfl
    | (unfold readSlot; split <;> simp)

/-- All that answerSearch can change. -/
@[simp] theorem answerSearch_frame (found : Option Nat) (s : State) :
    (answerSearch found s).state = s := by
  apply State.eq_of_fields
  all_goals first
    | with_reducible rfl
    | (unfold answerSearch; split <;> simp)

/-- All that readDeskBody can change. -/
@[simp] theorem readDeskBody_frame (s : State) :
    (readDeskBody s).state = s := by
  apply State.eq_of_fields
  all_goals first
    | with_reducible rfl
    | (unfold readDeskBody
       all_goals simp)

/-- All that readPortBody can change. -/
@[simp] theorem readPortBody_frame (r : CommandReport) (s : State) :
    (readPortBody r s).state = s := by
  apply State.eq_of_fields
  all_goals first
    | with_reducible rfl
    | (unfold readPortBody
       all_goals simp)

/-- All that readScreenBody can change. -/
@[simp] theorem readScreenBody_frame (r : CommandReport) (s : State) :
    (readScreenBody r s).state = s := by
  apply State.eq_of_fields
  all_goals first
    | with_reducible rfl
    | (unfold readScreenBody
       all_goals simp)

/-- All that readInputBody can change. -/
@[simp] theorem readInputBody_frame (r : CommandReport) (s : State) :
    (readInputBody r s).state = s := by
  apply State.eq_of_fields
  all_goals first
    | with_reducible rfl
    | (unfold readInputBody
       all_goals simp)

/-- All that readShareBody can change. -/
@[simp] theorem readShareBody_frame (s : State) :
    (readShareBody s).state = s := by
  apply State.eq_of_fields
  all_goals first
    | with_reducible rfl
    | (unfold readShareBody
       all_goals simp)

/-- All that readJournalBody can change. -/
theorem readJournalBody_frame (s : State) :
    (readJournalBody s).state = { s with journal := ((readJournalBody s).state).journal } := by
  apply State.eq_of_fields
  all_goals first
    | with_reducible rfl
    | (unfold readJournalBody; dsimp only)
@[simp] theorem readJournalBody_pending (s : State) : ((readJournalBody s).state).pending = s.pending :=
  (congrArg State.pending (readJournalBody_frame s) :)
@[simp] theorem readJournalBody_sent (s : State) : ((readJournalBody s).state).sent = s.sent :=
  (congrArg State.sent (readJournalBody_frame s) :)
@[simp] theorem readJournalBody_freeUses (s : State) : ((readJournalBody s).state).freeUses = s.freeUses :=
  (congrArg State.freeUses (readJournalBody_frame s) :)
@[simp] theorem readJournalBody_clock (s : State) : ((readJournalBody s).state).clock = s.clock :=
  (congrArg State.clock (readJournalBody_frame s) :)
@[simp] theorem readJournalBody_settings (s : State) : ((readJournalBody s).state).settings = s.settings :=
  (congrArg State.settings (readJournalBody_frame s) :)
@[simp] theorem readJournalBody_tables (s : State) : ((readJournalBody s).state).tables = s.tables :=
  (congrArg State.tables (readJournalBody_frame s) :)
@[simp] theorem readJournalBody_console (s : State) : ((readJournalBody s).state).console = s.console :=
  (congrArg State.console (readJournalBody_frame s) :)
@[simp] theorem readJournalBody_keys (s : State) : ((readJournalBody s).state).keys = s.keys :=
  (congrArg State.keys (readJournalBody_frame s) :)
@[simp] theorem readJournalBody_recognizer (s : State) : ((readJournalBody s).state).recognizer = s.recognizer :=
  (congrArg State.recognizer (readJournalBody_frame s) :)
@[simp] theorem readJournalBody_focusUnit (s : State) : ((readJournalBody s).state).focusUnit = s.focusUnit :=
  (congrArg State.focusUnit (readJournalBody_frame s) :)
@[simp] theorem readJournalBody_pointer (s : State) : ((readJournalBody s).state).pointer = s.pointer :=
  (congrArg State.pointer (readJournalBody_frame s) :)
@[simp] theorem readJournalBody_ports (s : State) : ((readJournalBody s).state).ports = s.ports :=
  (congrArg State.ports (readJournalBody_frame s) :)
@[simp] theorem readJournalBody_video (s : State) : ((readJournalBody s).state).video = s.video :=
  (congrArg State.video (readJournalBody_frame s) :)
@[simp] theorem readJournalBody_schedule (s : State) : ((readJournalBody s).state).schedule = s.schedule :=
  (congrArg State.schedule (readJournalBody_frame s) :)
@[simp] theorem readJournalBody_engine (s : State) : ((readJournalBody s).state).engine = s.engine :=
  (congrArg State.engine (readJournalBody_frame s) :)
@[simp] theorem readJournalBody_image (s : State) : ((readJournalBody s).state).image = s.image :=
  (congrArg State.image (readJournalBody_frame s) :)
@[simp] theorem readJournalBody_foreign (s : State) : ((readJournalBody s).state).foreign = s.foreign :=
  (congrArg State.foreign (readJournalBody_frame s) :)
@[simp] theorem readJournalBody_mismatches (s : State) : ((readJournalBody s).state).mismatches = s.mismatches :=
  (congrArg State.mismatches (readJournalBody_frame s) :)

/-- All that modeBody can change. -/
theorem modeBody_frame (change : ModeWord → ModeWord → ModeWord) (r : CommandReport) (s : State) :
    (modeBody change r s).state = { s with tables := ((modeBody change r s).state).tables } := by
  apply State.eq_of_fields
  all_goals first
    | with_reducible rfl
    | (unfold modeBody; dsimp only; repeat' split
       all_goals simp)
@[simp] theorem modeBody_pending (change : ModeWord → ModeWord → ModeWord) (r : CommandReport) (s : State) : ((modeBody change r s).state).pending = s.pending :=
  (congrArg State.pending (modeBody_frame change r s) :)
@[simp] theorem modeBody_sent (change : ModeWord → ModeWord → ModeWord) (r : CommandReport) (s : State) : ((modeBody change r s).state).sent = s.sent :=
  (congrArg State.sent (modeBody_frame change r s) :)
@[simp] theorem modeBody_freeUses (change : ModeWord → ModeWord → ModeWord) (r : CommandReport) (s : State) : ((modeBody change r s).state).freeUses = s.freeUses :=
  (congrArg State.freeUses (modeBody_frame change r s) :)
@[simp] theorem modeBody_clock (change : ModeWord → ModeWord → ModeWord) (r : CommandReport) (s : State) : ((modeBody change r s).state).clock = s.clock :=
  (congrArg State.clock (modeBody_frame change r s) :)
@[simp] theorem modeBody_settings (change : ModeWord → ModeWord → ModeWord) (r : CommandReport) (s : State) : ((modeBody change r s).state).settings = s.settings :=
  (congrArg State.settings (modeBody_frame change r s) :)
@[simp] theorem modeBody_console (change : ModeWord → ModeWord → ModeWord) (r : CommandReport) (s : State) : ((modeBody change r s).state).console = s.console :=
  (congrArg State.console (modeBody_frame change r s) :)
@[simp] theorem modeBody_keys (change : ModeWord → ModeWord → ModeWord) (r : CommandReport) (s : State) : ((modeBody change r s).state).keys = s.keys :=
  (congrArg State.keys (modeBody_frame change r s) :)
@[simp] theorem modeBody_recognizer (change : ModeWord → ModeWord → ModeWord) (r : CommandReport) (s : State) : ((modeBody change r s).state).recognizer = s.recognizer :=
  (congrArg State.recognizer (modeBody_frame change r s) :)
@[simp] theorem modeBody_focusUnit (change : ModeWord → ModeWord → ModeWord) (r : CommandReport) (s : State) : ((modeBody change r s).state).focusUnit = s.focusUnit :=
  (congrArg State.focusUnit (modeBody_frame change r s) :)
@[simp] theorem modeBody_pointer (change : ModeWord → ModeWord → ModeWord) (r : CommandReport) (s : State) : ((modeBody change r s).state).pointer = s.pointer :=
  (congrArg State.pointer (modeBody_frame change r s) :)
@[simp] theorem modeBody_ports (change : ModeWord → ModeWord → ModeWord) (r : CommandReport) (s : State) : ((modeBody change r s).state).ports = s.ports :=
  (congrArg State.ports (modeBody_frame change r s) :)
@[simp] theorem modeBody_video (change : ModeWord → ModeWord → ModeWord) (r : CommandReport) (s : State) : ((modeBody change r s).state).video = s.video :=
  (congrArg State.video (modeBody_frame change r s) :)
@[simp] theorem modeBody_schedule (change : ModeWord → ModeWord → ModeWord) (r : CommandReport) (s : State) : ((modeBody change r s).state).schedule = s.schedule :=
  (congrArg State.schedule (modeBody_frame change r s) :)
@[simp] theorem modeBody_engine (change : ModeWord → ModeWord → ModeWord) (r : CommandReport) (s : State) : ((modeBody change r s).state).engine = s.engine :=
  (congrArg State.engine (modeBody_frame change r s) :)
@[simp] theorem modeBody_journal (change : ModeWord → ModeWord → ModeWord) (r : CommandReport) (s : State) : ((modeBody change r s).state).journal = s.journal :=
  (congrArg State.journal (modeBody_frame change r s) :)
@[simp] theorem modeBody_image (change : ModeWord → ModeWord → ModeWord) (r : CommandReport) (s : State) : ((modeBody change r s).state).image = s.image :=
  (congrArg State.image (modeBody_frame change r s) :)
@[simp] theorem modeBody_foreign (change : ModeWord → ModeWord → ModeWord) (r : CommandReport) (s : State) : ((modeBody change r s).state).foreign = s.foreign :=
  (congrArg State.foreign (modeBody_frame change r s) :)
@[simp] theorem modeBody_mismatches (change : ModeWord → ModeWord → ModeWord) (r : CommandReport) (s : State) : ((modeBody change r s).state).mismatches = s.mismatches :=
  (congrArg State.mismatches (modeBody_frame change r s) :)

/-- All that modeSettingsBody can change. -/
theorem modeSettingsBody_frame (r : CommandReport) (s : State) :
    (modeSettingsBody r s).state = { s with keys := ((modeSettingsBody r s).state).keys, ports := ((modeSettingsBody r s).state).ports, tables := ((modeSettingsBody r s).state).tables, recognizer := ((modeSettingsBody r s).state).recognizer } := by
  apply State.eq_of_fields
  all_goals first
    | with_reducible rfl
    | (unfold modeSettingsBody; dsimp only; repeat' split
       all_goals simp)
@[simp] theorem modeSettingsBody_pending (r : CommandReport) (s : State) : ((modeSettingsBody r s).state).pending = s.pending :=
  (congrArg State.pending (modeSettingsBody_frame r s) :)
@[simp] theorem modeSettingsBody_sent (r : CommandReport) (s : State) : ((modeSettingsBody r s).state).sent = s.sent :=
  (congrArg State.sent (modeSettingsBody_frame r s) :)
@[simp] theorem modeSettingsBody_freeUses (r : CommandReport) (s : State) : ((modeSettingsBody r s).state).freeUses = s.freeUses :=
  (congrArg State.freeUses (modeSettingsBody_frame r s) :)
@[simp] theorem modeSettingsBody_clock (r : CommandReport) (s : State) : ((modeSettingsBody r s).state).clock = s.clock :=
  (congrArg State.clock (modeSettingsBody_frame r s) :)
@[simp] theorem modeSettingsBody_settings (r : CommandReport) (s : State) : ((modeSettingsBody r s).state).settings = s.settings :=
  (congrArg State.settings (modeSettingsBody_frame r s) :)
@[simp] theorem modeSettingsBody_console (r : CommandReport) (s : State) : ((modeSettingsBody r s).state).console = s.console :=
  (congrArg State.console (modeSettingsBody_frame r s) :)
@[simp] theorem modeSettingsBody_focusUnit (r : CommandReport) (s : State) : ((modeSettingsBody r s).state).focusUnit = s.focusUnit :=
  (congrArg State.focusUnit (modeSettingsBody_frame r s) :)
@[simp] theorem modeSettingsBody_pointer (r : CommandReport) (s : State) : ((modeSettingsBody r s).state).pointer = s.pointer :=
  (congrArg State.pointer (modeSettingsBody_frame r s) :)
@[simp] theorem modeSettingsBody_video (r : CommandReport) (s : State) : ((modeSettingsBody r s).state).video = s.video :=
  (congrArg State.video (modeSettingsBody_frame r s) :)
@[simp] theorem modeSettingsBody_schedule (r : CommandReport) (s : State) : ((modeSettingsBody r s).state).schedule = s.schedule :=
  (congrArg State.schedule (modeSettingsBody_frame r s) :)
@[simp] theorem modeSettingsBody_engine (r : CommandReport) (s : State) : ((modeSettingsBody r s).state).engine = s.engine :=
  (congrArg State.engine (modeSettingsBody_frame r s) :)
@[simp] theorem modeSettingsBody_journal (r : CommandReport) (s : State) : ((modeSettingsBody r s).state).journal = s.journal :=
  (congrArg State.journal (modeSettingsBody_frame r s) :)
@[simp] theorem modeSettingsBody_image (r : CommandReport) (s : State) : ((modeSettingsBody r s).state).image = s.image :=
  (congrArg State.image (modeSettingsBody_frame r s) :)
@[simp] theorem modeSettingsBody_foreign (r : CommandReport) (s : State) : ((modeSettingsBody r s).state).foreign = s.foreign :=
  (congrArg State.foreign (modeSettingsBody_frame r s) :)
@[simp] theorem modeSettingsBody_mismatches (r : CommandReport) (s : State) : ((modeSettingsBody r s).state).mismatches = s.mismatches :=
  (congrArg State.mismatches (modeSettingsBody_frame r s) :)

/-- All that readHotkeyBody can change. -/
@[simp] theorem readHotkeyBody_frame (r : CommandReport) (s : State) :
    (readHotkeyBody r s).state = s := by
  apply State.eq_of_fields
  all_goals first
    | with_reducible rfl
    | (unfold readHotkeyBody; repeat' split
       all_goals simp)

/-- All that readWindowBody can change. -/
@[simp] theorem readWindowBody_frame (r : CommandReport) (s : State) :
    (readWindowBody r s).state = s := by
  apply State.eq_of_fields
  all_goals first
    | with_reducible rfl
    | (unfold readWindowBody
       all_goals simp)

/-- All that readPortSettingsBody can change. -/
@[simp] theorem readPortSettingsBody_frame (r : CommandReport) (s : State) :
    (readPortSettingsBody r s).state = s := by
  apply State.eq_of_fields
  all_goals first
    | with_reducible rfl
    | (unfold readPortSettingsBody
       all_goals simp)

/-- All that readStagedBody can change. -/
@[simp] theorem readStagedBody_frame (r : CommandReport) (s : State) :
    (readStagedBody r s).state = s := by
  apply State.eq_of_fields
  all_goals first
    | with_reducible rfl
    | (unfold readStagedBody
       all_goals simp)

/-- All that readCommittedBody can change. -/
@[simp] theorem readCommittedBody_frame (r : CommandReport) (s : State) :
    (readCommittedBody r s).state = s := by
  apply State.eq_of_fields
  all_goals first
    | with_reducible rfl
    | (unfold readCommittedBody
       all_goals simp)

/-- All that readEntryBody can change. -/
@[simp] theorem readEntryBody_frame (r : CommandReport) (s : State) :
    (readEntryBody r s).state = s := by
  apply State.eq_of_fields
  all_goals first
    | with_reducible rfl
    | (unfold readEntryBody; repeat' split
       all_goals simp)

/-- All that searchHotkeyBody can change. -/
@[simp] theorem searchHotkeyBody_frame (r : CommandReport) (s : State) :
    (searchHotkeyBody r s).state = s := by
  apply State.eq_of_fields
  all_goals first
    | with_reducible rfl
    | (unfold searchHotkeyBody; repeat' split
       all_goals simp)

/-- All that searchWindowBody can change. -/
@[simp] theorem searchWindowBody_frame (r : CommandReport) (s : State) :
    (searchWindowBody r s).state = s := by
  apply State.eq_of_fields
  all_goals first
    | with_reducible rfl
    | (unfold searchWindowBody; repeat' split
       all_goals simp)

/-- All that readPresetBody can change. -/
theorem readPresetBody_frame (r : CommandReport) (s : State) :
    (readPresetBody r s).state = { s with freeUses := ((readPresetBody r s).state).freeUses } := by
  apply State.eq_of_fields
  all_goals first
    | with_reducible rfl
    | (unfold readPresetBody; dsimp only
       all_goals simp)
@[simp] theorem readPresetBody_pending (r : CommandReport) (s : State) : ((readPresetBody r s).state).pending = s.pending :=
  (congrArg State.pending (readPresetBody_frame r s) :)
@[simp] theorem readPresetBody_sent (r : CommandReport) (s : State) : ((readPresetBody r s).state).sent = s.sent :=
  (congrArg State.sent (readPresetBody_frame r s) :)
@[simp] theorem readPresetBody_clock (r : CommandReport) (s : State) : ((readPresetBody r s).state).clock = s.clock :=
  (congrArg State.clock (readPresetBody_frame r s) :)
@[simp] theorem readPresetBody_settings (r : CommandReport) (s : State) : ((readPresetBody r s).state).settings = s.settings :=
  (congrArg State.settings (readPresetBody_frame r s) :)
@[simp] theorem readPresetBody_tables (r : CommandReport) (s : State) : ((readPresetBody r s).state).tables = s.tables :=
  (congrArg State.tables (readPresetBody_frame r s) :)
@[simp] theorem readPresetBody_console (r : CommandReport) (s : State) : ((readPresetBody r s).state).console = s.console :=
  (congrArg State.console (readPresetBody_frame r s) :)
@[simp] theorem readPresetBody_keys (r : CommandReport) (s : State) : ((readPresetBody r s).state).keys = s.keys :=
  (congrArg State.keys (readPresetBody_frame r s) :)
@[simp] theorem readPresetBody_recognizer (r : CommandReport) (s : State) : ((readPresetBody r s).state).recognizer = s.recognizer :=
  (congrArg State.recognizer (readPresetBody_frame r s) :)
@[simp] theorem readPresetBody_focusUnit (r : CommandReport) (s : State) : ((readPresetBody r s).state).focusUnit = s.focusUnit :=
  (congrArg State.focusUnit (readPresetBody_frame r s) :)
@[simp] theorem readPresetBody_pointer (r : CommandReport) (s : State) : ((readPresetBody r s).state).pointer = s.pointer :=
  (congrArg State.pointer (readPresetBody_frame r s) :)
@[simp] theorem readPresetBody_ports (r : CommandReport) (s : State) : ((readPresetBody r s).state).ports = s.ports :=
  (congrArg State.ports (readPresetBody_frame r s) :)
@[simp] theorem readPresetBody_video (r : CommandReport) (s : State) : ((readPresetBody r s).state).video = s.video :=
  (congrArg State.video (readPresetBody_frame r s) :)
@[simp] theorem readPresetBody_schedule (r : CommandReport) (s : State) : ((readPresetBody r s).state).schedule = s.schedule :=
  (congrArg State.schedule (readPresetBody_frame r s) :)
@[simp] theorem readPresetBody_engine (r : CommandReport) (s : State) : ((readPresetBody r s).state).engine = s.engine :=
  (congrArg State.engine (readPresetBody_frame r s) :)
@[simp] theorem readPresetBody_journal (r : CommandReport) (s : State) : ((readPresetBody r s).state).journal = s.journal :=
  (congrArg State.journal (readPresetBody_frame r s) :)
@[simp] theorem readPresetBody_image (r : CommandReport) (s : State) : ((readPresetBody r s).state).image = s.image :=
  (congrArg State.image (readPresetBody_frame r s) :)
@[simp] theorem readPresetBody_foreign (r : CommandReport) (s : State) : ((readPresetBody r s).state).foreign = s.foreign :=
  (congrArg State.foreign (readPresetBody_frame r s) :)
@[simp] theorem readPresetBody_mismatches (r : CommandReport) (s : State) : ((readPresetBody r s).state).mismatches = s.mismatches :=
  (congrArg State.mismatches (readPresetBody_frame r s) :)

/-- All that writeHotkeyBody can change. -/
theorem writeHotkeyBody_frame (r : CommandReport) (s : State) :
    (writeHotkeyBody r s).state = { s with tables := ((writeHotkeyBody r s).state).tables } := by
  apply State.eq_of_fields
  all_goals first
    | with_reducible rfl
    | (unfold writeHotkeyBody; dsimp only; repeat' split
       all_goals simp)
@[simp] theorem writeHotkeyBody_pending (r : CommandReport) (s : State) : ((writeHotkeyBody r s).state).pending = s.pending :=
  (congrArg State.pending (writeHotkeyBody_frame r s) :)
@[simp] theorem writeHotkeyBody_sent (r : CommandReport) (s : State) : ((writeHotkeyBody r s).state).sent = s.sent :=
  (congrArg State.sent (writeHotkeyBody_frame r s) :)
@[simp] theorem writeHotkeyBody_freeUses (r : CommandReport) (s : State) : ((writeHotkeyBody r s).state).freeUses = s.freeUses :=
  (congrArg State.freeUses (writeHotkeyBody_frame r s) :)
@[simp] theorem writeHotkeyBody_clock (r : CommandReport) (s : State) : ((writeHotkeyBody r s).state).clock = s.clock :=
  (congrArg State.clock (writeHotkeyBody_frame r s) :)
@[simp] theorem writeHotkeyBody_settings (r : CommandReport) (s : State) : ((writeHotkeyBody r s).state).settings = s.settings :=
  (congrArg State.settings (writeHotkeyBody_frame r s) :)
@[simp] theorem writeHotkeyBody_console (r : CommandReport) (s : State) : ((writeHotkeyBody r s).state).console = s.console :=
  (congrArg State.console (writeHotkeyBody_frame r s) :)
@[simp] theorem writeHotkeyBody_keys (r : CommandReport) (s : State) : ((writeHotkeyBody r s).state).keys = s.keys :=
  (congrArg State.keys (writeHotkeyBody_frame r s) :)
@[simp] theorem writeHotkeyBody_recognizer (r : CommandReport) (s : State) : ((writeHotkeyBody r s).state).recognizer = s.recognizer :=
  (congrArg State.recognizer (writeHotkeyBody_frame r s) :)
@[simp] theorem writeHotkeyBody_focusUnit (r : CommandReport) (s : State) : ((writeHotkeyBody r s).state).focusUnit = s.focusUnit :=
  (congrArg State.focusUnit (writeHotkeyBody_frame r s) :)
@[simp] theorem writeHotkeyBody_pointer (r : CommandReport) (s : State) : ((writeHotkeyBody r s).state).pointer = s.pointer :=
  (congrArg State.pointer (writeHotkeyBody_frame r s) :)
@[simp] theorem writeHotkeyBody_ports (r : CommandReport) (s : State) : ((writeHotkeyBody r s).state).ports = s.ports :=
  (congrArg State.ports (writeHotkeyBody_frame r s) :)
@[simp] theorem writeHotkeyBody_video (r : CommandReport) (s : State) : ((writeHotkeyBody r s).state).video = s.video :=
  (congrArg State.video (writeHotkeyBody_frame r s) :)
@[simp] theorem writeHotkeyBody_schedule (r : CommandReport) (s : State) : ((writeHotkeyBody r s).state).schedule = s.schedule :=
  (congrArg State.schedule (writeHotkeyBody_frame r s) :)
@[simp] theorem writeHotkeyBody_engine (r : CommandReport) (s : State) : ((writeHotkeyBody r s).state).engine = s.engine :=
  (congrArg State.engine (writeHotkeyBody_frame r s) :)
@[simp] theorem writeHotkeyBody_journal (r : CommandReport) (s : State) : ((writeHotkeyBody r s).state).journal = s.journal :=
  (congrArg State.journal (writeHotkeyBody_frame r s) :)
@[simp] theorem writeHotkeyBody_image (r : CommandReport) (s : State) : ((writeHotkeyBody r s).state).image = s.image :=
  (congrArg State.image (writeHotkeyBody_frame r s) :)
@[simp] theorem writeHotkeyBody_foreign (r : CommandReport) (s : State) : ((writeHotkeyBody r s).state).foreign = s.foreign :=
  (congrArg State.foreign (writeHotkeyBody_frame r s) :)
@[simp] theorem writeHotkeyBody_mismatches (r : CommandReport) (s : State) : ((writeHotkeyBody r s).state).mismatches = s.mismatches :=
  (congrArg State.mismatches (writeHotkeyBody_frame r s) :)

/-- All that writePortSettingsBody can change. -/
theorem writePortSettingsBody_frame (r : CommandReport) (s : State) :
    (writePortSettingsBody r s).state = { s with tables := ((writePortSettingsBody r s).state).tables } := by
  apply State.eq_of_fields
  all_goals first
    | with_reducible rfl
    | (unfold writePortSettingsBody; dsimp only; repeat' split
       all_goals simp)
@[simp] theorem writePortSettingsBody_pending (r : CommandReport) (s : State) : ((writePortSettingsBody r s).state).pending = s.pending :=
  (congrArg State.pending (writePortSettingsBody_frame r s) :)
@[simp] theorem writePortSettingsBody_sent (r : CommandReport) (s : State) : ((writePortSettingsBody r s).state).sent = s.sent :=
  (congrArg State.sent (writePortSettingsBody_frame r s) :)
@[simp] theorem writePortSettingsBody_freeUses (r : CommandReport) (s : State) : ((writePortSettingsBody r s).state).freeUses = s.freeUses :=
  (congrArg State.freeUses (writePortSettingsBody_frame r s) :)
@[simp] theorem writePortSettingsBody_clock (r : CommandReport) (s : State) : ((writePortSettingsBody r s).state).clock = s.clock :=
  (congrArg State.clock (writePortSettingsBody_frame r s) :)
@[simp] theorem writePortSettingsBody_settings (r : CommandReport) (s : State) : ((writePortSettingsBody r s).state).settings = s.settings :=
  (congrArg State.settings (writePortSettingsBody_frame r s) :)
@[simp] theorem writePortSettingsBody_console (r : CommandReport) (s : State) : ((writePortSettingsBody r s).state).console = s.console :=
  (congrArg State.console (writePortSettingsBody_frame r s) :)
@[simp] theorem writePortSettingsBody_keys (r : CommandReport) (s : State) : ((writePortSettingsBody r s).state).keys = s.keys :=
  (congrArg State.keys (writePortSettingsBody_frame r s) :)
@[simp] theorem writePortSettingsBody_recognizer (r : CommandReport) (s : State) : ((writePortSettingsBody r s).state).recognizer = s.recognizer :=
  (congrArg State.recognizer (writePortSettingsBody_frame r s) :)
@[simp] theorem writePortSettingsBody_focusUnit (r : CommandReport) (s : State) : ((writePortSettingsBody r s).state).focusUnit = s.focusUnit :=
  (congrArg State.focusUnit (writePortSettingsBody_frame r s) :)
@[simp] theorem writePortSettingsBody_pointer (r : CommandReport) (s : State) : ((writePortSettingsBody r s).state).pointer = s.pointer :=
  (congrArg State.pointer (writePortSettingsBody_frame r s) :)
@[simp] theorem writePortSettingsBody_ports (r : CommandReport) (s : State) : ((writePortSettingsBody r s).state).ports = s.ports :=
  (congrArg State.ports (writePortSettingsBody_frame r s) :)
@[simp] theorem writePortSettingsBody_video (r : CommandReport) (s : State) : ((writePortSettingsBody r s).state).video = s.video :=
  (congrArg State.video (writePortSettingsBody_frame r s) :)
@[simp] theorem writePortSettingsBody_schedule (r : CommandReport) (s : State) : ((writePortSettingsBody r s).state).schedule = s.schedule :=
  (congrArg State.schedule (writePortSettingsBody_frame r s) :)
@[simp] theorem writePortSettingsBody_engine (r : CommandReport) (s : State) : ((writePortSettingsBody r s).state).engine = s.engine :=
  (congrArg State.engine (writePortSettingsBody_frame r s) :)
@[simp] theorem writePortSettingsBody_journal (r : CommandReport) (s : State) : ((writePortSettingsBody r s).state).journal = s.journal :=
  (congrArg State.journal (writePortSettingsBody_frame r s) :)
@[simp] theorem writePortSettingsBody_image (r : CommandReport) (s : State) : ((writePortSettingsBody r s).state).image = s.image :=
  (congrArg State.image (writePortSettingsBody_frame r s) :)
@[simp] theorem writePortSettingsBody_foreign (r : CommandReport) (s : State) : ((writePortSettingsBody r s).state).foreign = s.foreign :=
  (congrArg State.foreign (writePortSettingsBody_frame r s) :)
@[simp] theorem writePortSettingsBody_mismatches (r : CommandReport) (s : State) : ((writePortSettingsBody r s).state).mismatches = s.mismatches :=
  (congrArg State.mismatches (writePortSettingsBody_frame r s) :)

/-- All that writePresetBody can change. -/
theorem writePresetBody_frame (r : CommandReport) (s : State) :
    (writePresetBody r s).state = { s with tables := ((writePresetBody r s).state).tables } := by
  apply State.eq_of_fields
  all_goals first
    | with_reducible rfl
    | (unfold writePresetBody; dsimp only; repeat' split
       all_goals simp)
@[simp] theorem writePresetBody_pending (r : CommandReport) (s : State) : ((writePresetBody r s).state).pending = s.pending :=
  (congrArg State.pending (writePresetBody_frame r s) :)
@[simp] theorem writePresetBody_sent (r : CommandReport) (s : State) : ((writePresetBody r s).state).sent = s.sent :=
  (congrArg State.sent (writePresetBody_frame r s) :)
@[simp] theorem writePresetBody_freeUses (r : CommandReport) (s : State) : ((writePresetBody r s).state).freeUses = s.freeUses :=
  (congrArg State.freeUses (writePresetBody_frame r s) :)
@[simp] theorem writePresetBody_clock (r : CommandReport) (s : State) : ((writePresetBody r s).state).clock = s.clock :=
  (congrArg State.clock (writePresetBody_frame r s) :)
@[simp] theorem writePresetBody_settings (r : CommandReport) (s : State) : ((writePresetBody r s).state).settings = s.settings :=
  (congrArg State.settings (writePresetBody_frame r s) :)
@[simp] theorem writePresetBody_console (r : CommandReport) (s : State) : ((writePresetBody r s).state).console = s.console :=
  (congrArg State.console (writePresetBody_frame r s) :)
@[simp] theorem writePresetBody_keys (r : CommandReport) (s : State) : ((writePresetBody r s).state).keys = s.keys :=
  (congrArg State.keys (writePresetBody_frame r s) :)
@[simp] theorem writePresetBody_recognizer (r : CommandReport) (s : State) : ((writePresetBody r s).state).recognizer = s.recognizer :=
  (congrArg State.recognizer (writePresetBody_frame r s) :)
@[simp] theorem writePresetBody_focusUnit (r : CommandReport) (s : State) : ((writePresetBody r s).state).focusUnit = s.focusUnit :=
  (congrArg State.focusUnit (writePresetBody_frame r s) :)
@[simp] theorem writePresetBody_pointer (r : CommandReport) (s : State) : ((writePresetBody r s).state).pointer = s.pointer :=
  (congrArg State.pointer (writePresetBody_frame r s) :)
@[simp] theorem writePresetBody_ports (r : CommandReport) (s : State) : ((writePresetBody r s).state).ports = s.ports :=
  (congrArg State.ports (writePresetBody_frame r s) :)
@[simp] theorem writePresetBody_video (r : CommandReport) (s : State) : ((writePresetBody r s).state).video = s.video :=
  (congrArg State.video (writePresetBody_frame r s) :)
@[simp] theorem writePresetBody_schedule (r : CommandReport) (s : State) : ((writePresetBody r s).state).schedule = s.schedule :=
  (congrArg State.schedule (writePresetBody_frame r s) :)
@[simp] theorem writePresetBody_engine (r : CommandReport) (s : State) : ((writePresetBody r s).state).engine = s.engine :=
  (congrArg State.engine (writePresetBody_frame r s) :)
@[simp] theorem writePresetBody_journal (r : CommandReport) (s : State) : ((writePresetBody r s).state).journal = s.journal :=
  (congrArg State.journal (writePresetBody_frame r s) :)
@[simp] theorem writePresetBody_image (r : CommandReport) (s : State) : ((writePresetBody r s).state).image = s.image :=
  (congrArg State.image (writePresetBody_frame r s) :)
@[simp] theorem writePresetBody_foreign (r : CommandReport) (s : State) : ((writePresetBody r s).state).foreign = s.foreign :=
  (congrArg State.foreign (writePresetBody_frame r s) :)
@[simp] theorem writePresetBody_mismatches (r : CommandReport) (s : State) : ((writePresetBody r s).state).mismatches = s.mismatches :=
  (congrArg State.mismatches (writePresetBody_frame r s) :)

/-- All that writeStagedBody can change. -/
theorem writeStagedBody_frame (r : CommandReport) (s : State) :
    (writeStagedBody r s).state = { s with tables := ((writeStagedBody r s).state).tables } := by
  apply State.eq_of_fields
  all_goals first
    | with_reducible rfl
    | (unfold writeStagedBody; dsimp only; repeat' split
       all_goals simp)
@[simp] theorem writeStagedBody_pending (r : CommandReport) (s : State) : ((writeStagedBody r s).state).pending = s.pending :=
  (congrArg State.pending (writeStagedBody_frame r s) :)
@[simp] theorem writeStagedBody_sent (r : CommandReport) (s : State) : ((writeStagedBody r s).state).sent = s.sent :=
  (congrArg State.sent (writeStagedBody_frame r s) :)
@[simp] theorem writeStagedBody_freeUses (r : CommandReport) (s : State) : ((writeStagedBody r s).state).freeUses = s.freeUses :=
  (congrArg State.freeUses (writeStagedBody_frame r s) :)
@[simp] theorem writeStagedBody_clock (r : CommandReport) (s : State) : ((writeStagedBody r s).state).clock = s.clock :=
  (congrArg State.clock (writeStagedBody_frame r s) :)
@[simp] theorem writeStagedBody_settings (r : CommandReport) (s : State) : ((writeStagedBody r s).state).settings = s.settings :=
  (congrArg State.settings (writeStagedBody_frame r s) :)
@[simp] theorem writeStagedBody_console (r : CommandReport) (s : State) : ((writeStagedBody r s).state).console = s.console :=
  (congrArg State.console (writeStagedBody_frame r s) :)
@[simp] theorem writeStagedBody_keys (r : CommandReport) (s : State) : ((writeStagedBody r s).state).keys = s.keys :=
  (congrArg State.keys (writeStagedBody_frame r s) :)
@[simp] theorem writeStagedBody_recognizer (r : CommandReport) (s : State) : ((writeStagedBody r s).state).recognizer = s.recognizer :=
  (congrArg State.recognizer (writeStagedBody_frame r s) :)
@[simp] theorem writeStagedBody_focusUnit (r : CommandReport) (s : State) : ((writeStagedBody r s).state).focusUnit = s.focusUnit :=
  (congrArg State.focusUnit (writeStagedBody_frame r s) :)
@[simp] theorem writeStagedBody_pointer (r : CommandReport) (s : State) : ((writeStagedBody r s).state).pointer = s.pointer :=
  (congrArg State.pointer (writeStagedBody_frame r s) :)
@[simp] theorem writeStagedBody_ports (r : CommandReport) (s : State) : ((writeStagedBody r s).state).ports = s.ports :=
  (congrArg State.ports (writeStagedBody_frame r s) :)
@[simp] theorem writeStagedBody_video (r : CommandReport) (s : State) : ((writeStagedBody r s).state).video = s.video :=
  (congrArg State.video (writeStagedBody_frame r s) :)
@[simp] theorem writeStagedBody_schedule (r : CommandReport) (s : State) : ((writeStagedBody r s).state).schedule = s.schedule :=
  (congrArg State.schedule (writeStagedBody_frame r s) :)
@[simp] theorem writeStagedBody_engine (r : CommandReport) (s : State) : ((writeStagedBody r s).state).engine = s.engine :=
  (congrArg State.engine (writeStagedBody_frame r s) :)
@[simp] theorem writeStagedBody_journal (r : CommandReport) (s : State) : ((writeStagedBody r s).state).journal = s.journal :=
  (congrArg State.journal (writeStagedBody_frame r s) :)
@[simp] theorem writeStagedBody_image (r : CommandReport) (s : State) : ((writeStagedBody r s).state).image = s.image :=
  (congrArg State.image (writeStagedBody_frame r s) :)
@[simp] theorem writeStagedBody_foreign (r : CommandReport) (s : State) : ((writeStagedBody r s).state).foreign = s.foreign :=
  (congrArg State.foreign (writeStagedBody_frame r s) :)
@[simp] theorem writeStagedBody_mismatches (r : CommandReport) (s : State) : ((writeStagedBody r s).state).mismatches = s.mismatches :=
  (congrArg State.mismatches (writeStagedBody_frame r s) :)

/-- All that deleteHotkeyBody can change. -/
theorem deleteHotkeyBody_frame (r : CommandReport) (s : State) :
    (deleteHotkeyBody r s).state = { s with tables := ((deleteHotkeyBody r s).state).tables } := by
  apply State.eq_of_fields
  all_goals first
    | with_reducible rfl
    | (unfold deleteHotkeyBody; dsimp only; repeat' split
       all_goals simp)
@[simp] theorem deleteHotkeyBody_pending (r : CommandReport) (s : State) : ((deleteHotkeyBody r s).state).pending = s.pending :=
  (congrArg State.pending (deleteHotkeyBody_frame r s) :)
@[simp] theorem deleteHotkeyBody_sent (r : CommandReport) (s : State) : ((deleteHotkeyBody r s).state).sent = s.sent :=
  (congrArg State.sent (deleteHotkeyBody_frame r s) :)
@[simp] theorem deleteHotkeyBody_freeUses (r : CommandReport) (s : State) : ((deleteHotkeyBody r s).state).freeUses = s.freeUses :=
  (congrArg State.freeUses (deleteHotkeyBody_frame r s) :)
@[simp] theorem deleteHotkeyBody_clock (r : CommandReport) (s : State) : ((deleteHotkeyBody r s).state).clock = s.clock :=
  (congrArg State.clock (deleteHotkeyBody_frame r s) :)
@[simp] theorem deleteHotkeyBody_settings (r : CommandReport) (s : State) : ((deleteHotkeyBody r s).state).settings = s.settings :=
  (congrArg State.settings (deleteHotkeyBody_frame r s) :)
@[simp] theorem deleteHotkeyBody_console (r : CommandReport) (s : State) : ((deleteHotkeyBody r s).state).console = s.console :=
  (congrArg State.console (deleteHotkeyBody_frame r s) :)
@[simp] theorem deleteHotkeyBody_keys (r : CommandReport) (s : State) : ((deleteHotkeyBody r s).state).keys = s.keys :=
  (congrArg State.keys (deleteHotkeyBody_frame r s) :)
@[simp] theorem deleteHotkeyBody_recognizer (r : CommandReport) (s : State) : ((deleteHotkeyBody r s).state).recognizer = s.recognizer :=
  (congrArg State.recognizer (deleteHotkeyBody_frame r s) :)
@[simp] theorem deleteHotkeyBody_focusUnit (r : CommandReport) (s : State) : ((deleteHotkeyBody r s).state).focusUnit = s.focusUnit :=
  (congrArg State.focusUnit (deleteHotkeyBody_frame r s) :)
@[simp] theorem deleteHotkeyBody_pointer (r : CommandReport) (s : State) : ((deleteHotkeyBody r s).state).pointer = s.pointer :=
  (congrArg State.pointer (deleteHotkeyBody_frame r s) :)
@[simp] theorem deleteHotkeyBody_ports (r : CommandReport) (s : State) : ((deleteHotkeyBody r s).state).ports = s.ports :=
  (congrArg State.ports (deleteHotkeyBody_frame r s) :)
@[simp] theorem deleteHotkeyBody_video (r : CommandReport) (s : State) : ((deleteHotkeyBody r s).state).video = s.video :=
  (congrArg State.video (deleteHotkeyBody_frame r s) :)
@[simp] theorem deleteHotkeyBody_schedule (r : CommandReport) (s : State) : ((deleteHotkeyBody r s).state).schedule = s.schedule :=
  (congrArg State.schedule (deleteHotkeyBody_frame r s) :)
@[simp] theorem deleteHotkeyBody_engine (r : CommandReport) (s : State) : ((deleteHotkeyBody r s).state).engine = s.engine :=
  (congrArg State.engine (deleteHotkeyBody_frame r s) :)
@[simp] theorem deleteHotkeyBody_journal (r : CommandReport) (s : State) : ((deleteHotkeyBody r s).state).journal = s.journal :=
  (congrArg State.journal (deleteHotkeyBody_frame r s) :)
@[simp] theorem deleteHotkeyBody_image (r : CommandReport) (s : State) : ((deleteHotkeyBody r s).state).image = s.image :=
  (congrArg State.image (deleteHotkeyBody_frame r s) :)
@[simp] theorem deleteHotkeyBody_foreign (r : CommandReport) (s : State) : ((deleteHotkeyBody r s).state).foreign = s.foreign :=
  (congrArg State.foreign (deleteHotkeyBody_frame r s) :)
@[simp] theorem deleteHotkeyBody_mismatches (r : CommandReport) (s : State) : ((deleteHotkeyBody r s).state).mismatches = s.mismatches :=
  (congrArg State.mismatches (deleteHotkeyBody_frame r s) :)

/-- All that deletePresetBody can change. -/
theorem deletePresetBody_frame (r : CommandReport) (s : State) :
    (deletePresetBody r s).state = { s with tables := ((deletePresetBody r s).state).tables } := by
  apply State.eq_of_fields
  all_goals first
    | with_reducible rfl
    | (unfold deletePresetBody; dsimp only; repeat' split
       all_goals simp)
@[simp] theorem deletePresetBody_pending (r : CommandReport) (s : State) : ((deletePresetBody r s).state).pending = s.pending :=
  (congrArg State.pending (deletePresetBody_frame r s) :)
@[simp] theorem deletePresetBody_sent (r : CommandReport) (s : State) : ((deletePresetBody r s).state).sent = s.sent :=
  (congrArg State.sent (deletePresetBody_frame r s) :)
@[simp] theorem deletePresetBody_freeUses (r : CommandReport) (s : State) : ((deletePresetBody r s).state).freeUses = s.freeUses :=
  (congrArg State.freeUses (deletePresetBody_frame r s) :)
@[simp] theorem deletePresetBody_clock (r : CommandReport) (s : State) : ((deletePresetBody r s).state).clock = s.clock :=
  (congrArg State.clock (deletePresetBody_frame r s) :)
@[simp] theorem deletePresetBody_settings (r : CommandReport) (s : State) : ((deletePresetBody r s).state).settings = s.settings :=
  (congrArg State.settings (deletePresetBody_frame r s) :)
@[simp] theorem deletePresetBody_console (r : CommandReport) (s : State) : ((deletePresetBody r s).state).console = s.console :=
  (congrArg State.console (deletePresetBody_frame r s) :)
@[simp] theorem deletePresetBody_keys (r : CommandReport) (s : State) : ((deletePresetBody r s).state).keys = s.keys :=
  (congrArg State.keys (deletePresetBody_frame r s) :)
@[simp] theorem deletePresetBody_recognizer (r : CommandReport) (s : State) : ((deletePresetBody r s).state).recognizer = s.recognizer :=
  (congrArg State.recognizer (deletePresetBody_frame r s) :)
@[simp] theorem deletePresetBody_focusUnit (r : CommandReport) (s : State) : ((deletePresetBody r s).state).focusUnit = s.focusUnit :=
  (congrArg State.focusUnit (deletePresetBody_frame r s) :)
@[simp] theorem deletePresetBody_pointer (r : CommandReport) (s : State) : ((deletePresetBody r s).state).pointer = s.pointer :=
  (congrArg State.pointer (deletePresetBody_frame r s) :)
@[simp] theorem deletePresetBody_ports (r : CommandReport) (s : State) : ((deletePresetBody r s).state).ports = s.ports :=
  (congrArg State.ports (deletePresetBody_frame r s) :)
@[simp] theorem deletePresetBody_video (r : CommandReport) (s : State) : ((deletePresetBody r s).state).video = s.video :=
  (congrArg State.video (deletePresetBody_frame r s) :)
@[simp] theorem deletePresetBody_schedule (r : CommandReport) (s : State) : ((deletePresetBody r s).state).schedule = s.schedule :=
  (congrArg State.schedule (deletePresetBody_frame r s) :)
@[simp] theorem deletePresetBody_engine (r : CommandReport) (s : State) : ((deletePresetBody r s).state).engine = s.engine :=
  (congrArg State.engine (deletePresetBody_frame r s) :)
@[simp] theorem deletePresetBody_journal (r : CommandReport) (s : State) : ((deletePresetBody r s).state).journal = s.journal :=
  (congrArg State.journal (deletePresetBody_frame r s) :)
@[simp] theorem deletePresetBody_image (r : CommandReport) (s : State) : ((deletePresetBody r s).state).image = s.image :=
  (congrArg State.image (deletePresetBody_frame r s) :)
@[simp] theorem deletePresetBody_foreign (r : CommandReport) (s : State) : ((deletePresetBody r s).state).foreign = s.foreign :=
  (congrArg State.foreign (deletePresetBody_frame r s) :)
@[simp] theorem deletePresetBody_mismatches (r : CommandReport) (s : State) : ((deletePresetBody r s).state).mismatches = s.mismatches :=
  (congrArg State.mismatches (deletePresetBody_frame r s) :)

/-- All that writeWindowBody can change. -/
theorem writeWindowBody_frame (r : CommandReport) (s : State) :
    (writeWindowBody r s).state = { s with sent := ((writeWindowBody r s).state).sent, console := ((writeWindowBody r s).state).console, keys := ((writeWindowBody r s).state).keys, focusUnit := ((writeWindowBody r s).state).focusUnit, pointer := ((writeWindowBody r s).state).pointer, ports := ((writeWindowBody r s).state).ports, journal := ((writeWindowBody r s).state).journal, tables := ((writeWindowBody r s).state).tables } := by
  apply State.eq_of_fields
  all_goals first
    | with_reducible rfl
    | (unfold writeWindowBody; dsimp only; repeat' split
       all_goals simp)
@[simp] theorem writeWindowBody_pending (r : CommandReport) (s : State) : ((writeWindowBody r s).state).pending = s.pending :=
  (congrArg State.pending (writeWindowBody_frame r s) :)
@[simp] theorem writeWindowBody_freeUses (r : CommandReport) (s : State) : ((writeWindowBody r s).state).freeUses = s.freeUses :=
  (congrArg State.freeUses (writeWindowBody_frame r s) :)
@[simp] theorem writeWindowBody_clock (r : CommandReport) (s : State) : ((writeWindowBody r s).state).clock = s.clock :=
  (congrArg State.clock (writeWindowBody_frame r s) :)
@[simp] theorem writeWindowBody_settings (r : CommandReport) (s : State) : ((writeWindowBody r s).state).settings = s.settings :=
  (congrArg State.settings (writeWindowBody_frame r s) :)
@[simp] theorem writeWindowBody_recognizer (r : CommandReport) (s : State) : ((writeWindowBody r s).state).recognizer = s.recognizer :=
  (congrArg State.recognizer (writeWindowBody_frame r s) :)
@[simp] theorem writeWindowBody_video (r : CommandReport) (s : State) : ((writeWindowBody r s).state).video = s.video :=
  (congrArg State.video (writeWindowBody_frame r s) :)
@[simp] theorem writeWindowBody_schedule (r : CommandReport) (s : State) : ((writeWindowBody r s).state).schedule = s.schedule :=
  (congrArg State.schedule (writeWindowBody_frame r s) :)
@[simp] theorem writeWindowBody_engine (r : CommandReport) (s : State) : ((writeWindowBody r s).state).engine = s.engine :=
  (congrArg State.engine (writeWindowBody_frame r s) :)
@[simp] theorem writeWindowBody_image (r : CommandReport) (s : State) : ((writeWindowBody r s).state).image = s.image :=
  (congrArg State.image (writeWindowBody_frame r s) :)
@[simp] theorem writeWindowBody_foreign (r : CommandReport) (s : State) : ((writeWindowBody r s).state).foreign = s.foreign :=
  (congrArg State.foreign (writeWindowBody_frame r s) :)
@[simp] theorem writeWindowBody_mismatches (r : CommandReport) (s : State) : ((writeWindowBody r s).state).mismatches = s.mismatches :=
  (congrArg State.mismatches (writeWindowBody_frame r s) :)

/-- All that layoutCommitBody can change. -/
theorem layoutCommitBody_frame (s : State) :
    (layoutCommitBody s).state = { s with sent := ((layoutCommitBody s).state).sent, console := ((layoutCommitBody s).state).console, keys := ((layoutCommitBody s).state).keys, focusUnit := ((layoutCommitBody s).state).focusUnit, pointer := ((layoutCommitBody s).state).pointer, ports := ((layoutCommitBody s).state).ports, journal := ((layoutCommitBody s).state).journal, tables := ((layoutCommitBody s).state).tables } := by
  apply State.eq_of_fields
  all_goals first
    | with_reducible rfl
    | (unfold layoutCommitBody; dsimp only; repeat' split
       all_goals simp)
@[simp] theorem layoutCommitBody_pending (s : State) : ((layoutCommitBody s).state).pending = s.pending :=
  (congrArg State.pending (layoutCommitBody_frame s) :)
@[simp] theorem layoutCommitBody_freeUses (s : State) : ((layoutCommitBody s).state).freeUses = s.freeUses :=
  (congrArg State.freeUses (layoutCommitBody_frame s) :)
@[simp] theorem layoutCommitBody_clock (s : State) : ((layoutCommitBody s).state).clock = s.clock :=
  (congrArg State.clock (layoutCommitBody_frame s) :)
@[simp] theorem layoutCommitBody_settings (s : State) : ((layoutCommitBody s).state).settings = s.settings :=
  (congrArg State.settings (layoutCommitBody_frame s) :)
@[simp] theorem layoutCommitBody_recognizer (s : State) : ((layoutCommitBody s).state).recognizer = s.recognizer :=
  (congrArg State.recognizer (layoutCommitBody_frame s) :)
@[simp] theorem layoutCommitBody_video (s : State) : ((layoutCommitBody s).state).video = s.video :=
  (congrArg State.video (layoutCommitBody_frame s) :)
@[simp] theorem layoutCommitBody_schedule (s : State) : ((layoutCommitBody s).state).schedule = s.schedule :=
  (congrArg State.schedule (layoutCommitBody_frame s) :)
@[simp] theorem layoutCommitBody_engine (s : State) : ((layoutCommitBody s).state).engine = s.engine :=
  (congrArg State.engine (layoutCommitBody_frame s) :)
@[simp] theorem layoutCommitBody_image (s : State) : ((layoutCommitBody s).state).image = s.image :=
  (congrArg State.image (layoutCommitBody_frame s) :)
@[simp] theorem layoutCommitBody_foreign (s : State) : ((layoutCommitBody s).state).foreign = s.foreign :=
  (congrArg State.foreign (layoutCommitBody_frame s) :)
@[simp] theorem layoutCommitBody_mismatches (s : State) : ((layoutCommitBody s).state).mismatches = s.mismatches :=
  (congrArg State.mismatches (layoutCommitBody_frame s) :)

/-- All that layoutRevertBody can change. -/
theorem layoutRevertBody_frame (s : State) :
    (layoutRevertBody s).state = { s with tables := ((layoutRevertBody s).state).tables } := by
  apply State.eq_of_fields
  all_goals first
    | with_reducible rfl
    | (unfold layoutRevertBody; dsimp only
       all_goals simp)
@[simp] theorem layoutRevertBody_pending (s : State) : ((layoutRevertBody s).state).pending = s.pending :=
  (congrArg State.pending (layoutRevertBody_frame s) :)
@[simp] theorem layoutRevertBody_sent (s : State) : ((layoutRevertBody s).state).sent = s.sent :=
  (congrArg State.sent (layoutRevertBody_frame s) :)
@[simp] theorem layoutRevertBody_freeUses (s : State) : ((layoutRevertBody s).state).freeUses = s.freeUses :=
  (congrArg State.freeUses (layoutRevertBody_frame s) :)
@[simp] theorem layoutRevertBody_clock (s : State) : ((layoutRevertBody s).state).clock = s.clock :=
  (congrArg State.clock (layoutRevertBody_frame s) :)
@[simp] theorem layoutRevertBody_settings (s : State) : ((layoutRevertBody s).state).settings = s.settings :=
  (congrArg State.settings (layoutRevertBody_frame s) :)
@[simp] theorem layoutRevertBody_console (s : State) : ((layoutRevertBody s).state).console = s.console :=
  (congrArg State.console (layoutRevertBody_frame s) :)
@[simp] theorem layoutRevertBody_keys (s : State) : ((layoutRevertBody s).state).keys = s.keys :=
  (congrArg State.keys (layoutRevertBody_frame s) :)
@[simp] theorem layoutRevertBody_recognizer (s : State) : ((layoutRevertBody s).state).recognizer = s.recognizer :=
  (congrArg State.recognizer (layoutRevertBody_frame s) :)
@[simp] theorem layoutRevertBody_focusUnit (s : State) : ((layoutRevertBody s).state).focusUnit = s.focusUnit :=
  (congrArg State.focusUnit (layoutRevertBody_frame s) :)
@[simp] theorem layoutRevertBody_pointer (s : State) : ((layoutRevertBody s).state).pointer = s.pointer :=
  (congrArg State.pointer (layoutRevertBody_frame s) :)
@[simp] theorem layoutRevertBody_ports (s : State) : ((layoutRevertBody s).state).ports = s.ports :=
  (congrArg State.ports (layoutRevertBody_frame s) :)
@[simp] theorem layoutRevertBody_video (s : State) : ((layoutRevertBody s).state).video = s.video :=
  (congrArg State.video (layoutRevertBody_frame s) :)
@[simp] theorem layoutRevertBody_schedule (s : State) : ((layoutRevertBody s).state).schedule = s.schedule :=
  (congrArg State.schedule (layoutRevertBody_frame s) :)
@[simp] theorem layoutRevertBody_engine (s : State) : ((layoutRevertBody s).state).engine = s.engine :=
  (congrArg State.engine (layoutRevertBody_frame s) :)
@[simp] theorem layoutRevertBody_journal (s : State) : ((layoutRevertBody s).state).journal = s.journal :=
  (congrArg State.journal (layoutRevertBody_frame s) :)
@[simp] theorem layoutRevertBody_image (s : State) : ((layoutRevertBody s).state).image = s.image :=
  (congrArg State.image (layoutRevertBody_frame s) :)
@[simp] theorem layoutRevertBody_foreign (s : State) : ((layoutRevertBody s).state).foreign = s.foreign :=
  (congrArg State.foreign (layoutRevertBody_frame s) :)
@[simp] theorem layoutRevertBody_mismatches (s : State) : ((layoutRevertBody s).state).mismatches = s.mismatches :=
  (congrArg State.mismatches (layoutRevertBody_frame s) :)

/-- All that actBody can change. -/
theorem actBody_frame (code : Nat) (r : CommandReport) (s : State) :
    (actBody code r s).state = { s with sent := ((actBody code r s).state).sent, console := ((actBody code r s).state).console, keys := ((actBody code r s).state).keys, focusUnit := ((actBody code r s).state).focusUnit, pointer := ((actBody code r s).state).pointer, ports := ((actBody code r s).state).ports, journal := ((actBody code r s).state).journal, video := ((actBody code r s).state).video, engine := ((actBody code r s).state).engine, schedule := ((actBody code r s).state).schedule, tables := ((actBody code r s).state).tables } := by
  apply State.eq_of_fields
  all_goals first
    | with_reducible rfl
    | (unfold actBody; dsimp only; repeat' split
       all_goals simp [actReply])
@[simp] theorem actBody_pending (code : Nat) (r : CommandReport) (s : State) : ((actBody code r s).state).pending = s.pending :=
  (congrArg State.pending (actBody_frame code r s) :)
@[simp] theorem actBody_freeUses (code : Nat) (r : CommandReport) (s : State) : ((actBody code r s).state).freeUses = s.freeUses :=
  (congrArg State.freeUses (actBody_frame code r s) :)
@[simp] theorem actBody_clock (code : Nat) (r : CommandReport) (s : State) : ((actBody code r s).state).clock = s.clock :=
  (congrArg State.clock (actBody_frame code r s) :)
@[simp] theorem actBody_settings (code : Nat) (r : CommandReport) (s : State) : ((actBody code r s).state).settings = s.settings :=
  (congrArg State.settings (actBody_frame code r s) :)
@[simp] theorem actBody_recognizer (code : Nat) (r : CommandReport) (s : State) : ((actBody code r s).state).recognizer = s.recognizer :=
  (congrArg State.recognizer (actBody_frame code r s) :)
@[simp] theorem actBody_image (code : Nat) (r : CommandReport) (s : State) : ((actBody code r s).state).image = s.image :=
  (congrArg State.image (actBody_frame code r s) :)
@[simp] theorem actBody_foreign (code : Nat) (r : CommandReport) (s : State) : ((actBody code r s).state).foreign = s.foreign :=
  (congrArg State.foreign (actBody_frame code r s) :)
@[simp] theorem actBody_mismatches (code : Nat) (r : CommandReport) (s : State) : ((actBody code r s).state).mismatches = s.mismatches :=
  (congrArg State.mismatches (actBody_frame code r s) :)

/-- All that setScreenBody can change. -/
theorem setScreenBody_frame (r : CommandReport) (s : State) :
    (setScreenBody r s).state = { s with sent := ((setScreenBody r s).state).sent, console := ((setScreenBody r s).state).console, keys := ((setScreenBody r s).state).keys, focusUnit := ((setScreenBody r s).state).focusUnit, pointer := ((setScreenBody r s).state).pointer, ports := ((setScreenBody r s).state).ports, journal := ((setScreenBody r s).state).journal, video := ((setScreenBody r s).state).video, engine := ((setScreenBody r s).state).engine } := by
  apply State.eq_of_fields
  all_goals first
    | with_reducible rfl
    | (unfold setScreenBody; dsimp only; repeat' split
       all_goals simp)
@[simp] theorem setScreenBody_pending (r : CommandReport) (s : State) : ((setScreenBody r s).state).pending = s.pending :=
  (congrArg State.pending (setScreenBody_frame r s) :)
@[simp] theorem setScreenBody_freeUses (r : CommandReport) (s : State) : ((setScreenBody r s).state).freeUses = s.freeUses :=
  (congrArg State.freeUses (setScreenBody_frame r s) :)
@[simp] theorem setScreenBody_clock (r : CommandReport) (s : State) : ((setScreenBody r s).state).clock = s.clock :=
  (congrArg State.clock (setScreenBody_frame r s) :)
@[simp] theorem setScreenBody_settings (r : CommandReport) (s : State) : ((setScreenBody r s).state).settings = s.settings :=
  (congrArg State.settings (setScreenBody_frame r s) :)
@[simp] theorem setScreenBody_tables (r : CommandReport) (s : State) : ((setScreenBody r s).state).tables = s.tables :=
  (congrArg State.tables (setScreenBody_frame r s) :)
@[simp] theorem setScreenBody_recognizer (r : CommandReport) (s : State) : ((setScreenBody r s).state).recognizer = s.recognizer :=
  (congrArg State.recognizer (setScreenBody_frame r s) :)
@[simp] theorem setScreenBody_schedule (r : CommandReport) (s : State) : ((setScreenBody r s).state).schedule = s.schedule :=
  (congrArg State.schedule (setScreenBody_frame r s) :)
@[simp] theorem setScreenBody_image (r : CommandReport) (s : State) : ((setScreenBody r s).state).image = s.image :=
  (congrArg State.image (setScreenBody_frame r s) :)
@[simp] theorem setScreenBody_foreign (r : CommandReport) (s : State) : ((setScreenBody r s).state).foreign = s.foreign :=
  (congrArg State.foreign (setScreenBody_frame r s) :)
@[simp] theorem setScreenBody_mismatches (r : CommandReport) (s : State) : ((setScreenBody r s).state).mismatches = s.mismatches :=
  (congrArg State.mismatches (setScreenBody_frame r s) :)

/-- All that setBroadcastBody can change. -/
theorem setBroadcastBody_frame (r : CommandReport) (s : State) :
    (setBroadcastBody r s).state = { s with focusUnit := ((setBroadcastBody r s).state).focusUnit } := by
  apply State.eq_of_fields
  all_goals first
    | with_reducible rfl
    | (unfold setBroadcastBody; dsimp only
       all_goals simp)
@[simp] theorem setBroadcastBody_pending (r : CommandReport) (s : State) : ((setBroadcastBody r s).state).pending = s.pending :=
  (congrArg State.pending (setBroadcastBody_frame r s) :)
@[simp] theorem setBroadcastBody_sent (r : CommandReport) (s : State) : ((setBroadcastBody r s).state).sent = s.sent :=
  (congrArg State.sent (setBroadcastBody_frame r s) :)
@[simp] theorem setBroadcastBody_freeUses (r : CommandReport) (s : State) : ((setBroadcastBody r s).state).freeUses = s.freeUses :=
  (congrArg State.freeUses (setBroadcastBody_frame r s) :)
@[simp] theorem setBroadcastBody_clock (r : CommandReport) (s : State) : ((setBroadcastBody r s).state).clock = s.clock :=
  (congrArg State.clock (setBroadcastBody_frame r s) :)
@[simp] theorem setBroadcastBody_settings (r : CommandReport) (s : State) : ((setBroadcastBody r s).state).settings = s.settings :=
  (congrArg State.settings (setBroadcastBody_frame r s) :)
@[simp] theorem setBroadcastBody_tables (r : CommandReport) (s : State) : ((setBroadcastBody r s).state).tables = s.tables :=
  (congrArg State.tables (setBroadcastBody_frame r s) :)
@[simp] theorem setBroadcastBody_console (r : CommandReport) (s : State) : ((setBroadcastBody r s).state).console = s.console :=
  (congrArg State.console (setBroadcastBody_frame r s) :)
@[simp] theorem setBroadcastBody_keys (r : CommandReport) (s : State) : ((setBroadcastBody r s).state).keys = s.keys :=
  (congrArg State.keys (setBroadcastBody_frame r s) :)
@[simp] theorem setBroadcastBody_recognizer (r : CommandReport) (s : State) : ((setBroadcastBody r s).state).recognizer = s.recognizer :=
  (congrArg State.recognizer (setBroadcastBody_frame r s) :)
@[simp] theorem setBroadcastBody_pointer (r : CommandReport) (s : State) : ((setBroadcastBody r s).state).pointer = s.pointer :=
  (congrArg State.pointer (setBroadcastBody_frame r s) :)
@[simp] theorem setBroadcastBody_ports (r : CommandReport) (s : State) : ((setBroadcastBody r s).state).ports = s.ports :=
  (congrArg State.ports (setBroadcastBody_frame r s) :)
@[simp] theorem setBroadcastBody_video (r : CommandReport) (s : State) : ((setBroadcastBody r s).state).video = s.video :=
  (congrArg State.video (setBroadcastBody_frame r s) :)
@[simp] theorem setBroadcastBody_schedule (r : CommandReport) (s : State) : ((setBroadcastBody r s).state).schedule = s.schedule :=
  (congrArg State.schedule (setBroadcastBody_frame r s) :)
@[simp] theorem setBroadcastBody_engine (r : CommandReport) (s : State) : ((setBroadcastBody r s).state).engine = s.engine :=
  (congrArg State.engine (setBroadcastBody_frame r s) :)
@[simp] theorem setBroadcastBody_journal (r : CommandReport) (s : State) : ((setBroadcastBody r s).state).journal = s.journal :=
  (congrArg State.journal (setBroadcastBody_frame r s) :)
@[simp] theorem setBroadcastBody_image (r : CommandReport) (s : State) : ((setBroadcastBody r s).state).image = s.image :=
  (congrArg State.image (setBroadcastBody_frame r s) :)
@[simp] theorem setBroadcastBody_foreign (r : CommandReport) (s : State) : ((setBroadcastBody r s).state).foreign = s.foreign :=
  (congrArg State.foreign (setBroadcastBody_frame r s) :)
@[simp] theorem setBroadcastBody_mismatches (r : CommandReport) (s : State) : ((setBroadcastBody r s).state).mismatches = s.mismatches :=
  (congrArg State.mismatches (setBroadcastBody_frame r s) :)

/-- All that scheduleBody can change. -/
theorem scheduleBody_frame (r : CommandReport) (s : State) :
    (scheduleBody r s).state = { s with schedule := ((scheduleBody r s).state).schedule } := by
  apply State.eq_of_fields
  all_goals first
    | with_reducible rfl
    | (unfold scheduleBody; dsimp only; repeat' split
       all_goals simp)
@[simp] theorem scheduleBody_pending (r : CommandReport) (s : State) : ((scheduleBody r s).state).pending = s.pending :=
  (congrArg State.pending (scheduleBody_frame r s) :)
@[simp] theorem scheduleBody_sent (r : CommandReport) (s : State) : ((scheduleBody r s).state).sent = s.sent :=
  (congrArg State.sent (scheduleBody_frame r s) :)
@[simp] theorem scheduleBody_freeUses (r : CommandReport) (s : State) : ((scheduleBody r s).state).freeUses = s.freeUses :=
  (congrArg State.freeUses (scheduleBody_frame r s) :)
@[simp] theorem scheduleBody_clock (r : CommandReport) (s : State) : ((scheduleBody r s).state).clock = s.clock :=
  (congrArg State.clock (scheduleBody_frame r s) :)
@[simp] theorem scheduleBody_settings (r : CommandReport) (s : State) : ((scheduleBody r s).state).settings = s.settings :=
  (congrArg State.settings (scheduleBody_frame r s) :)
@[simp] theorem scheduleBody_tables (r : CommandReport) (s : State) : ((scheduleBody r s).state).tables = s.tables :=
  (congrArg State.tables (scheduleBody_frame r s) :)
@[simp] theorem scheduleBody_console (r : CommandReport) (s : State) : ((scheduleBody r s).state).console = s.console :=
  (congrArg State.console (scheduleBody_frame r s) :)
@[simp] theorem scheduleBody_keys (r : CommandReport) (s : State) : ((scheduleBody r s).state).keys = s.keys :=
  (congrArg State.keys (scheduleBody_frame r s) :)
@[simp] theorem scheduleBody_recognizer (r : CommandReport) (s : State) : ((scheduleBody r s).state).recognizer = s.recognizer :=
  (congrArg State.recognizer (scheduleBody_frame r s) :)
@[simp] theorem scheduleBody_focusUnit (r : CommandReport) (s : State) : ((scheduleBody r s).state).focusUnit = s.focusUnit :=
  (congrArg State.focusUnit (scheduleBody_frame r s) :)
@[simp] theorem scheduleBody_pointer (r : CommandReport) (s : State) : ((scheduleBody r s).state).pointer = s.pointer :=
  (congrArg State.pointer (scheduleBody_frame r s) :)
@[simp] theorem scheduleBody_ports (r : CommandReport) (s : State) : ((scheduleBody r s).state).ports = s.ports :=
  (congrArg State.ports (scheduleBody_frame r s) :)
@[simp] theorem scheduleBody_video (r : CommandReport) (s : State) : ((scheduleBody r s).state).video = s.video :=
  (congrArg State.video (scheduleBody_frame r s) :)
@[simp] theorem scheduleBody_engine (r : CommandReport) (s : State) : ((scheduleBody r s).state).engine = s.engine :=
  (congrArg State.engine (scheduleBody_frame r s) :)
@[simp] theorem scheduleBody_journal (r : CommandReport) (s : State) : ((scheduleBody r s).state).journal = s.journal :=
  (congrArg State.journal (scheduleBody_frame r s) :)
@[simp] theorem scheduleBody_image (r : CommandReport) (s : State) : ((scheduleBody r s).state).image = s.image :=
  (congrArg State.image (scheduleBody_frame r s) :)
@[simp] theorem scheduleBody_foreign (r : CommandReport) (s : State) : ((scheduleBody r s).state).foreign = s.foreign :=
  (congrArg State.foreign (scheduleBody_frame r s) :)
@[simp] theorem scheduleBody_mismatches (r : CommandReport) (s : State) : ((scheduleBody r s).state).mismatches = s.mismatches :=
  (congrArg State.mismatches (scheduleBody_frame r s) :)

/-- All that cancelBody can change. -/
theorem cancelBody_frame (r : CommandReport) (s : State) :
    (cancelBody r s).state = { s with schedule := ((cancelBody r s).state).schedule } := by
  apply State.eq_of_fields
  all_goals first
    | with_reducible rfl
    | (unfold cancelBody; dsimp only; repeat' split
       all_goals simp)
@[simp] theorem cancelBody_pending (r : CommandReport) (s : State) : ((cancelBody r s).state).pending = s.pending :=
  (congrArg State.pending (cancelBody_frame r s) :)
@[simp] theorem cancelBody_sent (r : CommandReport) (s : State) : ((cancelBody r s).state).sent = s.sent :=
  (congrArg State.sent (cancelBody_frame r s) :)
@[simp] theorem cancelBody_freeUses (r : CommandReport) (s : State) : ((cancelBody r s).state).freeUses = s.freeUses :=
  (congrArg State.freeUses (cancelBody_frame r s) :)
@[simp] theorem cancelBody_clock (r : CommandReport) (s : State) : ((cancelBody r s).state).clock = s.clock :=
  (congrArg State.clock (cancelBody_frame r s) :)
@[simp] theorem cancelBody_settings (r : CommandReport) (s : State) : ((cancelBody r s).state).settings = s.settings :=
  (congrArg State.settings (cancelBody_frame r s) :)
@[simp] theorem cancelBody_tables (r : CommandReport) (s : State) : ((cancelBody r s).state).tables = s.tables :=
  (congrArg State.tables (cancelBody_frame r s) :)
@[simp] theorem cancelBody_console (r : CommandReport) (s : State) : ((cancelBody r s).state).console = s.console :=
  (congrArg State.console (cancelBody_frame r s) :)
@[simp] theorem cancelBody_keys (r : CommandReport) (s : State) : ((cancelBody r s).state).keys = s.keys :=
  (congrArg State.keys (cancelBody_frame r s) :)
@[simp] theorem cancelBody_recognizer (r : CommandReport) (s : State) : ((cancelBody r s).state).recognizer = s.recognizer :=
  (congrArg State.recognizer (cancelBody_frame r s) :)
@[simp] theorem cancelBody_focusUnit (r : CommandReport) (s : State) : ((cancelBody r s).state).focusUnit = s.focusUnit :=
  (congrArg State.focusUnit (cancelBody_frame r s) :)
@[simp] theorem cancelBody_pointer (r : CommandReport) (s : State) : ((cancelBody r s).state).pointer = s.pointer :=
  (congrArg State.pointer (cancelBody_frame r s) :)
@[simp] theorem cancelBody_ports (r : CommandReport) (s : State) : ((cancelBody r s).state).ports = s.ports :=
  (congrArg State.ports (cancelBody_frame r s) :)
@[simp] theorem cancelBody_video (r : CommandReport) (s : State) : ((cancelBody r s).state).video = s.video :=
  (congrArg State.video (cancelBody_frame r s) :)
@[simp] theorem cancelBody_engine (r : CommandReport) (s : State) : ((cancelBody r s).state).engine = s.engine :=
  (congrArg State.engine (cancelBody_frame r s) :)
@[simp] theorem cancelBody_journal (r : CommandReport) (s : State) : ((cancelBody r s).state).journal = s.journal :=
  (congrArg State.journal (cancelBody_frame r s) :)
@[simp] theorem cancelBody_image (r : CommandReport) (s : State) : ((cancelBody r s).state).image = s.image :=
  (congrArg State.image (cancelBody_frame r s) :)
@[simp] theorem cancelBody_foreign (r : CommandReport) (s : State) : ((cancelBody r s).state).foreign = s.foreign :=
  (congrArg State.foreign (cancelBody_frame r s) :)
@[simp] theorem cancelBody_mismatches (r : CommandReport) (s : State) : ((cancelBody r s).state).mismatches = s.mismatches :=
  (congrArg State.mismatches (cancelBody_frame r s) :)

/-- All that clearConditionsBody can change. -/
theorem clearConditionsBody_frame (r : CommandReport) (s : State) :
    (clearConditionsBody r s).state = { s with ports := ((clearConditionsBody r s).state).ports } := by
  apply State.eq_of_fields
  all_goals first
    | with_reducible rfl
    | (unfold clearConditionsBody; dsimp only)
@[simp] theorem clearConditionsBody_pending (r : CommandReport) (s : State) : ((clearConditionsBody r s).state).pending = s.pending :=
  (congrArg State.pending (clearConditionsBody_frame r s) :)
@[simp] theorem clearConditionsBody_sent (r : CommandReport) (s : State) : ((clearConditionsBody r s).state).sent = s.sent :=
  (congrArg State.sent (clearConditionsBody_frame r s) :)
@[simp] theorem clearConditionsBody_freeUses (r : CommandReport) (s : State) : ((clearConditionsBody r s).state).freeUses = s.freeUses :=
  (congrArg State.freeUses (clearConditionsBody_frame r s) :)
@[simp] theorem clearConditionsBody_clock (r : CommandReport) (s : State) : ((clearConditionsBody r s).state).clock = s.clock :=
  (congrArg State.clock (clearConditionsBody_frame r s) :)
@[simp] theorem clearConditionsBody_settings (r : CommandReport) (s : State) : ((clearConditionsBody r s).state).settings = s.settings :=
  (congrArg State.settings (clearConditionsBody_frame r s) :)
@[simp] theorem clearConditionsBody_tables (r : CommandReport) (s : State) : ((clearConditionsBody r s).state).tables = s.tables :=
  (congrArg State.tables (clearConditionsBody_frame r s) :)
@[simp] theorem clearConditionsBody_console (r : CommandReport) (s : State) : ((clearConditionsBody r s).state).console = s.console :=
  (congrArg State.console (clearConditionsBody_frame r s) :)
@[simp] theorem clearConditionsBody_keys (r : CommandReport) (s : State) : ((clearConditionsBody r s).state).keys = s.keys :=
  (congrArg State.keys (clearConditionsBody_frame r s) :)
@[simp] theorem clearConditionsBody_recognizer (r : CommandReport) (s : State) : ((clearConditionsBody r s).state).recognizer = s.recognizer :=
  (congrArg State.recognizer (clearConditionsBody_frame r s) :)
@[simp] theorem clearConditionsBody_focusUnit (r : CommandReport) (s : State) : ((clearConditionsBody r s).state).focusUnit = s.focusUnit :=
  (congrArg State.focusUnit (clearConditionsBody_frame r s) :)
@[simp] theorem clearConditionsBody_pointer (r : CommandReport) (s : State) : ((clearConditionsBody r s).state).pointer = s.pointer :=
  (congrArg State.pointer (clearConditionsBody_frame r s) :)
@[simp] theorem clearConditionsBody_video (r : CommandReport) (s : State) : ((clearConditionsBody r s).state).video = s.video :=
  (congrArg State.video (clearConditionsBody_frame r s) :)
@[simp] theorem clearConditionsBody_schedule (r : CommandReport) (s : State) : ((clearConditionsBody r s).state).schedule = s.schedule :=
  (congrArg State.schedule (clearConditionsBody_frame r s) :)
@[simp] theorem clearConditionsBody_engine (r : CommandReport) (s : State) : ((clearConditionsBody r s).state).engine = s.engine :=
  (congrArg State.engine (clearConditionsBody_frame r s) :)
@[simp] theorem clearConditionsBody_journal (r : CommandReport) (s : State) : ((clearConditionsBody r s).state).journal = s.journal :=
  (congrArg State.journal (clearConditionsBody_frame r s) :)
@[simp] theorem clearConditionsBody_image (r : CommandReport) (s : State) : ((clearConditionsBody r s).state).image = s.image :=
  (congrArg State.image (clearConditionsBody_frame r s) :)
@[simp] theorem clearConditionsBody_foreign (r : CommandReport) (s : State) : ((clearConditionsBody r s).state).foreign = s.foreign :=
  (congrArg State.foreign (clearConditionsBody_frame r s) :)
@[simp] theorem clearConditionsBody_mismatches (r : CommandReport) (s : State) : ((clearConditionsBody r s).state).mismatches = s.mismatches :=
  (congrArg State.mismatches (clearConditionsBody_frame r s) :)

/-- All that clearCountersBody can change. -/
theorem clearCountersBody_frame (s : State) :
    (clearCountersBody s).state = { s with console := ((clearCountersBody s).state).console, keys := ((clearCountersBody s).state).keys, foreign := ((clearCountersBody s).state).foreign, mismatches := ((clearCountersBody s).state).mismatches, ports := ((clearCountersBody s).state).ports, video := ((clearCountersBody s).state).video } := by
  apply State.eq_of_fields
  all_goals first
    | with_reducible rfl
    | (unfold clearCountersBody; dsimp only
       all_goals simp)
@[simp] theorem clearCountersBody_pending (s : State) : ((clearCountersBody s).state).pending = s.pending :=
  (congrArg State.pending (clearCountersBody_frame s) :)
@[simp] theorem clearCountersBody_sent (s : State) : ((clearCountersBody s).state).sent = s.sent :=
  (congrArg State.sent (clearCountersBody_frame s) :)
@[simp] theorem clearCountersBody_freeUses (s : State) : ((clearCountersBody s).state).freeUses = s.freeUses :=
  (congrArg State.freeUses (clearCountersBody_frame s) :)
@[simp] theorem clearCountersBody_clock (s : State) : ((clearCountersBody s).state).clock = s.clock :=
  (congrArg State.clock (clearCountersBody_frame s) :)
@[simp] theorem clearCountersBody_settings (s : State) : ((clearCountersBody s).state).settings = s.settings :=
  (congrArg State.settings (clearCountersBody_frame s) :)
@[simp] theorem clearCountersBody_tables (s : State) : ((clearCountersBody s).state).tables = s.tables :=
  (congrArg State.tables (clearCountersBody_frame s) :)
@[simp] theorem clearCountersBody_recognizer (s : State) : ((clearCountersBody s).state).recognizer = s.recognizer :=
  (congrArg State.recognizer (clearCountersBody_frame s) :)
@[simp] theorem clearCountersBody_focusUnit (s : State) : ((clearCountersBody s).state).focusUnit = s.focusUnit :=
  (congrArg State.focusUnit (clearCountersBody_frame s) :)
@[simp] theorem clearCountersBody_pointer (s : State) : ((clearCountersBody s).state).pointer = s.pointer :=
  (congrArg State.pointer (clearCountersBody_frame s) :)
@[simp] theorem clearCountersBody_schedule (s : State) : ((clearCountersBody s).state).schedule = s.schedule :=
  (congrArg State.schedule (clearCountersBody_frame s) :)
@[simp] theorem clearCountersBody_engine (s : State) : ((clearCountersBody s).state).engine = s.engine :=
  (congrArg State.engine (clearCountersBody_frame s) :)
@[simp] theorem clearCountersBody_journal (s : State) : ((clearCountersBody s).state).journal = s.journal :=
  (congrArg State.journal (clearCountersBody_frame s) :)
@[simp] theorem clearCountersBody_image (s : State) : ((clearCountersBody s).state).image = s.image :=
  (congrArg State.image (clearCountersBody_frame s) :)

/-- All that consoleResetBody can change. -/
theorem consoleResetBody_frame (s : State) :
    (consoleResetBody s).state = { s with sent := ((consoleResetBody s).state).sent, console := ((consoleResetBody s).state).console, keys := ((consoleResetBody s).state).keys, recognizer := ((consoleResetBody s).state).recognizer, ports := ((consoleResetBody s).state).ports } := by
  apply State.eq_of_fields
  all_goals first
    | with_reducible rfl
    | (unfold consoleResetBody; dsimp only
       all_goals simp)
@[simp] theorem consoleResetBody_pending (s : State) : ((consoleResetBody s).state).pending = s.pending :=
  (congrArg State.pending (consoleResetBody_frame s) :)
@[simp] theorem consoleResetBody_freeUses (s : State) : ((consoleResetBody s).state).freeUses = s.freeUses :=
  (congrArg State.freeUses (consoleResetBody_frame s) :)
@[simp] theorem consoleResetBody_clock (s : State) : ((consoleResetBody s).state).clock = s.clock :=
  (congrArg State.clock (consoleResetBody_frame s) :)
@[simp] theorem consoleResetBody_settings (s : State) : ((consoleResetBody s).state).settings = s.settings :=
  (congrArg State.settings (consoleResetBody_frame s) :)
@[simp] theorem consoleResetBody_tables (s : State) : ((consoleResetBody s).state).tables = s.tables :=
  (congrArg State.tables (consoleResetBody_frame s) :)
@[simp] theorem consoleResetBody_focusUnit (s : State) : ((consoleResetBody s).state).focusUnit = s.focusUnit :=
  (congrArg State.focusUnit (consoleResetBody_frame s) :)
@[simp] theorem consoleResetBody_pointer (s : State) : ((consoleResetBody s).state).pointer = s.pointer :=
  (congrArg State.pointer (consoleResetBody_frame s) :)
@[simp] theorem consoleResetBody_video (s : State) : ((consoleResetBody s).state).video = s.video :=
  (congrArg State.video (consoleResetBody_frame s) :)
@[simp] theorem consoleResetBody_schedule (s : State) : ((consoleResetBody s).state).schedule = s.schedule :=
  (congrArg State.schedule (consoleResetBody_frame s) :)
@[simp] theorem consoleResetBody_engine (s : State) : ((consoleResetBody s).state).engine = s.engine :=
  (congrArg State.engine (consoleResetBody_frame s) :)
@[simp] theorem consoleResetBody_journal (s : State) : ((consoleResetBody s).state).journal = s.journal :=
  (congrArg State.journal (consoleResetBody_frame s) :)
@[simp] theorem consoleResetBody_image (s : State) : ((consoleResetBody s).state).image = s.image :=
  (congrArg State.image (consoleResetBody_frame s) :)
@[simp] theorem consoleResetBody_foreign (s : State) : ((consoleResetBody s).state).foreign = s.foreign :=
  (congrArg State.foreign (consoleResetBody_frame s) :)
@[simp] theorem consoleResetBody_mismatches (s : State) : ((consoleResetBody s).state).mismatches = s.mismatches :=
  (congrArg State.mismatches (consoleResetBody_frame s) :)

/-- All that deskResetBody can change. -/
theorem deskResetBody_frame (b : Bool) (s : State) :
    (deskResetBody b s).state = { s with sent := ((deskResetBody b s).state).sent, settings := ((deskResetBody b s).state).settings, tables := ((deskResetBody b s).state).tables, image := ((deskResetBody b s).state).image, engine := ((deskResetBody b s).state).engine, pointer := ((deskResetBody b s).state).pointer, console := ((deskResetBody b s).state).console, keys := ((deskResetBody b s).state).keys, recognizer := ((deskResetBody b s).state).recognizer, focusUnit := ((deskResetBody b s).state).focusUnit, ports := ((deskResetBody b s).state).ports, video := ((deskResetBody b s).state).video, schedule := ((deskResetBody b s).state).schedule, journal := ((deskResetBody b s).state).journal, foreign := ((deskResetBody b s).state).foreign, mismatches := ((deskResetBody b s).state).mismatches } := by
  apply State.eq_of_fields
  all_goals first
    | with_reducible rfl
    | (unfold deskResetBody; split <;> simp)
@[simp] theorem deskResetBody_pending (b : Bool) (s : State) : ((deskResetBody b s).state).pending = s.pending :=
  (congrArg State.pending (deskResetBody_frame b s) :)
@[simp] theorem deskResetBody_freeUses (b : Bool) (s : State) : ((deskResetBody b s).state).freeUses = s.freeUses :=
  (congrArg State.freeUses (deskResetBody_frame b s) :)
@[simp] theorem deskResetBody_clock (b : Bool) (s : State) : ((deskResetBody b s).state).clock = s.clock :=
  (congrArg State.clock (deskResetBody_frame b s) :)

/-- All that saveBody can change. -/
theorem saveBody_frame (s : State) :
    (saveBody s).state = { s with image := ((saveBody s).state).image, freeUses := ((saveBody s).state).freeUses } := by
  apply State.eq_of_fields
  all_goals first
    | with_reducible rfl
    | (unfold saveBody; dsimp only; repeat' split
       all_goals simp)
@[simp] theorem saveBody_pending (s : State) : ((saveBody s).state).pending = s.pending :=
  (congrArg State.pending (saveBody_frame s) :)
@[simp] theorem saveBody_sent (s : State) : ((saveBody s).state).sent = s.sent :=
  (congrArg State.sent (saveBody_frame s) :)
@[simp] theorem saveBody_clock (s : State) : ((saveBody s).state).clock = s.clock :=
  (congrArg State.clock (saveBody_frame s) :)
@[simp] theorem saveBody_settings (s : State) : ((saveBody s).state).settings = s.settings :=
  (congrArg State.settings (saveBody_frame s) :)
@[simp] theorem saveBody_tables (s : State) : ((saveBody s).state).tables = s.tables :=
  (congrArg State.tables (saveBody_frame s) :)
@[simp] theorem saveBody_console (s : State) : ((saveBody s).state).console = s.console :=
  (congrArg State.console (saveBody_frame s) :)
@[simp] theorem saveBody_keys (s : State) : ((saveBody s).state).keys = s.keys :=
  (congrArg State.keys (saveBody_frame s) :)
@[simp] theorem saveBody_recognizer (s : State) : ((saveBody s).state).recognizer = s.recognizer :=
  (congrArg State.recognizer (saveBody_frame s) :)
@[simp] theorem saveBody_focusUnit (s : State) : ((saveBody s).state).focusUnit = s.focusUnit :=
  (congrArg State.focusUnit (saveBody_frame s) :)
@[simp] theorem saveBody_pointer (s : State) : ((saveBody s).state).pointer = s.pointer :=
  (congrArg State.pointer (saveBody_frame s) :)
@[simp] theorem saveBody_ports (s : State) : ((saveBody s).state).ports = s.ports :=
  (congrArg State.ports (saveBody_frame s) :)
@[simp] theorem saveBody_video (s : State) : ((saveBody s).state).video = s.video :=
  (congrArg State.video (saveBody_frame s) :)
@[simp] theorem saveBody_schedule (s : State) : ((saveBody s).state).schedule = s.schedule :=
  (congrArg State.schedule (saveBody_frame s) :)
@[simp] theorem saveBody_engine (s : State) : ((saveBody s).state).engine = s.engine :=
  (congrArg State.engine (saveBody_frame s) :)
@[simp] theorem saveBody_journal (s : State) : ((saveBody s).state).journal = s.journal :=
  (congrArg State.journal (saveBody_frame s) :)
@[simp] theorem saveBody_foreign (s : State) : ((saveBody s).state).foreign = s.foreign :=
  (congrArg State.foreign (saveBody_frame s) :)
@[simp] theorem saveBody_mismatches (s : State) : ((saveBody s).state).mismatches = s.mismatches :=
  (congrArg State.mismatches (saveBody_frame s) :)

/-- All that abortBody can change. -/
theorem abortBody_frame (s : State) :
    (abortBody s).state = { s with ports := ((abortBody s).state).ports, engine := ((abortBody s).state).engine } := by
  apply State.eq_of_fields
  all_goals first
    | with_reducible rfl
    | (unfold abortBody; dsimp only; repeat' split
       all_goals simp)
@[simp] theorem abortBody_pending (s : State) : ((abortBody s).state).pending = s.pending :=
  (congrArg State.pending (abortBody_frame s) :)
@[simp] theorem abortBody_sent (s : State) : ((abortBody s).state).sent = s.sent :=
  (congrArg State.sent (abortBody_frame s) :)
@[simp] theorem abortBody_freeUses (s : State) : ((abortBody s).state).freeUses = s.freeUses :=
  (congrArg State.freeUses (abortBody_frame s) :)
@[simp] theorem abortBody_clock (s : State) : ((abortBody s).state).clock = s.clock :=
  (congrArg State.clock (abortBody_frame s) :)
@[simp] theorem abortBody_settings (s : State) : ((abortBody s).state).settings = s.settings :=
  (congrArg State.settings (abortBody_frame s) :)
@[simp] theorem abortBody_tables (s : State) : ((abortBody s).state).tables = s.tables :=
  (congrArg State.tables (abortBody_frame s) :)
@[simp] theorem abortBody_console (s : State) : ((abortBody s).state).console = s.console :=
  (congrArg State.console (abortBody_frame s) :)
@[simp] theorem abortBody_keys (s : State) : ((abortBody s).state).keys = s.keys :=
  (congrArg State.keys (abortBody_frame s) :)
@[simp] theorem abortBody_recognizer (s : State) : ((abortBody s).state).recognizer = s.recognizer :=
  (congrArg State.recognizer (abortBody_frame s) :)
@[simp] theorem abortBody_focusUnit (s : State) : ((abortBody s).state).focusUnit = s.focusUnit :=
  (congrArg State.focusUnit (abortBody_frame s) :)
@[simp] theorem abortBody_pointer (s : State) : ((abortBody s).state).pointer = s.pointer :=
  (congrArg State.pointer (abortBody_frame s) :)
@[simp] theorem abortBody_video (s : State) : ((abortBody s).state).video = s.video :=
  (congrArg State.video (abortBody_frame s) :)
@[simp] theorem abortBody_schedule (s : State) : ((abortBody s).state).schedule = s.schedule :=
  (congrArg State.schedule (abortBody_frame s) :)
@[simp] theorem abortBody_journal (s : State) : ((abortBody s).state).journal = s.journal :=
  (congrArg State.journal (abortBody_frame s) :)
@[simp] theorem abortBody_image (s : State) : ((abortBody s).state).image = s.image :=
  (congrArg State.image (abortBody_frame s) :)
@[simp] theorem abortBody_foreign (s : State) : ((abortBody s).state).foreign = s.foreign :=
  (congrArg State.foreign (abortBody_frame s) :)
@[simp] theorem abortBody_mismatches (s : State) : ((abortBody s).state).mismatches = s.mismatches :=
  (congrArg State.mismatches (abortBody_frame s) :)

/-! Writing the reply. -/

@[simp] theorem finish_pending (c : CommandSpec) (r : CommandReport) (reply : Reply) :
    (finish c r reply).pending = reply.state.pending := by
  unfold finish
  dsimp only
  split <;> simp
@[simp] theorem finish_sent (c : CommandSpec) (r : CommandReport) (reply : Reply) :
    (finish c r reply).sent = reply.state.sent := by
  unfold finish
  dsimp only
  split <;> simp
@[simp] theorem finish_freeUses (c : CommandSpec) (r : CommandReport) (reply : Reply) :
    (finish c r reply).freeUses = reply.state.freeUses := by
  unfold finish
  dsimp only
  split <;> simp
@[simp] theorem finish_clock (c : CommandSpec) (r : CommandReport) (reply : Reply) :
    (finish c r reply).clock = reply.state.clock := by
  unfold finish
  dsimp only
  split <;> simp
@[simp] theorem finish_settings (c : CommandSpec) (r : CommandReport) (reply : Reply) :
    (finish c r reply).settings = reply.state.settings := by
  unfold finish
  dsimp only
  split <;> simp
@[simp] theorem finish_tables (c : CommandSpec) (r : CommandReport) (reply : Reply) :
    (finish c r reply).tables = reply.state.tables := by
  unfold finish
  dsimp only
  split <;> simp
@[simp] theorem finish_console (c : CommandSpec) (r : CommandReport) (reply : Reply) :
    (finish c r reply).console = reply.state.console := by
  unfold finish
  dsimp only
  split <;> simp
@[simp] theorem finish_keys (c : CommandSpec) (r : CommandReport) (reply : Reply) :
    (finish c r reply).keys = reply.state.keys := by
  unfold finish
  dsimp only
  split <;> simp
@[simp] theorem finish_recognizer (c : CommandSpec) (r : CommandReport) (reply : Reply) :
    (finish c r reply).recognizer = reply.state.recognizer := by
  unfold finish
  dsimp only
  split <;> simp
@[simp] theorem finish_focusUnit (c : CommandSpec) (r : CommandReport) (reply : Reply) :
    (finish c r reply).focusUnit = reply.state.focusUnit := by
  unfold finish
  dsimp only
  split <;> simp
@[simp] theorem finish_pointer (c : CommandSpec) (r : CommandReport) (reply : Reply) :
    (finish c r reply).pointer = reply.state.pointer := by
  unfold finish
  dsimp only
  split <;> simp
@[simp] theorem finish_video (c : CommandSpec) (r : CommandReport) (reply : Reply) :
    (finish c r reply).video = reply.state.video := by
  unfold finish
  dsimp only
  split <;> simp
@[simp] theorem finish_schedule (c : CommandSpec) (r : CommandReport) (reply : Reply) :
    (finish c r reply).schedule = reply.state.schedule := by
  unfold finish
  dsimp only
  split <;> simp
@[simp] theorem finish_journal (c : CommandSpec) (r : CommandReport) (reply : Reply) :
    (finish c r reply).journal = reply.state.journal := by
  unfold finish
  dsimp only
  split <;> simp
@[simp] theorem finish_image (c : CommandSpec) (r : CommandReport) (reply : Reply) :
    (finish c r reply).image = reply.state.image := by
  unfold finish
  dsimp only
  split <;> simp
@[simp] theorem finish_foreign (c : CommandSpec) (r : CommandReport) (reply : Reply) :
    (finish c r reply).foreign = reply.state.foreign := by
  unfold finish
  dsimp only
  split <;> simp
@[simp] theorem finish_mismatches (c : CommandSpec) (r : CommandReport) (reply : Reply) :
    (finish c r reply).mismatches = reply.state.mismatches := by
  unfold finish
  dsimp only
  split <;> simp

/-- Writing a reply changes of the ports only the issuing port's slot (R168). -/
theorem onlySlot_finish (c : CommandSpec) (r : CommandReport) (reply : Reply) (j : Computer) :
    OnlySlot (reply.state.port j) ((finish c r reply).port j) := by
  unfold finish
  dsimp only
  split <;> exact onlySlot_writeSlot _ _ _ _

/-- What a command report can do, said once: it is dropped, refused with a reply, or carried out (R117, R167, R169). -/
theorem takeCommand_cases (c : CommandSpec) (body : State → Reply) (r : CommandReport) (s : State) :
    takeCommand c body r s = dropReport r s ∨
      (∃ x, takeCommand c body r s = finish c r { state := s, result := x }) ∨
      takeCommand c body r s = finish c r (body s) := by
  unfold takeCommand
  split
  · split
    · exact Or.inr (Or.inl ⟨_, rfl⟩)
    · exact Or.inr (Or.inr rfl)
  · exact Or.inl rfl

/-- A property that dropping a report, writing a reply and the command's body keep is kept by the command. -/
theorem takeCommand_keeps {P : State → Prop} (hd : ∀ r s, P s → P (dropReport r s))
    (hf : ∀ c r reply, P reply.state → P (finish c r reply)) (c : CommandSpec) (body : State → Reply)
    (r : CommandReport) (s : State) (hs : P s) (hb : P (body s).state) : P (takeCommand c body r s) := by
  rcases takeCommand_cases c body r s with h | ⟨x, h⟩ | h <;> rw [h]
  · exact hd r s hs
  · exact hf _ _ _ hs
  · exact hf _ _ _ hb

/-- A reading that dropping a report, writing a reply and the command's body keep is kept by the command. -/
theorem takeCommand_reading {α : Type} (π : State → α) (hd : ∀ r s, π (dropReport r s) = π s)
    (hf : ∀ c r reply, π (finish c r reply) = π reply.state) (c : CommandSpec) (body : State → Reply)
    (r : CommandReport) (s : State) (hb : π (body s).state = π s) : π (takeCommand c body r s) = π s := by
  rcases takeCommand_cases c body r s with h | ⟨x, h⟩ | h <;> rw [h]
  · exact hd r s
  · exact hf _ _ _
  · rw [hf, hb]

end Sys2Proof.Machine
end

