-- ==== Sys2Proof/Laws/Commands.lean ====
section
/-! SUPPORT. How an admitted command report is carried out: the form in which every management command's outcome is
stated (R168 to R171). -/

namespace Sys2Proof.Safety

open Sys2Proof.Machine

variable {n : Nat} {cls : CommandClass} {whileBusy : Bool} {r : CommandReport} {s : State}

/-- An admitted report reaches the engine (R117, R167). -/
theorem Admitted.reaches (h : Admitted n cls whileBusy r s) : reachesEngine r s = true := by
  simp [reachesEngine, State.isManagement, h.1, h.2.1, h.2.2.1]

/-- The issuing port of an admitted report is a management port (R117). -/
theorem Admitted.managed (h : Admitted n cls whileBusy r s) : inSet s.settings.managementPorts r.port = true := h.2.1

/-- No check of R169 refuses an admitted report. -/
theorem Admitted.not_refused (h : Admitted n cls whileBusy r s) (c : CommandSpec) (hc : c.cls = cls)
    (hb : whileBusy = true → c.whileBusy = true) (hl : lengthAllowed c r.length = true) : refusalOf c r s = none := by
  obtain ⟨-, -, -, -, hv, he⟩ := h
  subst hc
  rcases he with he | he
  · simp [refusalOf, hl, hv, he]
  · simp [refusalOf, hl, hv, hb he]

theorem lengthAllowed_fixed {code : Byte} {length : Byte} (h : length.toNat = n) (hn : n ≤ 56) :
    lengthAllowed (fixedLength code n cls) length = true := by
  simp [lengthAllowed, fixedLength, Config.maxParameters, h, hn]

/-- A command of one fixed length is carried out (R169). -/
theorem Admitted.take_fixed (h : Admitted n cls whileBusy r s) (code : Byte) (body : State → Reply) (hn : n ≤ 56)
    (hb : whileBusy = true → cls = .read) :
    takeCommand (fixedLength code n cls) body r s = finish (fixedLength code n cls) r (body s) :=
  takeCommand_of_admitted _ _ _ _ h.reaches
    (h.not_refused _ rfl (fun e => by simp [fixedLength, hb e]) (lengthAllowed_fixed h.2.2.2.1 hn))

/-- A reply that defers nothing is the issuing port's slot written (R168). -/
theorem finish_answered (c : CommandSpec) (r : CommandReport) (reply : Reply) (hw : reply.wait = none)
    (hm : inSet reply.state.settings.managementPorts r.port = true) :
    finish c r reply = answered r c.code reply.result reply.data reply.state := by
  simp [finish, hw, writeSlot, State.isManagement, hm, answered, onPort]

/-- A reply that defers is the slot written and the engine BUSY (R168, R171). -/
theorem finish_deferred (c : CommandSpec) (r : CommandReport) (reply : Reply) (command : DeferredCommand) (wait : Wait)
    (hw : reply.wait = some (command, wait)) (hr : reply.result = .accepted) (hd : reply.data = [])
    (hc : c.code = deferredCode command) (hm : inSet reply.state.settings.managementPorts r.port = true) :
    finish c r reply = deferred r command wait reply.focusSkipped reply.state := by
  simp [finish, hw, writeSlot, State.isManagement, hm, deferred, answered, onPort, hr, hd, hc]

/-- A command of one fixed length that its body answers at once (R168, R169). -/
theorem Admitted.answers (h : Admitted n cls whileBusy r s) {code : Byte} {body : State → Reply} {result : Result}
    {data : List Byte} {t : State} (e : body s = Reply.mk t result data none false)
    (hs : t.settings = s.settings := by rfl) (hn : n ≤ 56 := by decide)
    (hb : whileBusy = true → cls = .read := by simp) :
    takeCommand (fixedLength code n cls) body r s = answered r code result data t := by
  rw [h.take_fixed code body hn hb, e, finish_answered _ _ _ rfl (by rw [hs]; exact h.managed)]
  rfl

/-- An ACT whose owner's answer defers nothing (R180). -/
theorem Admitted.acts (h : Admitted 3 .operate whileBusy r s) {code : Nat} {a : Action}
    (hc : natAt r.params 0 = code) (ha : parseAction code (read16 r.params 1) = some a)
    (hw : actWait a (runAction a .management s) = none) (hb : whileBusy = false := by rfl) :
    takeCommand actSpec (actBody code r) r s =
      answered r 0x28#8 (runAction a .management s).answer (insertedData (runAction a .management s).inserted)
        (runAction a .management s).state := by
  have e : actBody code r s = actReply a (runAction a .management s) := by simp [actBody, hc, ha]
  unfold actSpec
  rw [h.take_fixed 0x28#8 _ (by decide) (by simp [hb]), e,
    finish_answered _ _ _ (by simp [actReply, hw]) (by simpa [actReply] using h.managed)]
  simp [actReply, hw, fixedLength]

/-- An ACT that its owner's answer defers (R171, R180). -/
theorem Admitted.acts_deferred (h : Admitted 3 .operate whileBusy r s) {code : Nat} {a : Action}
    {command : DeferredCommand} {wait : Wait} (hc : natAt r.params 0 = code)
    (ha : parseAction code (read16 r.params 1) = some a)
    (hw : actWait a (runAction a .management s) = some (command, wait))
    (hi : (runAction a .management s).inserted = none) (hd : 0x28#8 = deferredCode command)
    (hb : whileBusy = false := by rfl) :
    takeCommand actSpec (actBody code r) r s =
      deferred r command wait (runAction a .management s).skipped (runAction a .management s).state := by
  have e : actBody code r s = actReply a (runAction a .management s) := by simp [actBody, hc, ha]
  unfold actSpec
  rw [h.take_fixed 0x28#8 _ (by decide) (by simp [hb]), e,
    finish_deferred _ _ _ command wait (by simp [actReply, hw]) (by simp [actReply, hw])
      (by simp [actReply, hi, insertedData]) hd (by simpa [actReply] using h.managed)]
  rfl

/-- A command of one fixed length that its body defers (R169, R171). -/
theorem Admitted.defers (h : Admitted n cls whileBusy r s) {code : Byte} {body : State → Reply}
    {command : DeferredCommand} {wait : Wait} {t : State} {skipped : Bool}
    (e : body s = Reply.mk t .accepted [] (some (command, wait)) skipped) (hc : code = deferredCode command)
    (hs : t.settings = s.settings := by rfl) (hn : n ≤ 56 := by decide)
    (hb : whileBusy = true → cls = .read := by simp) :
    takeCommand (fixedLength code n cls) body r s = deferred r command wait skipped t := by
  rw [h.take_fixed code body hn hb, e,
    finish_deferred _ _ _ command wait rfl rfl rfl hc (by rw [hs]; exact h.managed)]

end Sys2Proof.Safety
end

