-- ==== Sys2Proof/Laws/Memory.lean ====
section
/-! SUPPORT. The configuration memory: what a written byte reads as, that every other byte stays, and that every
operation keeps the canonical form. -/

namespace Sys2Proof.Machine

/-- The cells of a block lie in the block and hold no blank byte. -/
theorem mem_cellsOf {start : Nat} {bytes : List Byte} {c : Host.Cell} (h : c ∈ cellsOf start bytes) :
    start ≤ c.1 ∧ c.1 < start + bytes.length ∧ c.2 ≠ Config.blankByte := by
  induction bytes generalizing start with
  | nil => simp [cellsOf] at h
  | cons b bs ih =>
    unfold cellsOf at h
    split at h
    · have := ih h
      simp only [List.length_cons]
      exact ⟨by omega, by omega, this.2.2⟩
    · next hb =>
      rcases List.mem_cons.mp h with h | h
      · subst h; exact ⟨le_refl _, by simp, hb⟩
      · have := ih h
        simp only [List.length_cons]
        exact ⟨by omega, by omega, this.2.2⟩

/-- The cells of a block are in canonical form. -/
theorem memoryWf_cellsOf (start : Nat) (bytes : List Byte) : memoryWf (cellsOf start bytes) := by
  refine ⟨?_, fun c h => (mem_cellsOf h).2.2⟩
  induction bytes generalizing start with
  | nil => exact List.Pairwise.nil
  | cons b bs ih =>
    unfold cellsOf
    split
    · exact ih _
    · refine List.Pairwise.cons (fun c h => ?_) (ih _)
      have := (mem_cellsOf h).1
      show start < c.1
      omega

/-- A write keeps the canonical form. -/
theorem memoryWf_writeBlock {m : List Host.Cell} (h : memoryWf m) (start : Nat) (bytes : List Byte) :
    memoryWf (writeBlock m start bytes) := by
  have hc := memoryWf_cellsOf start bytes
  refine ⟨?_, fun c hm => ?_⟩
  · unfold writeBlock
    refine List.pairwise_append.mpr ⟨List.pairwise_append.mpr ⟨h.1.filter _, hc.1, fun a ha b hb => ?_⟩, h.1.filter _,
      fun a ha b hb => ?_⟩
    · have := (mem_cellsOf hb).1
      have := (List.mem_filter.mp ha).2
      simp only [decide_eq_true_eq] at this
      omega
    · have hb := (List.mem_filter.mp hb).2
      simp only [decide_eq_true_eq] at hb
      rcases List.mem_append.mp ha with ha | ha
      · have := (List.mem_filter.mp ha).2
        simp only [decide_eq_true_eq] at this
        omega
      · have := (mem_cellsOf ha).2.1
        omega
  · simp only [writeBlock, List.mem_append, List.mem_filter] at hm
    rcases hm with (hm | hm) | hm
    · exact h.2 c hm.1
    · exact (mem_cellsOf hm).2.2
    · exact h.2 c hm.1

/-- The memory of the reset state is in canonical form. -/
theorem memoryWf_reset : memoryWf State.reset.image.memory := ⟨List.Pairwise.nil, fun _ h => by simp [State.reset] at h⟩

theorem readCell_nil (a : Nat) : readCell [] a = Config.blankByte := rfl

theorem readCell_cons (c : Host.Cell) (m : List Host.Cell) (a : Nat) :
    readCell (c :: m) a = if c.1 = a then c.2 else readCell m a := by
  unfold readCell
  by_cases h : c.1 = a <;> simp [h]

/-- Reading past cells that lie elsewhere. -/
theorem readCell_append_of_not_mem {m n : List Host.Cell} {a : Nat} (h : ∀ c ∈ m, c.1 ≠ a) :
    readCell (m ++ n) a = readCell n a := by
  induction m with
  | nil => rfl
  | cons c m ih =>
    rw [List.cons_append, readCell_cons, if_neg (h c List.mem_cons_self), ih (fun d hd => h d (List.mem_cons_of_mem _ hd))]

theorem readCell_append_right {m n : List Host.Cell} {a : Nat} (h : ∀ c ∈ n, c.1 ≠ a) :
    readCell (m ++ n) a = readCell m a := by
  induction m with
  | nil =>
    rw [List.nil_append]
    have := readCell_append_of_not_mem (n := []) h
    rwa [List.append_nil] at this
  | cons c m ih => rw [List.cons_append, readCell_cons, readCell_cons, ih]

theorem readCell_filter {m : List Host.Cell} {p : Host.Cell → Bool} {a : Nat} (h : ∀ c : Host.Cell, c.1 = a → p c = true) :
    readCell (m.filter p) a = readCell m a := by
  induction m with
  | nil => rfl
  | cons c m ih =>
    by_cases hp : p c = true
    · rw [List.filter_cons_of_pos hp, readCell_cons, readCell_cons, ih]
    · rw [List.filter_cons_of_neg hp, readCell_cons, ih, if_neg (fun e => hp (h c e))]

/-- A block that was written reads as its bytes. -/
theorem readCell_cellsOf (start : Nat) (bytes : List Byte) (i : Nat) :
    readCell (cellsOf start bytes) (start + i) = byteAt bytes i := by
  induction bytes generalizing start i with
  | nil => simp [cellsOf, readCell_nil, byteAt, Config.blankByte]
  | cons b bs ih =>
    unfold cellsOf
    cases i with
    | zero =>
      split
      · next hb =>
        have := readCell_append_of_not_mem (n := []) (a := start + 0) (m := cellsOf (start + 1) bs)
          (fun c h => by have := (mem_cellsOf h).1; omega)
        rw [List.append_nil] at this
        rw [this, readCell_nil, ← hb]
        rfl
      · rw [readCell_cons, if_pos (by simp)]
        rfl
    | succ i =>
      have e : start + (i + 1) = start + 1 + i := by omega
      split
      · rw [e, ih]; rfl
      · rw [readCell_cons, if_neg (by simp), e, ih]; rfl

/-- A write is read back, and leaves every byte outside its block alone. -/
theorem readCell_writeBlock (m : List Host.Cell) (start : Nat) (bytes : List Byte) (a : Nat) :
    readCell (writeBlock m start bytes) a =
      if start ≤ a ∧ a < start + bytes.length then byteAt bytes (a - start) else readCell m a := by
  unfold writeBlock
  split
  · next h =>
    rw [readCell_append_right (fun c hc => by
        have := (List.mem_filter.mp hc).2
        simp only [decide_eq_true_eq] at this
        omega),
      readCell_append_of_not_mem (fun c hc => by
        have := (List.mem_filter.mp hc).2
        simp only [decide_eq_true_eq] at this
        omega)]
    obtain ⟨i, rfl⟩ := Nat.exists_eq_add_of_le h.1
    rw [readCell_cellsOf, Nat.add_sub_cancel_left]
  · next h =>
    by_cases hl : a < start
    · rw [readCell_append_right (fun c hc => by
          have := (List.mem_filter.mp hc).2
          simp only [decide_eq_true_eq] at this
          omega),
        readCell_append_right (fun c hc => by have := (mem_cellsOf hc).1; omega),
        readCell_filter (fun c hc => by simp [hc, hl])]
    · rw [readCell_append_of_not_mem (fun c hc => by
          rcases List.mem_append.mp hc with hc | hc
          · have := (List.mem_filter.mp hc).2
            simp only [decide_eq_true_eq] at this
            omega
          · have := (mem_cellsOf hc).2.1
            omega),
        readCell_filter (fun c hc => by simp only [decide_eq_true_eq]; omega)]

/-- A block read back is the bytes that each address holds. -/
theorem readBlock_length (m : List Host.Cell) (start length : Nat) : (readBlock m start length).length = length := by
  simp [readBlock]

/-- A block that was written is read back whole. -/
theorem readBlock_writeBlock (m : List Host.Cell) (start : Nat) (bytes : List Byte) :
    readBlock (writeBlock m start bytes) start bytes.length = bytes := by
  apply List.ext_getElem (readBlock_length _ _ _)
  intro i hi hb
  simp only [readBlock, List.getElem_map, List.getElem_range]
  rw [readCell_writeBlock, if_pos ⟨by omega, by omega⟩, Nat.add_sub_cancel_left]
  simp [byteAt, hb]

/-! Power lost during a write (R188). -/

/-- A word's low byte changed changes the sum of the words by as much. -/
theorem wordSum_modify_low (g : Byte → Byte) (n : Nat) (bytes : List Byte) (h : 2 * n + 1 < bytes.length) :
    wordSum (bytes.modify (2 * n) g) + (byteAt bytes (2 * n)).toNat =
      wordSum bytes + (g (byteAt bytes (2 * n))).toNat := by
  induction n generalizing bytes with
  | zero =>
    match bytes, h with
    | lo :: hi :: rest, _ => simp [wordSum, byteAt]; omega
  | succ n ih =>
    match bytes, h with
    | lo :: hi :: rest, h =>
      have := ih rest (by simp only [List.length_cons] at h; omega)
      have e : 2 * (n + 1) = 2 * n + 1 + 1 := by omega
      rw [e]
      simp only [List.modify_succ_cons, wordSum, byteAt, List.getD_cons_succ] at this ⊢
      omega

theorem length_disagreeing (free : Byte) (bytes : List Byte) : (disagreeing free bytes).length = bytes.length := by
  unfold disagreeing
  split <;> simp

/-- A section after power was lost during its write fails the check of R183. -/
theorem sectionValid_disagreeing (free : Byte) (bytes : List Byte) (h : bytes.length = 670) :
    sectionValid (disagreeing free bytes) = false := by
  unfold disagreeing
  split
  · next hv =>
    have hs := wordSum_modify_low (fun b => b ^^^ (if free = 0#8 then 1#8 else free)) 334 bytes (by omega)
    simp only [Nat.reduceMul] at hs
    generalize byteAt bytes 668 = x at hs
    have hn : (x ^^^ (if free = 0#8 then 1#8 else free)).toNat ≠ x.toNat := fun e => by
      have hx := congrArg (x ^^^ ·) (BitVec.eq_of_toNat_eq e)
      simp only [← BitVec.xor_assoc, BitVec.xor_self, BitVec.zero_xor] at hx
      split at hx <;> simp_all
    have := (x ^^^ (if free = 0#8 then 1#8 else free)).isLt
    have := x.isLt
    simp only [sectionValid, decide_eq_true_eq] at hv
    exact decide_eq_false (by simp only [Config.checkOffset]; omega)
  · next hv => simpa using hv

/-- The memory at power-on keeps the canonical form. -/
theorem memoryWf_memoryAtPowerOn {s : State} (h : memoryWf s.image.memory) (image : Option (List Byte)) :
    memoryWf (memoryAtPowerOn image s) := by
  have hh : memoryWf ((image.map (cellsOf 0)).getD s.image.memory) := by
    cases image with
    | none => exact h
    | some bytes => exact memoryWf_cellsOf 0 bytes
  unfold memoryAtPowerOn
  split
  · exact memoryWf_writeBlock hh _ _
  · exact hh

/-- The tables section at the power-on after power was lost during its write fails the check of R183. -/
theorem sectionValid_memoryAtPowerOn {s : State} {written : List Byte} (h : s.image.writing = some written)
    (image : Option (List Byte)) : sectionValid (readBlock (memoryAtPowerOn image s) 22 670) = false := by
  unfold memoryAtPowerOn memoryAfterPowerLoss
  simp only [h, Option.isSome_some, if_true, Config.tablesOffset, Config.tablesLength]
  generalize hb : (if image.isSome = true then readBlock _ 22 670 else _) = bytes
  have hl : bytes.length = 670 := by
    rw [← hb]
    split <;> simp [readBlock]
  have hr := readBlock_writeBlock ((image.map (cellsOf 0)).getD s.image.memory) 22
    (disagreeing (Config.freeByte s.freeUses 670) bytes)
  rw [length_disagreeing, hl] at hr
  rw [hr]
  exact sectionValid_disagreeing _ _ hl

end Sys2Proof.Machine
end

