-- ==== Sys2Proof/Laws/PerInstr.lean ====
section
/-! SUPPORT. The family Reports: one lemma for each command row about what the row's operands can be. -/

namespace Sys2Proof.Laws

/-- The parameter lengths that a command takes are ones that a report can have. -/
abbrev Reports.Bounded (c : Machine.CommandSpec) : Prop :=
  c.minLength ≤ c.maxLength ∧ c.maxLength ≤ 56 ∧ c.otherLength ≤ 56

/-- What a row that is a command report carries: a command code of section 10.6, lengths that fit a report, and, when it
is well formed, no more parameters than the 56 bytes that a report has. The other rows carry no report. -/
def Reports.Statement (i : Instr) : Prop :=
  ∀ r c, Safety.commandOf i = some (r, c) →
    isCommandCode c.code = true ∧ Reports.Bounded c ∧ (i.wellFormed = true → r.params.length ≤ 56)

/-- A well-formed report has at most 56 parameters. -/
theorem Reports.params_of_wellFormed {r : CommandReport} (h : r.wellFormed = true) : r.params.length ≤ 56 :=
  of_decide_eq_true h

/-- So has a report that names its table or its action. -/
theorem Reports.params_of_names {r : CommandReport} {n : Nat} (h : r.names n = true) : r.params.length ≤ 56 :=
  params_of_wellFormed (Bool.and_eq_true _ _ ▸ h).1

/-- So has a report that names no table. -/
theorem Reports.params_of_namesNoTable {r : CommandReport} (h : r.namesNoTable = true) : r.params.length ≤ 56 :=
  params_of_wellFormed (Bool.and_eq_true _ _ ▸ h).1

/-- A row that is no command report. -/
theorem Reports.of_event {i : Instr} (h : Safety.commandOf i = none) : Reports.Statement i := by
  intro r c hc
  rw [h] at hc
  cases hc

/-- A row that is a command report, from its command's spec. -/
theorem Reports.of_report {i : Instr} {r : CommandReport} {c : Machine.CommandSpec}
    (h : Safety.commandOf i = some (r, c)) (code : isCommandCode c.code = true) (length : Reports.Bounded c)
    (params : i.wellFormed = true → r.params.length ≤ 56) : Reports.Statement i := by
  intro r' c' hc
  rw [h] at hc
  cases hc
  exact ⟨code, length, params⟩

theorem Reports.powerOn (image : Option (List Byte)) : Reports.Statement (.powerOn image) :=
  Reports.of_event rfl

theorem Reports.millisecondTick : Reports.Statement .millisecondTick :=
  Reports.of_event rfl

theorem Reports.consoleKeyboardReport (slot : Byte) (modifiers : ModifierSet) (fields : Vector Byte 6) :
    Reports.Statement (.consoleKeyboardReport slot modifiers fields) :=
  Reports.of_event rfl

theorem Reports.consolePointerReport (slot : Byte) (buttons : Byte) (dx : BitVec 12) (dy : BitVec 12) (wheel : Byte) :
    Reports.Statement (.consolePointerReport slot buttons dx dy wheel) :=
  Reports.of_event rfl

theorem Reports.consoleReportDiscarded (bytes : List Byte) : Reports.Statement (.consoleReportDiscarded bytes) :=
  Reports.of_event rfl

theorem Reports.deviceAttach (slot : Byte) (deviceClass : Byte) :
    Reports.Statement (.deviceAttach slot deviceClass) :=
  Reports.of_event rfl

theorem Reports.deviceDetach (slot : Byte) : Reports.Statement (.deviceDetach slot) :=
  Reports.of_event rfl

theorem Reports.consoleLinkRestart : Reports.Statement .consoleLinkRestart :=
  Reports.of_event rfl

theorem Reports.heldKeyAgeing (slot : Slot) (usage : Byte) : Reports.Statement (.heldKeyAgeing slot usage) :=
  Reports.of_event rfl

theorem Reports.leaderTimerExpiry : Reports.Statement .leaderTimerExpiry :=
  Reports.of_event rfl

theorem Reports.commandTimerExpiry : Reports.Statement .commandTimerExpiry :=
  Reports.of_event rfl

theorem Reports.presenceLineChange (port : Computer) (present : Bool) :
    Reports.Statement (.presenceLineChange port present) :=
  Reports.of_event rfl

theorem Reports.presenceDebounceExpiry (port : Computer) : Reports.Statement (.presenceDebounceExpiry port) :=
  Reports.of_event rfl

theorem Reports.configure (port : Computer) : Reports.Statement (.configure port) :=
  Reports.of_event rfl

theorem Reports.suspend (port : Computer) : Reports.Statement (.suspend port) :=
  Reports.of_event rfl

theorem Reports.resume (port : Computer) : Reports.Statement (.resume port) :=
  Reports.of_event rfl

theorem Reports.busReset (port : Computer) : Reports.Statement (.busReset port) :=
  Reports.of_event rfl

theorem Reports.poll (port : Computer) : Reports.Statement (.poll port) :=
  Reports.of_event rfl

theorem Reports.ledOutputReport (port : Computer) (leds : Leds) : Reports.Statement (.ledOutputReport port leds) :=
  Reports.of_event rfl

theorem Reports.managementResultRead (port : Computer) : Reports.Statement (.managementResultRead port) :=
  Reports.of_event rfl

theorem Reports.foreignManagementReport (port : Computer) : Reports.Statement (.foreignManagementReport port) :=
  Reports.of_event rfl

theorem Reports.deskMismatch (port : Computer) (deskMatch : Byte) :
    Reports.Statement (.deskMismatch port deskMatch) :=
  Reports.of_event rfl

theorem Reports.badCommand (r : CommandReport) (code : Byte) : Reports.Statement (.badCommand r code) :=
  Reports.of_event rfl

theorem Reports.armRemoteWake (port : Computer) : Reports.Statement (.armRemoteWake port) :=
  Reports.of_event rfl

theorem Reports.disarmRemoteWake (port : Computer) : Reports.Statement (.disarmRemoteWake port) :=
  Reports.of_event rfl

theorem Reports.wakeTimerExpiry (port : Computer) : Reports.Statement (.wakeTimerExpiry port) :=
  Reports.of_event rfl

theorem Reports.signalFound (input : Input) (mode : VideoMode) : Reports.Statement (.signalFound input mode) :=
  Reports.of_event rfl

theorem Reports.signalLost (input : Input) : Reports.Statement (.signalLost input) :=
  Reports.of_event rfl

theorem Reports.frameComplete (input : Input) : Reports.Statement (.frameComplete input) :=
  Reports.of_event rfl

theorem Reports.sinkAttach (output : VideoOutput) (mode : VideoMode) :
    Reports.Statement (.sinkAttach output mode) :=
  Reports.of_event rfl

theorem Reports.sinkDetach (output : VideoOutput) : Reports.Statement (.sinkDetach output) :=
  Reports.of_event rfl

theorem Reports.frameStart (screen : Screen) : Reports.Statement (.frameStart screen) :=
  Reports.of_event rfl

theorem Reports.shareOutFrameStart : Reports.Statement .shareOutFrameStart :=
  Reports.of_event rfl

theorem Reports.scheduledEntryFire (index : ScheduleIndex) : Reports.Statement (.scheduledEntryFire index) :=
  Reports.of_event rfl

theorem Reports.memoryWriteComplete (outcome : WriteOutcome) : Reports.Statement (.memoryWriteComplete outcome) :=
  Reports.of_event rfl

theorem Reports.readDesk (r : CommandReport) : Reports.Statement (.readDesk r) :=
  Reports.of_report rfl rfl (by decide) Reports.params_of_wellFormed

theorem Reports.readPort (r : CommandReport) : Reports.Statement (.readPort r) :=
  Reports.of_report rfl rfl (by decide) Reports.params_of_wellFormed

theorem Reports.readScreen (r : CommandReport) : Reports.Statement (.readScreen r) :=
  Reports.of_report rfl rfl (by decide) Reports.params_of_wellFormed

theorem Reports.readInput (r : CommandReport) : Reports.Statement (.readInput r) :=
  Reports.of_report rfl rfl (by decide) Reports.params_of_wellFormed

theorem Reports.readShare (r : CommandReport) : Reports.Statement (.readShare r) :=
  Reports.of_report rfl rfl (by decide) Reports.params_of_wellFormed

theorem Reports.readJournal (r : CommandReport) : Reports.Statement (.readJournal r) :=
  Reports.of_report rfl rfl (by decide) Reports.params_of_wellFormed

theorem Reports.setMode (r : CommandReport) : Reports.Statement (.setMode r) :=
  Reports.of_report rfl rfl (by decide) Reports.params_of_wellFormed

theorem Reports.clearMode (r : CommandReport) : Reports.Statement (.clearMode r) :=
  Reports.of_report rfl rfl (by decide) Reports.params_of_wellFormed

theorem Reports.writeModeSettings (r : CommandReport) : Reports.Statement (.writeModeSettings r) :=
  Reports.of_report rfl rfl (by decide) Reports.params_of_wellFormed

theorem Reports.tableNumberUnknown (access : TableAccess) (r : CommandReport) :
    Reports.Statement (.tableNumberUnknown access r) :=
  Reports.of_report rfl (by cases access <;> rfl) (by cases access <;> decide) Reports.params_of_namesNoTable

theorem Reports.tableReadHotkey (r : CommandReport) : Reports.Statement (.tableReadHotkey r) :=
  Reports.of_report rfl rfl (by decide) Reports.params_of_names

theorem Reports.tableReadWindow (r : CommandReport) : Reports.Statement (.tableReadWindow r) :=
  Reports.of_report rfl rfl (by decide) Reports.params_of_names

theorem Reports.tableReadPortSettings (r : CommandReport) : Reports.Statement (.tableReadPortSettings r) :=
  Reports.of_report rfl rfl (by decide) Reports.params_of_names

theorem Reports.tableReadPreset (r : CommandReport) : Reports.Statement (.tableReadPreset r) :=
  Reports.of_report rfl rfl (by decide) Reports.params_of_names

theorem Reports.tableReadLayoutStaged (r : CommandReport) : Reports.Statement (.tableReadLayoutStaged r) :=
  Reports.of_report rfl rfl (by decide) Reports.params_of_names

theorem Reports.tableReadLayoutCommitted (r : CommandReport) : Reports.Statement (.tableReadLayoutCommitted r) :=
  Reports.of_report rfl rfl (by decide) Reports.params_of_names

theorem Reports.tableReadSchedule (r : CommandReport) : Reports.Statement (.tableReadSchedule r) :=
  Reports.of_report rfl rfl (by decide) Reports.params_of_names

theorem Reports.tableWriteHotkey (r : CommandReport) : Reports.Statement (.tableWriteHotkey r) :=
  Reports.of_report rfl rfl (by decide) Reports.params_of_names

theorem Reports.tableWriteWindow (r : CommandReport) : Reports.Statement (.tableWriteWindow r) :=
  Reports.of_report rfl rfl (by decide) Reports.params_of_names

theorem Reports.tableWritePortSettings (r : CommandReport) : Reports.Statement (.tableWritePortSettings r) :=
  Reports.of_report rfl rfl (by decide) Reports.params_of_names

theorem Reports.tableWritePreset (r : CommandReport) : Reports.Statement (.tableWritePreset r) :=
  Reports.of_report rfl rfl (by decide) Reports.params_of_names

theorem Reports.tableWriteLayoutStaged (r : CommandReport) : Reports.Statement (.tableWriteLayoutStaged r) :=
  Reports.of_report rfl rfl (by decide) Reports.params_of_names

theorem Reports.tableWriteLayoutCommitted (r : CommandReport) : Reports.Statement (.tableWriteLayoutCommitted r) :=
  Reports.of_report rfl rfl (by decide) Reports.params_of_names

theorem Reports.tableWriteSchedule (r : CommandReport) : Reports.Statement (.tableWriteSchedule r) :=
  Reports.of_report rfl rfl (by decide) Reports.params_of_names

theorem Reports.tableDeleteHotkey (r : CommandReport) : Reports.Statement (.tableDeleteHotkey r) :=
  Reports.of_report rfl rfl (by decide) Reports.params_of_names

theorem Reports.tableDeleteWindow (r : CommandReport) : Reports.Statement (.tableDeleteWindow r) :=
  Reports.of_report rfl rfl (by decide) Reports.params_of_names

theorem Reports.tableDeletePortSettings (r : CommandReport) : Reports.Statement (.tableDeletePortSettings r) :=
  Reports.of_report rfl rfl (by decide) Reports.params_of_names

theorem Reports.tableDeletePreset (r : CommandReport) : Reports.Statement (.tableDeletePreset r) :=
  Reports.of_report rfl rfl (by decide) Reports.params_of_names

theorem Reports.tableDeleteLayoutStaged (r : CommandReport) : Reports.Statement (.tableDeleteLayoutStaged r) :=
  Reports.of_report rfl rfl (by decide) Reports.params_of_names

theorem Reports.tableDeleteLayoutCommitted (r : CommandReport) :
    Reports.Statement (.tableDeleteLayoutCommitted r) :=
  Reports.of_report rfl rfl (by decide) Reports.params_of_names

theorem Reports.tableDeleteSchedule (r : CommandReport) : Reports.Statement (.tableDeleteSchedule r) :=
  Reports.of_report rfl rfl (by decide) Reports.params_of_names

theorem Reports.tableSearchHotkey (r : CommandReport) : Reports.Statement (.tableSearchHotkey r) :=
  Reports.of_report rfl rfl (by decide) Reports.params_of_names

theorem Reports.tableSearchWindow (r : CommandReport) : Reports.Statement (.tableSearchWindow r) :=
  Reports.of_report rfl rfl (by decide) Reports.params_of_names

theorem Reports.tableSearchPortSettings (r : CommandReport) : Reports.Statement (.tableSearchPortSettings r) :=
  Reports.of_report rfl rfl (by decide) Reports.params_of_names

theorem Reports.tableSearchPreset (r : CommandReport) : Reports.Statement (.tableSearchPreset r) :=
  Reports.of_report rfl rfl (by decide) Reports.params_of_names

theorem Reports.tableSearchLayoutStaged (r : CommandReport) : Reports.Statement (.tableSearchLayoutStaged r) :=
  Reports.of_report rfl rfl (by decide) Reports.params_of_names

theorem Reports.tableSearchLayoutCommitted (r : CommandReport) :
    Reports.Statement (.tableSearchLayoutCommitted r) :=
  Reports.of_report rfl rfl (by decide) Reports.params_of_names

theorem Reports.tableSearchSchedule (r : CommandReport) : Reports.Statement (.tableSearchSchedule r) :=
  Reports.of_report rfl rfl (by decide) Reports.params_of_names

theorem Reports.layoutCommit (r : CommandReport) : Reports.Statement (.layoutCommit r) :=
  Reports.of_report rfl rfl (by decide) Reports.params_of_wellFormed

theorem Reports.layoutRevert (r : CommandReport) : Reports.Statement (.layoutRevert r) :=
  Reports.of_report rfl rfl (by decide) Reports.params_of_wellFormed

theorem Reports.actFocus (r : CommandReport) : Reports.Statement (.actFocus r) :=
  Reports.of_report rfl rfl (by decide) Reports.params_of_names

theorem Reports.actSelect (r : CommandReport) : Reports.Statement (.actSelect r) :=
  Reports.of_report rfl rfl (by decide) Reports.params_of_names

theorem Reports.actCycle (r : CommandReport) : Reports.Statement (.actCycle r) :=
  Reports.of_report rfl rfl (by decide) Reports.params_of_names

theorem Reports.actWake (r : CommandReport) : Reports.Statement (.actWake r) :=
  Reports.of_report rfl rfl (by decide) Reports.params_of_names

theorem Reports.actApplyPreset (r : CommandReport) : Reports.Statement (.actApplyPreset r) :=
  Reports.of_report rfl rfl (by decide) Reports.params_of_names

theorem Reports.actShare (r : CommandReport) : Reports.Statement (.actShare r) :=
  Reports.of_report rfl rfl (by decide) Reports.params_of_names

theorem Reports.actShareScreen (r : CommandReport) : Reports.Statement (.actShareScreen r) :=
  Reports.of_report rfl rfl (by decide) Reports.params_of_names

theorem Reports.actShareFor (r : CommandReport) : Reports.Statement (.actShareFor r) :=
  Reports.of_report rfl rfl (by decide) Reports.params_of_names

theorem Reports.actUnshare (r : CommandReport) : Reports.Statement (.actUnshare r) :=
  Reports.of_report rfl rfl (by decide) Reports.params_of_names

theorem Reports.actLock (r : CommandReport) : Reports.Statement (.actLock r) :=
  Reports.of_report rfl rfl (by decide) Reports.params_of_names

theorem Reports.actUnlock (r : CommandReport) : Reports.Statement (.actUnlock r) :=
  Reports.of_report rfl rfl (by decide) Reports.params_of_names

theorem Reports.actBroadcastToggle (r : CommandReport) : Reports.Statement (.actBroadcastToggle r) :=
  Reports.of_report rfl rfl (by decide) Reports.params_of_names

theorem Reports.actBroadcastOff (r : CommandReport) : Reports.Statement (.actBroadcastOff r) :=
  Reports.of_report rfl rfl (by decide) Reports.params_of_names

theorem Reports.actHoldToggle (r : CommandReport) : Reports.Statement (.actHoldToggle r) :=
  Reports.of_report rfl rfl (by decide) Reports.params_of_names

theorem Reports.setScreen (r : CommandReport) : Reports.Statement (.setScreen r) :=
  Reports.of_report rfl rfl (by decide) Reports.params_of_wellFormed

theorem Reports.setBroadcast (r : CommandReport) : Reports.Statement (.setBroadcast r) :=
  Reports.of_report rfl rfl (by decide) Reports.params_of_wellFormed

theorem Reports.schedule (r : CommandReport) : Reports.Statement (.schedule r) :=
  Reports.of_report rfl rfl (by decide) Reports.params_of_wellFormed

theorem Reports.cancel (r : CommandReport) : Reports.Statement (.cancel r) :=
  Reports.of_report rfl rfl (by decide) Reports.params_of_wellFormed

theorem Reports.clearPortConditions (r : CommandReport) : Reports.Statement (.clearPortConditions r) :=
  Reports.of_report rfl rfl (by decide) Reports.params_of_wellFormed

theorem Reports.clearCounters (r : CommandReport) : Reports.Statement (.clearCounters r) :=
  Reports.of_report rfl rfl (by decide) Reports.params_of_wellFormed

theorem Reports.consoleReset (r : CommandReport) : Reports.Statement (.consoleReset r) :=
  Reports.of_report rfl rfl (by decide) Reports.params_of_wellFormed

theorem Reports.deskReset (r : CommandReport) (memoryAnswers : Bool) :
    Reports.Statement (.deskReset r memoryAnswers) :=
  Reports.of_report rfl rfl (by decide) Reports.params_of_wellFormed

theorem Reports.save (r : CommandReport) : Reports.Statement (.save r) :=
  Reports.of_report rfl rfl (by decide) Reports.params_of_wellFormed

theorem Reports.abort (r : CommandReport) : Reports.Statement (.abort r) :=
  Reports.of_report rfl rfl (by decide) Reports.params_of_wellFormed

end Sys2Proof.Laws
end

