-- ==== Sys2Proof/Laws/SubFrames.lean ====
section
/-! SUPPORT. What each shared operation leaves alone inside a block's record: the console slots and the error counter, the
overflow counter and the button records, the video inputs and the share-out record, the lock, and the tables that only
management writes. -/

namespace Sys2Proof.Machine

/-! Plain updates. -/

@[simp] theorem sendLeds_slots (s : State) : (sendLeds s).console.slots = s.console.slots := rfl
@[simp] theorem sendLeds_errors (s : State) : (sendLeds s).console.errors = s.console.errors := rfl
@[simp] theorem forgetOwner_overflow (k : Computer) (s : State) : (forgetOwner k s).keys.overflow = s.keys.overflow := rfl
@[simp] theorem adjustBroadcast_locked (previous : Option Computer) (k : Computer) (s : State) :
    (adjustBroadcast previous k s).focusUnit.locked = s.focusUnit.locked := rfl
@[simp] theorem setBroadcast_locked (ks : ComputerSet) (s : State) :
    (setBroadcast ks s).focusUnit.locked = s.focusUnit.locked := rfl
@[simp] theorem State.setShare_inputs (s : State) (r : ShareRecord) :
    (s.setShare r).video.inputs = s.video.inputs := rfl
@[simp] theorem State.setShare_screens (s : State) (r : ShareRecord) :
    (s.setShare r).video.screens = s.video.screens := rfl
@[simp] theorem setModeWord_modeSettings (w : ModeWord) (s : State) :
    (setModeWord w s).tables.modeSettings = s.tables.modeSettings := rfl

/-! console.slots. -/

@[simp] theorem refreshLeds_slots (s : State) :
    (refreshLeds s).console.slots = s.console.slots := by unfold refreshLeds; split <;> simp
@[simp] theorem focusChange_slots (k : Computer) (cause : Cause) (s : State) :
    (focusChange k cause s).console.slots = s.console.slots := by unfold focusChange; simp
@[simp] theorem relocateTo_slots (sc : Screen) (s : State) :
    (relocateTo sc s).console.slots = s.console.slots := by unfold relocateTo; split <;> simp
@[simp] theorem relocate_slots (s : State) :
    (relocate s).console.slots = s.console.slots := by
  unfold relocate; repeat' split
  all_goals simp
@[simp] theorem recheckPointer_slots (concerned : Screen → Bool) (s : State) :
    (recheckPointer concerned s).console.slots = s.console.slots := by
  unfold recheckPointer; repeat' split
  all_goals simp
@[simp] theorem doFocus_slots (k : Computer) (cause : Cause) (s : State) :
    (doFocus k cause s).console.slots = s.console.slots := by unfold doFocus; split <;> simp
@[simp] theorem doCycle_slots (cause : Cause) (s : State) :
    (doCycle cause s).console.slots = s.console.slots := by unfold doCycle; split <;> simp
@[simp] theorem placementStep_slots (s : State) :
    (placementStep s).console.slots = s.console.slots := by
  unfold placementStep; repeat' split
  all_goals simp
@[simp] theorem crossTo_slots (p : Place) (c : Computer) (s : State) :
    (crossTo p c s).state.console.slots = s.console.slots := by unfold crossTo; simp
@[simp] theorem pushAgainst_slots (b : Bool) (a : Axis) (toHigh : Bool) (m : Nat) (n : Screen) (c : Computer) (p entry : Place) (s : State) :
    (pushAgainst b a toHigh m n c p entry s).state.console.slots = s.console.slots := by
  unfold pushAgainst; dsimp only; repeat' split
  all_goals simp
@[simp] theorem walk_slots (b : Bool) (a : Axis) (target : Int) (visits : Nat) (s : State) :
    (walk b a target visits s).state.console.slots = s.console.slots := by
  induction visits generalizing s with
  | zero => rfl
  | succ n ih =>
    unfold walk
    dsimp only
    repeat' split
    all_goals simp [ih]
@[simp] theorem walkAxis_slots (b : Bool) (a : Axis) (units : Int) (s : State) :
    (walkAxis b a units s).state.console.slots = s.console.slots := by
  unfold walkAxis; repeat' split
  all_goals simp
@[simp] theorem walkBoth_slots (b : Bool) (ux uy : Int) (s : State) :
    (walkBoth b ux uy s).state.console.slots = s.console.slots := by unfold walkBoth; dsimp only; split <;> simp
@[simp] theorem useMotion_slots (f : Computer) (b : Bool) (dx dy wheel : Int) (s : State) :
    (useMotion f b dx dy wheel s).1.console.slots = s.console.slots := by unfold useMotion; split <;> simp
@[simp] theorem motionStep_slots (b : Bool) (dx dy wheel : Int) (s : State) :
    (motionStep b dx dy wheel s).1.console.slots = s.console.slots := by
  unfold motionStep; repeat' split
  all_goals simp
@[simp] theorem recheckAfterCommit_slots (old : Vector Placement 8) (s : State) :
    (recheckAfterCommit old s).console.slots = s.console.slots := by
  unfold recheckAfterCommit; dsimp only; repeat' split
  all_goals simp
@[simp] theorem commitLayout_slots (s : State) :
    (commitLayout s).console.slots = s.console.slots := by unfold commitLayout; simp
@[simp] theorem detachSink_slots (out : VideoOutput) (s : State) :
    (detachSink out s).console.slots = s.console.slots := by
  unfold detachSink; dsimp only; repeat' split
  all_goals simp
@[simp] theorem selectFocus_slots (k : Computer) (cause : Cause) (s : State) :
    (selectFocus k cause s).console.slots = s.console.slots := by unfold selectFocus; split <;> simp
@[simp] theorem doSelect_slots (k : Computer) (cause : Cause) (s : State) :
    (doSelect k cause s).state.console.slots = s.console.slots := by unfold doSelect; split <;> simp
@[simp] theorem presetFocus_slots (pr : Preset) (s : State) :
    (presetFocus pr s).console.slots = s.console.slots := by unfold presetFocus; split <;> simp
@[simp] theorem doPreset_slots (p : PresetIndex) (s : State) :
    (doPreset p s).state.console.slots = s.console.slots := by unfold doPreset; simp
@[simp] theorem runAction_slots (a : Action) (cause : Cause) (s : State) :
    (runAction a cause s).state.console.slots = s.console.slots := by cases a <;> simp [runAction]
@[simp] theorem fireHotkey_slots (h : Hotkey) (s : State) :
    (fireHotkey h s).console.slots = s.console.slots := by
  unfold fireHotkey; dsimp only; repeat' split
  all_goals simp
@[simp] theorem returnToIdle_slots (s : State) :
    (returnToIdle s).console.slots = s.console.slots := by unfold returnToIdle; split <;> simp
@[simp] theorem enterCommand_slots (s : State) :
    (enterCommand s).console.slots = s.console.slots := by unfold enterCommand; simp
@[simp] theorem pressOther_slots (usage : Byte) (s : State) :
    (pressOther usage s).1.console.slots = s.console.slots := by unfold pressOther; split <;> simp
@[simp] theorem appendUsage_slots (buffer : List Byte) (usage : Byte) (s : State) :
    (appendUsage buffer usage s).console.slots = s.console.slots := by
  unfold appendUsage; dsimp only; repeat' split
  all_goals simp
@[simp] theorem pressInCommand_slots (buffer : List Byte) (usage : Byte) (s : State) :
    (pressInCommand buffer usage s).console.slots = s.console.slots := by
  unfold pressInCommand; repeat' split
  all_goals simp
@[simp] theorem recognizePress_slots (slot : Slot) (usage : Byte) (s : State) :
    (recognizePress slot usage s).1.console.slots = s.console.slots := by
  unfold recognizePress; repeat' split
  all_goals simp
@[simp] theorem recognizeRelease_slots (slot : Slot) (usage : Byte) (s : State) :
    (recognizeRelease slot usage s).console.slots = s.console.slots := by
  unfold recognizeRelease; repeat' split
  all_goals simp
@[simp] theorem expireCommand_slots (s : State) :
    (expireCommand s).console.slots = s.console.slots := by
  unfold expireCommand; repeat' split
  all_goals simp
@[simp] theorem takeTransition_slots (slot : Slot) (x : Transition) (s : State) :
    (takeTransition slot x s).console.slots = s.console.slots := by unfold takeTransition; split <;> simp
@[simp] theorem clearLeds_slots (k : Computer) (s : State) :
    (clearLeds k s).console.slots = s.console.slots := by unfold clearLeds; dsimp only; split <;> simp
@[simp] theorem leaveQueueable_slots (k : Computer) (s : State) :
    (leaveQueueable k s).console.slots = s.console.slots := by unfold leaveQueueable; simp
@[simp] theorem leaveIf_slots (was : Bool) (k : Computer) (s : State) :
    (leaveIf was k s).console.slots = s.console.slots := by unfold leaveIf; split <;> simp
@[simp] theorem presenceLoss_slots (k : Computer) (s : State) :
    (presenceLoss k s).console.slots = s.console.slots := by unfold presenceLoss; simp
@[simp] theorem expireDebounce_slots (k : Computer) (s : State) :
    (expireDebounce k s).console.slots = s.console.slots := by
  unfold expireDebounce; repeat' split
  all_goals simp
@[simp] theorem resetBus_slots (k : Computer) (s : State) :
    (resetBus k s).console.slots = s.console.slots := by unfold resetBus; split <;> simp
@[simp] theorem takeLedReport_slots (k : Computer) (leds : Leds) (s : State) :
    (takeLedReport k leds s).console.slots = s.console.slots := by
  unfold takeLedReport; dsimp only; repeat' split
  all_goals simp
@[simp] theorem fireEntry_slots (i : ScheduleIndex) (e : ScheduleEntry) (s : State) :
    (fireEntry i e s).console.slots = s.console.slots := by unfold fireEntry; simp
@[simp] theorem fireIfDue_slots (i : ScheduleIndex) (s : State) :
    (fireIfDue i s).console.slots = s.console.slots := by
  unfold fireIfDue; repeat' split
  all_goals simp
@[simp] theorem rewriteWindow_slots (j : Input) (w : Window) (s : State) :
    (rewriteWindow j w s).console.slots = s.console.slots := by
  unfold rewriteWindow; repeat' split
  all_goals simp
@[simp] theorem takeMotion_slots (owed : Option Computer) (b : Bool) (dx dy wheel : Int) (s : State) :
    (takeMotion owed b dx dy wheel s).console.slots = s.console.slots := by unfold takeMotion; simp

/-! console.errors. -/

@[simp] theorem refreshLeds_errors (s : State) :
    (refreshLeds s).console.errors = s.console.errors := by unfold refreshLeds; split <;> simp
@[simp] theorem focusChange_errors (k : Computer) (cause : Cause) (s : State) :
    (focusChange k cause s).console.errors = s.console.errors := by unfold focusChange; simp
@[simp] theorem relocateTo_errors (sc : Screen) (s : State) :
    (relocateTo sc s).console.errors = s.console.errors := by unfold relocateTo; split <;> simp
@[simp] theorem relocate_errors (s : State) :
    (relocate s).console.errors = s.console.errors := by
  unfold relocate; repeat' split
  all_goals simp
@[simp] theorem recheckPointer_errors (concerned : Screen → Bool) (s : State) :
    (recheckPointer concerned s).console.errors = s.console.errors := by
  unfold recheckPointer; repeat' split
  all_goals simp
@[simp] theorem doFocus_errors (k : Computer) (cause : Cause) (s : State) :
    (doFocus k cause s).console.errors = s.console.errors := by unfold doFocus; split <;> simp
@[simp] theorem doCycle_errors (cause : Cause) (s : State) :
    (doCycle cause s).console.errors = s.console.errors := by unfold doCycle; split <;> simp
@[simp] theorem placementStep_errors (s : State) :
    (placementStep s).console.errors = s.console.errors := by
  unfold placementStep; repeat' split
  all_goals simp
@[simp] theorem crossTo_errors (p : Place) (c : Computer) (s : State) :
    (crossTo p c s).state.console.errors = s.console.errors := by unfold crossTo; simp
@[simp] theorem pushAgainst_errors (b : Bool) (a : Axis) (toHigh : Bool) (m : Nat) (n : Screen) (c : Computer) (p entry : Place) (s : State) :
    (pushAgainst b a toHigh m n c p entry s).state.console.errors = s.console.errors := by
  unfold pushAgainst; dsimp only; repeat' split
  all_goals simp
@[simp] theorem walk_errors (b : Bool) (a : Axis) (target : Int) (visits : Nat) (s : State) :
    (walk b a target visits s).state.console.errors = s.console.errors := by
  induction visits generalizing s with
  | zero => rfl
  | succ n ih =>
    unfold walk
    dsimp only
    repeat' split
    all_goals simp [ih]
@[simp] theorem walkAxis_errors (b : Bool) (a : Axis) (units : Int) (s : State) :
    (walkAxis b a units s).state.console.errors = s.console.errors := by
  unfold walkAxis; repeat' split
  all_goals simp
@[simp] theorem walkBoth_errors (b : Bool) (ux uy : Int) (s : State) :
    (walkBoth b ux uy s).state.console.errors = s.console.errors := by unfold walkBoth; dsimp only; split <;> simp
@[simp] theorem useMotion_errors (f : Computer) (b : Bool) (dx dy wheel : Int) (s : State) :
    (useMotion f b dx dy wheel s).1.console.errors = s.console.errors := by unfold useMotion; split <;> simp
@[simp] theorem motionStep_errors (b : Bool) (dx dy wheel : Int) (s : State) :
    (motionStep b dx dy wheel s).1.console.errors = s.console.errors := by
  unfold motionStep; repeat' split
  all_goals simp
@[simp] theorem recheckAfterCommit_errors (old : Vector Placement 8) (s : State) :
    (recheckAfterCommit old s).console.errors = s.console.errors := by
  unfold recheckAfterCommit; dsimp only; repeat' split
  all_goals simp
@[simp] theorem commitLayout_errors (s : State) :
    (commitLayout s).console.errors = s.console.errors := by unfold commitLayout; simp
@[simp] theorem detachSink_errors (out : VideoOutput) (s : State) :
    (detachSink out s).console.errors = s.console.errors := by
  unfold detachSink; dsimp only; repeat' split
  all_goals simp
@[simp] theorem selectFocus_errors (k : Computer) (cause : Cause) (s : State) :
    (selectFocus k cause s).console.errors = s.console.errors := by unfold selectFocus; split <;> simp
@[simp] theorem doSelect_errors (k : Computer) (cause : Cause) (s : State) :
    (doSelect k cause s).state.console.errors = s.console.errors := by unfold doSelect; split <;> simp
@[simp] theorem presetFocus_errors (pr : Preset) (s : State) :
    (presetFocus pr s).console.errors = s.console.errors := by unfold presetFocus; split <;> simp
@[simp] theorem doPreset_errors (p : PresetIndex) (s : State) :
    (doPreset p s).state.console.errors = s.console.errors := by unfold doPreset; simp
@[simp] theorem runAction_errors (a : Action) (cause : Cause) (s : State) :
    (runAction a cause s).state.console.errors = s.console.errors := by cases a <;> simp [runAction]
@[simp] theorem fireHotkey_errors (h : Hotkey) (s : State) :
    (fireHotkey h s).console.errors = s.console.errors := by
  unfold fireHotkey; dsimp only; repeat' split
  all_goals simp
@[simp] theorem returnToIdle_errors (s : State) :
    (returnToIdle s).console.errors = s.console.errors := by unfold returnToIdle; split <;> simp
@[simp] theorem enterCommand_errors (s : State) :
    (enterCommand s).console.errors = s.console.errors := by unfold enterCommand; simp
@[simp] theorem pressOther_errors (usage : Byte) (s : State) :
    (pressOther usage s).1.console.errors = s.console.errors := by unfold pressOther; split <;> simp
@[simp] theorem appendUsage_errors (buffer : List Byte) (usage : Byte) (s : State) :
    (appendUsage buffer usage s).console.errors = s.console.errors := by
  unfold appendUsage; dsimp only; repeat' split
  all_goals simp
@[simp] theorem pressInCommand_errors (buffer : List Byte) (usage : Byte) (s : State) :
    (pressInCommand buffer usage s).console.errors = s.console.errors := by
  unfold pressInCommand; repeat' split
  all_goals simp
@[simp] theorem recognizePress_errors (slot : Slot) (usage : Byte) (s : State) :
    (recognizePress slot usage s).1.console.errors = s.console.errors := by
  unfold recognizePress; repeat' split
  all_goals simp
@[simp] theorem recognizeRelease_errors (slot : Slot) (usage : Byte) (s : State) :
    (recognizeRelease slot usage s).console.errors = s.console.errors := by
  unfold recognizeRelease; repeat' split
  all_goals simp
@[simp] theorem expireCommand_errors (s : State) :
    (expireCommand s).console.errors = s.console.errors := by
  unfold expireCommand; repeat' split
  all_goals simp
@[simp] theorem takeTransition_errors (slot : Slot) (x : Transition) (s : State) :
    (takeTransition slot x s).console.errors = s.console.errors := by unfold takeTransition; split <;> simp
@[simp] theorem takeKeySet_errors (slot : Slot) (oldM newM : ModifierSet) (oldK newK : List Byte) (s : State) :
    (takeKeySet slot oldM newM oldK newK s).console.errors = s.console.errors := by
  unfold takeKeySet
  exact foldl_keeps (fun u => u.console.errors) _ (fun t x => by simp) _ _
@[simp] theorem detachDevice_errors (i : Slot) (d : Device) (s : State) :
    (detachDevice i d s).console.errors = s.console.errors := by unfold detachDevice; cases d <;> simp
@[simp] theorem vacate_errors (i : Slot) (s : State) :
    (vacate i s).console.errors = s.console.errors := by unfold vacate; split <;> simp
@[simp] theorem attachKeyboard_errors (i : Slot) (s : State) :
    (attachKeyboard i s).console.errors = s.console.errors := by unfold attachKeyboard; simp
@[simp] theorem resetConsole_errors (s : State) :
    (resetConsole s).console.errors = s.console.errors := by unfold resetConsole; simp
@[simp] theorem clearLeds_errors (k : Computer) (s : State) :
    (clearLeds k s).console.errors = s.console.errors := by unfold clearLeds; dsimp only; split <;> simp
@[simp] theorem leaveQueueable_errors (k : Computer) (s : State) :
    (leaveQueueable k s).console.errors = s.console.errors := by unfold leaveQueueable; simp
@[simp] theorem leaveIf_errors (was : Bool) (k : Computer) (s : State) :
    (leaveIf was k s).console.errors = s.console.errors := by unfold leaveIf; split <;> simp
@[simp] theorem presenceLoss_errors (k : Computer) (s : State) :
    (presenceLoss k s).console.errors = s.console.errors := by unfold presenceLoss; simp
@[simp] theorem expireDebounce_errors (k : Computer) (s : State) :
    (expireDebounce k s).console.errors = s.console.errors := by
  unfold expireDebounce; repeat' split
  all_goals simp
@[simp] theorem resetBus_errors (k : Computer) (s : State) :
    (resetBus k s).console.errors = s.console.errors := by unfold resetBus; split <;> simp
@[simp] theorem takeLedReport_errors (k : Computer) (leds : Leds) (s : State) :
    (takeLedReport k leds s).console.errors = s.console.errors := by
  unfold takeLedReport; dsimp only; repeat' split
  all_goals simp
@[simp] theorem fireEntry_errors (i : ScheduleIndex) (e : ScheduleEntry) (s : State) :
    (fireEntry i e s).console.errors = s.console.errors := by unfold fireEntry; simp
@[simp] theorem fireIfDue_errors (i : ScheduleIndex) (s : State) :
    (fireIfDue i s).console.errors = s.console.errors := by
  unfold fireIfDue; repeat' split
  all_goals simp
@[simp] theorem rewriteWindow_errors (j : Input) (w : Window) (s : State) :
    (rewriteWindow j w s).console.errors = s.console.errors := by
  unfold rewriteWindow; repeat' split
  all_goals simp
@[simp] theorem takeMotion_errors (owed : Option Computer) (b : Bool) (dx dy wheel : Int) (s : State) :
    (takeMotion owed b dx dy wheel s).console.errors = s.console.errors := by unfold takeMotion; simp
@[simp] theorem takePointing_errors (slot : Slot) (before now : ButtonSet) (dx dy wheel : Int) (s : State) :
    (takePointing slot before now dx dy wheel s).console.errors = s.console.errors := by unfold takePointing; simp

/-! keys.overflow. -/

@[simp] theorem carryModifiers_overflow (previous : Option Computer) (k : Computer) (s : State) :
    (carryModifiers previous k s).keys.overflow = s.keys.overflow := by
  unfold carryModifiers; repeat' split
  all_goals simp
@[simp] theorem focusChange_overflow (k : Computer) (cause : Cause) (s : State) :
    (focusChange k cause s).keys.overflow = s.keys.overflow := by unfold focusChange; simp
@[simp] theorem relocateTo_overflow (sc : Screen) (s : State) :
    (relocateTo sc s).keys.overflow = s.keys.overflow := by unfold relocateTo; split <;> simp
@[simp] theorem relocate_overflow (s : State) :
    (relocate s).keys.overflow = s.keys.overflow := by
  unfold relocate; repeat' split
  all_goals simp
@[simp] theorem recheckPointer_overflow (concerned : Screen → Bool) (s : State) :
    (recheckPointer concerned s).keys.overflow = s.keys.overflow := by
  unfold recheckPointer; repeat' split
  all_goals simp
@[simp] theorem doFocus_overflow (k : Computer) (cause : Cause) (s : State) :
    (doFocus k cause s).keys.overflow = s.keys.overflow := by unfold doFocus; split <;> simp
@[simp] theorem doCycle_overflow (cause : Cause) (s : State) :
    (doCycle cause s).keys.overflow = s.keys.overflow := by unfold doCycle; split <;> simp
@[simp] theorem placementStep_overflow (s : State) :
    (placementStep s).keys.overflow = s.keys.overflow := by
  unfold placementStep; repeat' split
  all_goals simp
@[simp] theorem crossTo_overflow (p : Place) (c : Computer) (s : State) :
    (crossTo p c s).state.keys.overflow = s.keys.overflow := by unfold crossTo; simp
@[simp] theorem pushAgainst_overflow (b : Bool) (a : Axis) (toHigh : Bool) (m : Nat) (n : Screen) (c : Computer) (p entry : Place) (s : State) :
    (pushAgainst b a toHigh m n c p entry s).state.keys.overflow = s.keys.overflow := by
  unfold pushAgainst; dsimp only; repeat' split
  all_goals simp
@[simp] theorem walk_overflow (b : Bool) (a : Axis) (target : Int) (visits : Nat) (s : State) :
    (walk b a target visits s).state.keys.overflow = s.keys.overflow := by
  induction visits generalizing s with
  | zero => rfl
  | succ n ih =>
    unfold walk
    dsimp only
    repeat' split
    all_goals simp [ih]
@[simp] theorem walkAxis_overflow (b : Bool) (a : Axis) (units : Int) (s : State) :
    (walkAxis b a units s).state.keys.overflow = s.keys.overflow := by
  unfold walkAxis; repeat' split
  all_goals simp
@[simp] theorem walkBoth_overflow (b : Bool) (ux uy : Int) (s : State) :
    (walkBoth b ux uy s).state.keys.overflow = s.keys.overflow := by unfold walkBoth; dsimp only; split <;> simp
@[simp] theorem useMotion_overflow (f : Computer) (b : Bool) (dx dy wheel : Int) (s : State) :
    (useMotion f b dx dy wheel s).1.keys.overflow = s.keys.overflow := by unfold useMotion; split <;> simp
@[simp] theorem motionStep_overflow (b : Bool) (dx dy wheel : Int) (s : State) :
    (motionStep b dx dy wheel s).1.keys.overflow = s.keys.overflow := by
  unfold motionStep; repeat' split
  all_goals simp
@[simp] theorem recheckAfterCommit_overflow (old : Vector Placement 8) (s : State) :
    (recheckAfterCommit old s).keys.overflow = s.keys.overflow := by
  unfold recheckAfterCommit; dsimp only; repeat' split
  all_goals simp
@[simp] theorem commitLayout_overflow (s : State) :
    (commitLayout s).keys.overflow = s.keys.overflow := by unfold commitLayout; simp
@[simp] theorem emptyOwners_overflow (s : State) :
    (emptyOwners s).keys.overflow = s.keys.overflow := by unfold emptyOwners; simp
@[simp] theorem doLock_overflow (s : State) :
    (doLock s).keys.overflow = s.keys.overflow := by unfold doLock; split <;> simp
@[simp] theorem detachSink_overflow (out : VideoOutput) (s : State) :
    (detachSink out s).keys.overflow = s.keys.overflow := by
  unfold detachSink; dsimp only; repeat' split
  all_goals simp
@[simp] theorem selectFocus_overflow (k : Computer) (cause : Cause) (s : State) :
    (selectFocus k cause s).keys.overflow = s.keys.overflow := by unfold selectFocus; split <;> simp
@[simp] theorem doSelect_overflow (k : Computer) (cause : Cause) (s : State) :
    (doSelect k cause s).state.keys.overflow = s.keys.overflow := by unfold doSelect; split <;> simp
@[simp] theorem presetFocus_overflow (pr : Preset) (s : State) :
    (presetFocus pr s).keys.overflow = s.keys.overflow := by unfold presetFocus; split <;> simp
@[simp] theorem doPreset_overflow (p : PresetIndex) (s : State) :
    (doPreset p s).state.keys.overflow = s.keys.overflow := by unfold doPreset; simp
@[simp] theorem runAction_overflow (a : Action) (cause : Cause) (s : State) :
    (runAction a cause s).state.keys.overflow = s.keys.overflow := by cases a <;> simp [runAction]
@[simp] theorem fireHotkey_overflow (h : Hotkey) (s : State) :
    (fireHotkey h s).keys.overflow = s.keys.overflow := by
  unfold fireHotkey; dsimp only; repeat' split
  all_goals simp
@[simp] theorem pressOther_overflow (usage : Byte) (s : State) :
    (pressOther usage s).1.keys.overflow = s.keys.overflow := by unfold pressOther; split <;> simp
@[simp] theorem appendUsage_overflow (buffer : List Byte) (usage : Byte) (s : State) :
    (appendUsage buffer usage s).keys.overflow = s.keys.overflow := by
  unfold appendUsage; dsimp only; repeat' split
  all_goals simp
@[simp] theorem pressInCommand_overflow (buffer : List Byte) (usage : Byte) (s : State) :
    (pressInCommand buffer usage s).keys.overflow = s.keys.overflow := by
  unfold pressInCommand; repeat' split
  all_goals simp
@[simp] theorem recognizePress_overflow (slot : Slot) (usage : Byte) (s : State) :
    (recognizePress slot usage s).1.keys.overflow = s.keys.overflow := by
  unfold recognizePress; repeat' split
  all_goals simp
@[simp] theorem takeRelease_overflow (slot : Slot) (usage : Byte) (s : State) :
    (takeRelease slot usage s).keys.overflow = s.keys.overflow := by unfold takeRelease; simp
@[simp] theorem takeButtons_overflow (before now : ButtonSet) (s : State) :
    (takeButtons before now s).keys.overflow = s.keys.overflow := by unfold takeButtons; simp
@[simp] theorem takeMotion_overflow (owed : Option Computer) (b : Bool) (dx dy wheel : Int) (s : State) :
    (takeMotion owed b dx dy wheel s).keys.overflow = s.keys.overflow := by unfold takeMotion; simp
@[simp] theorem takePointing_overflow (slot : Slot) (before now : ButtonSet) (dx dy wheel : Int) (s : State) :
    (takePointing slot before now dx dy wheel s).keys.overflow = s.keys.overflow := by unfold takePointing; simp
@[simp] theorem takePointerReport_overflow (slot buttons : Byte) (dx dy : BitVec 12) (wheel : Byte) (s : State) :
    (takePointerReport slot buttons dx dy wheel s).keys.overflow = s.keys.overflow := by
  unfold takePointerReport; repeat' split
  all_goals simp
@[simp] theorem detachDevice_overflow (i : Slot) (d : Device) (s : State) :
    (detachDevice i d s).keys.overflow = s.keys.overflow := by unfold detachDevice; cases d <;> simp
@[simp] theorem vacate_overflow (i : Slot) (s : State) :
    (vacate i s).keys.overflow = s.keys.overflow := by unfold vacate; split <;> simp
@[simp] theorem attachKeyboard_overflow (i : Slot) (s : State) :
    (attachKeyboard i s).keys.overflow = s.keys.overflow := by unfold attachKeyboard; simp
@[simp] theorem attachPointer_overflow (i : Slot) (s : State) :
    (attachPointer i s).keys.overflow = s.keys.overflow := by unfold attachPointer; split <;> simp
@[simp] theorem attachDevice_overflow (slot deviceClass : Byte) (s : State) :
    (attachDevice slot deviceClass s).keys.overflow = s.keys.overflow := by
  unfold attachDevice; repeat' split
  all_goals simp
@[simp] theorem detachEvent_overflow (slot : Byte) (s : State) :
    (detachEvent slot s).keys.overflow = s.keys.overflow := by
  unfold detachEvent; repeat' split
  all_goals simp
@[simp] theorem resetConsole_overflow (s : State) :
    (resetConsole s).keys.overflow = s.keys.overflow := by unfold resetConsole; simp
@[simp] theorem ageEntry_overflow (slot : Slot) (usage : Byte) (s : State) :
    (ageEntry slot usage s).keys.overflow = s.keys.overflow := by
  unfold ageEntry; repeat' split
  all_goals simp
@[simp] theorem ageAll_overflow (s : State) :
    (ageAll s).keys.overflow = s.keys.overflow := foldl_keeps (fun u => u.keys.overflow) _ (fun t x => by simp) _ _
@[simp] theorem leaveQueueable_overflow (k : Computer) (s : State) :
    (leaveQueueable k s).keys.overflow = s.keys.overflow := by unfold leaveQueueable; simp
@[simp] theorem leaveIf_overflow (was : Bool) (k : Computer) (s : State) :
    (leaveIf was k s).keys.overflow = s.keys.overflow := by unfold leaveIf; split <;> simp
@[simp] theorem presenceLoss_overflow (k : Computer) (s : State) :
    (presenceLoss k s).keys.overflow = s.keys.overflow := by unfold presenceLoss; simp
@[simp] theorem expireDebounce_overflow (k : Computer) (s : State) :
    (expireDebounce k s).keys.overflow = s.keys.overflow := by
  unfold expireDebounce; repeat' split
  all_goals simp
@[simp] theorem resetBus_overflow (k : Computer) (s : State) :
    (resetBus k s).keys.overflow = s.keys.overflow := by unfold resetBus; split <;> simp
@[simp] theorem fireEntry_overflow (i : ScheduleIndex) (e : ScheduleEntry) (s : State) :
    (fireEntry i e s).keys.overflow = s.keys.overflow := by unfold fireEntry; simp
@[simp] theorem fireIfDue_overflow (i : ScheduleIndex) (s : State) :
    (fireIfDue i s).keys.overflow = s.keys.overflow := by
  unfold fireIfDue; repeat' split
  all_goals simp
@[simp] theorem takeExpiry_overflow (s : State) (x : Expiry) :
    (takeExpiry s x).keys.overflow = s.keys.overflow := by cases x <;> simp [takeExpiry]
@[simp] theorem takeDue_overflow (s : State) :
    (takeDue s).keys.overflow = s.keys.overflow := by
  unfold takeDue
  rw [foldl_keeps (fun u => u.keys.overflow) _ (fun t x => by simp)]
@[simp] theorem applyModeSettings_overflow (m : ModeSettings) (s : State) :
    (applyModeSettings m s).keys.overflow = s.keys.overflow := by
  unfold applyModeSettings; dsimp only; repeat' split
  all_goals simp
@[simp] theorem rewriteWindow_overflow (j : Input) (w : Window) (s : State) :
    (rewriteWindow j w s).keys.overflow = s.keys.overflow := by
  unfold rewriteWindow; repeat' split
  all_goals simp

/-! keys.buttons. -/

@[simp] theorem carryModifiers_buttons (previous : Option Computer) (k : Computer) (s : State) :
    (carryModifiers previous k s).keys.buttons = s.keys.buttons := by
  unfold carryModifiers; repeat' split
  all_goals simp
@[simp] theorem focusChange_buttons (k : Computer) (cause : Cause) (s : State) :
    (focusChange k cause s).keys.buttons = s.keys.buttons := by unfold focusChange; simp
@[simp] theorem relocateTo_buttons (sc : Screen) (s : State) :
    (relocateTo sc s).keys.buttons = s.keys.buttons := by unfold relocateTo; split <;> simp
@[simp] theorem relocate_buttons (s : State) :
    (relocate s).keys.buttons = s.keys.buttons := by
  unfold relocate; repeat' split
  all_goals simp
@[simp] theorem recheckPointer_buttons (concerned : Screen → Bool) (s : State) :
    (recheckPointer concerned s).keys.buttons = s.keys.buttons := by
  unfold recheckPointer; repeat' split
  all_goals simp
@[simp] theorem doFocus_buttons (k : Computer) (cause : Cause) (s : State) :
    (doFocus k cause s).keys.buttons = s.keys.buttons := by unfold doFocus; split <;> simp
@[simp] theorem doCycle_buttons (cause : Cause) (s : State) :
    (doCycle cause s).keys.buttons = s.keys.buttons := by unfold doCycle; split <;> simp
@[simp] theorem placementStep_buttons (s : State) :
    (placementStep s).keys.buttons = s.keys.buttons := by
  unfold placementStep; repeat' split
  all_goals simp
@[simp] theorem crossTo_buttons (p : Place) (c : Computer) (s : State) :
    (crossTo p c s).state.keys.buttons = s.keys.buttons := by unfold crossTo; simp
@[simp] theorem pushAgainst_buttons (b : Bool) (a : Axis) (toHigh : Bool) (m : Nat) (n : Screen) (c : Computer) (p entry : Place) (s : State) :
    (pushAgainst b a toHigh m n c p entry s).state.keys.buttons = s.keys.buttons := by
  unfold pushAgainst; dsimp only; repeat' split
  all_goals simp
@[simp] theorem walk_buttons (b : Bool) (a : Axis) (target : Int) (visits : Nat) (s : State) :
    (walk b a target visits s).state.keys.buttons = s.keys.buttons := by
  induction visits generalizing s with
  | zero => rfl
  | succ n ih =>
    unfold walk
    dsimp only
    repeat' split
    all_goals simp [ih]
@[simp] theorem walkAxis_buttons (b : Bool) (a : Axis) (units : Int) (s : State) :
    (walkAxis b a units s).state.keys.buttons = s.keys.buttons := by
  unfold walkAxis; repeat' split
  all_goals simp
@[simp] theorem walkBoth_buttons (b : Bool) (ux uy : Int) (s : State) :
    (walkBoth b ux uy s).state.keys.buttons = s.keys.buttons := by unfold walkBoth; dsimp only; split <;> simp
@[simp] theorem useMotion_buttons (f : Computer) (b : Bool) (dx dy wheel : Int) (s : State) :
    (useMotion f b dx dy wheel s).1.keys.buttons = s.keys.buttons := by unfold useMotion; split <;> simp
@[simp] theorem motionStep_buttons (b : Bool) (dx dy wheel : Int) (s : State) :
    (motionStep b dx dy wheel s).1.keys.buttons = s.keys.buttons := by
  unfold motionStep; repeat' split
  all_goals simp
@[simp] theorem recheckAfterCommit_buttons (old : Vector Placement 8) (s : State) :
    (recheckAfterCommit old s).keys.buttons = s.keys.buttons := by
  unfold recheckAfterCommit; dsimp only; repeat' split
  all_goals simp
@[simp] theorem commitLayout_buttons (s : State) :
    (commitLayout s).keys.buttons = s.keys.buttons := by unfold commitLayout; simp
@[simp] theorem emptyOwners_buttons (s : State) :
    (emptyOwners s).keys.buttons = s.keys.buttons := by unfold emptyOwners; simp
@[simp] theorem detachSink_buttons (out : VideoOutput) (s : State) :
    (detachSink out s).keys.buttons = s.keys.buttons := by
  unfold detachSink; dsimp only; repeat' split
  all_goals simp
@[simp] theorem selectFocus_buttons (k : Computer) (cause : Cause) (s : State) :
    (selectFocus k cause s).keys.buttons = s.keys.buttons := by unfold selectFocus; split <;> simp
@[simp] theorem doSelect_buttons (k : Computer) (cause : Cause) (s : State) :
    (doSelect k cause s).state.keys.buttons = s.keys.buttons := by unfold doSelect; split <;> simp
@[simp] theorem presetFocus_buttons (pr : Preset) (s : State) :
    (presetFocus pr s).keys.buttons = s.keys.buttons := by unfold presetFocus; split <;> simp
@[simp] theorem doPreset_buttons (p : PresetIndex) (s : State) :
    (doPreset p s).state.keys.buttons = s.keys.buttons := by unfold doPreset; simp
@[simp] theorem takePress_buttons (slot : Slot) (usage : Byte) (claimed : Bool) (s : State) :
    (takePress slot usage claimed s).keys.buttons = s.keys.buttons := by
  unfold takePress; dsimp only; repeat' split
  all_goals simp
@[simp] theorem takeRelease_buttons (slot : Slot) (usage : Byte) (s : State) :
    (takeRelease slot usage s).keys.buttons = s.keys.buttons := by unfold takeRelease; simp
@[simp] theorem takeMotion_buttons (owed : Option Computer) (b : Bool) (dx dy wheel : Int) (s : State) :
    (takeMotion owed b dx dy wheel s).keys.buttons = s.keys.buttons := by unfold takeMotion; simp
@[simp] theorem ageEntry_buttons (slot : Slot) (usage : Byte) (s : State) :
    (ageEntry slot usage s).keys.buttons = s.keys.buttons := by
  unfold ageEntry; repeat' split
  all_goals simp
@[simp] theorem ageAll_buttons (s : State) :
    (ageAll s).keys.buttons = s.keys.buttons := foldl_keeps (fun u => u.keys.buttons) _ (fun t x => by simp) _ _
@[simp] theorem applyModeSettings_buttons (m : ModeSettings) (s : State) :
    (applyModeSettings m s).keys.buttons = s.keys.buttons := by
  unfold applyModeSettings; dsimp only; repeat' split
  all_goals simp
@[simp] theorem rewriteWindow_buttons (j : Input) (w : Window) (s : State) :
    (rewriteWindow j w s).keys.buttons = s.keys.buttons := by
  unfold rewriteWindow; repeat' split
  all_goals simp

/-! video.inputs. -/

@[simp] theorem requestSource_inputs (sc : Screen) (src : Source) (s : State) :
    (requestSource sc src s).video.inputs = s.video.inputs := by unfold requestSource; split <;> simp
@[simp] theorem requestSources_inputs (reqs : List (Screen × Source)) (s : State) :
    (requestSources reqs s).video.inputs = s.video.inputs := foldl_keeps (fun u => u.video.inputs) _ (fun t x => by simp) _ _
@[simp] theorem attachSink_inputs (out : VideoOutput) (mode : VideoMode) (s : State) :
    (attachSink out mode s).video.inputs = s.video.inputs := by unfold attachSink; split <;> simp
@[simp] theorem commitPending_inputs (sc : Screen) (s : State) :
    (commitPending sc s).video.inputs = s.video.inputs := by unfold commitPending; split <;> simp
@[simp] theorem blankScreen_inputs (sc : Screen) (s : State) :
    (blankScreen sc s).video.inputs = s.video.inputs := by unfold blankScreen; simp
@[simp] theorem detachSink_inputs (out : VideoOutput) (s : State) :
    (detachSink out s).video.inputs = s.video.inputs := by
  unfold detachSink; dsimp only; repeat' split
  all_goals simp
@[simp] theorem showScreen_inputs (sc : Screen) (sink : VideoMode) (s : State) :
    (showScreen sc sink s).video.inputs = s.video.inputs := by unfold showScreen; simp
@[simp] theorem startFrame_inputs (sc : Screen) (s : State) :
    (startFrame sc s).video.inputs = s.video.inputs := by unfold startFrame; split <;> simp
@[simp] theorem startShareFrame_inputs (s : State) :
    (startShareFrame s).video.inputs = s.video.inputs := by unfold startShareFrame; split <;> simp
@[simp] theorem changeSelection_inputs (sel : Selection) (s : State) :
    (changeSelection sel s).video.inputs = s.video.inputs := by unfold changeSelection; split <;> simp
@[simp] theorem doSelect_inputs (k : Computer) (cause : Cause) (s : State) :
    (doSelect k cause s).state.video.inputs = s.video.inputs := by unfold doSelect; split <;> simp
@[simp] theorem presetShare_inputs (pr : Preset) (s : State) :
    (presetShare pr s).video.inputs = s.video.inputs := by unfold presetShare; split <;> simp
@[simp] theorem doPreset_inputs (p : PresetIndex) (s : State) :
    (doPreset p s).state.video.inputs = s.video.inputs := by unfold doPreset; simp
@[simp] theorem answerSelection_inputs (sel : Selection) (s : State) :
    (answerSelection sel s).state.video.inputs = s.video.inputs := by unfold answerSelection; simp
@[simp] theorem doShare_inputs (s : State) :
    (doShare s).state.video.inputs = s.video.inputs := by unfold doShare; split <;> simp
@[simp] theorem doShareFor_inputs (t : Nat) (cause : Cause) (s : State) :
    (doShareFor t cause s).state.video.inputs = s.video.inputs := by
  unfold doShareFor; dsimp only; repeat' split
  all_goals simp
@[simp] theorem runAction_inputs (a : Action) (cause : Cause) (s : State) :
    (runAction a cause s).state.video.inputs = s.video.inputs := by cases a <;> simp [runAction]
@[simp] theorem fireHotkey_inputs (h : Hotkey) (s : State) :
    (fireHotkey h s).video.inputs = s.video.inputs := by
  unfold fireHotkey; dsimp only; repeat' split
  all_goals simp
@[simp] theorem pressOther_inputs (usage : Byte) (s : State) :
    (pressOther usage s).1.video.inputs = s.video.inputs := by unfold pressOther; split <;> simp
@[simp] theorem appendUsage_inputs (buffer : List Byte) (usage : Byte) (s : State) :
    (appendUsage buffer usage s).video.inputs = s.video.inputs := by
  unfold appendUsage; dsimp only; repeat' split
  all_goals simp
@[simp] theorem pressInCommand_inputs (buffer : List Byte) (usage : Byte) (s : State) :
    (pressInCommand buffer usage s).video.inputs = s.video.inputs := by
  unfold pressInCommand; repeat' split
  all_goals simp
@[simp] theorem recognizePress_inputs (slot : Slot) (usage : Byte) (s : State) :
    (recognizePress slot usage s).1.video.inputs = s.video.inputs := by
  unfold recognizePress; repeat' split
  all_goals simp
@[simp] theorem takeTransition_inputs (slot : Slot) (x : Transition) (s : State) :
    (takeTransition slot x s).video.inputs = s.video.inputs := by unfold takeTransition; split <;> simp
@[simp] theorem takeKeySet_inputs (slot : Slot) (oldM newM : ModifierSet) (oldK newK : List Byte) (s : State) :
    (takeKeySet slot oldM newM oldK newK s).video.inputs = s.video.inputs := by
  unfold takeKeySet
  exact foldl_keeps (fun u => u.video.inputs) _ (fun t x => by simp) _ _
@[simp] theorem takeKeyboardReport_inputs (slot : Byte) (m : ModifierSet) (fields : List Byte) (s : State) :
    (takeKeyboardReport slot m fields s).video.inputs = s.video.inputs := by
  unfold takeKeyboardReport; repeat' split
  all_goals simp
@[simp] theorem fireEntry_inputs (i : ScheduleIndex) (e : ScheduleEntry) (s : State) :
    (fireEntry i e s).video.inputs = s.video.inputs := by unfold fireEntry; simp
@[simp] theorem fireIfDue_inputs (i : ScheduleIndex) (s : State) :
    (fireIfDue i s).video.inputs = s.video.inputs := by
  unfold fireIfDue; repeat' split
  all_goals simp
@[simp] theorem takeExpiry_inputs (s : State) (x : Expiry) :
    (takeExpiry s x).video.inputs = s.video.inputs := by cases x <;> simp [takeExpiry]
@[simp] theorem takeDue_inputs (s : State) :
    (takeDue s).video.inputs = s.video.inputs := by
  unfold takeDue
  rw [foldl_keeps (fun u => u.video.inputs) _ (fun t x => by simp)]
@[simp] theorem resetBlocks_inputs (s : State) :
    (resetBlocks s).video.inputs = s.video.inputs := rfl
@[simp] theorem deskResetState_inputs (b : Bool) (s : State) :
    (deskResetState b s).video.inputs = s.video.inputs := by unfold deskResetState; simp
@[simp] theorem clearAllCounters_inputs (s : State) :
    (clearAllCounters s).video.inputs = s.video.inputs := rfl

/-! video.share. -/

@[simp] theorem requestSource_share (sc : Screen) (src : Source) (s : State) :
    (requestSource sc src s).video.share = s.video.share := by unfold requestSource; split <;> simp
@[simp] theorem requestSources_share (reqs : List (Screen × Source)) (s : State) :
    (requestSources reqs s).video.share = s.video.share := foldl_keeps (fun u => u.video.share) _ (fun t x => by simp) _ _
@[simp] theorem commitPending_share (sc : Screen) (s : State) :
    (commitPending sc s).video.share = s.video.share := by unfold commitPending; split <;> simp
@[simp] theorem blankScreen_share (sc : Screen) (s : State) :
    (blankScreen sc s).video.share = s.video.share := by unfold blankScreen; simp
@[simp] theorem showScreen_share (sc : Screen) (sink : VideoMode) (s : State) :
    (showScreen sc sink s).video.share = s.video.share := by unfold showScreen; simp
@[simp] theorem startFrame_share (sc : Screen) (s : State) :
    (startFrame sc s).video.share = s.video.share := by unfold startFrame; split <;> simp
@[simp] theorem doSelect_share (k : Computer) (cause : Cause) (s : State) :
    (doSelect k cause s).state.video.share = s.video.share := by unfold doSelect; split <;> simp

/-! focusUnit.locked. -/

@[simp] theorem focusChange_locked (k : Computer) (cause : Cause) (s : State) :
    (focusChange k cause s).focusUnit.locked = s.focusUnit.locked := by unfold focusChange; simp
@[simp] theorem relocateTo_locked (sc : Screen) (s : State) :
    (relocateTo sc s).focusUnit.locked = s.focusUnit.locked := by unfold relocateTo; split <;> simp
@[simp] theorem relocate_locked (s : State) :
    (relocate s).focusUnit.locked = s.focusUnit.locked := by
  unfold relocate; repeat' split
  all_goals simp
@[simp] theorem recheckPointer_locked (concerned : Screen → Bool) (s : State) :
    (recheckPointer concerned s).focusUnit.locked = s.focusUnit.locked := by
  unfold recheckPointer; repeat' split
  all_goals simp
@[simp] theorem doFocus_locked (k : Computer) (cause : Cause) (s : State) :
    (doFocus k cause s).focusUnit.locked = s.focusUnit.locked := by unfold doFocus; split <;> simp
@[simp] theorem doCycle_locked (cause : Cause) (s : State) :
    (doCycle cause s).focusUnit.locked = s.focusUnit.locked := by unfold doCycle; split <;> simp
@[simp] theorem doToggle_locked (k : Computer) (s : State) :
    (doToggle k s).focusUnit.locked = s.focusUnit.locked := by
  unfold doToggle; repeat' split
  all_goals simp
@[simp] theorem placementStep_locked (s : State) :
    (placementStep s).focusUnit.locked = s.focusUnit.locked := by
  unfold placementStep; repeat' split
  all_goals simp
@[simp] theorem crossTo_locked (p : Place) (c : Computer) (s : State) :
    (crossTo p c s).state.focusUnit.locked = s.focusUnit.locked := by unfold crossTo; simp
@[simp] theorem pushAgainst_locked (b : Bool) (a : Axis) (toHigh : Bool) (m : Nat) (n : Screen) (c : Computer) (p entry : Place) (s : State) :
    (pushAgainst b a toHigh m n c p entry s).state.focusUnit.locked = s.focusUnit.locked := by
  unfold pushAgainst; dsimp only; repeat' split
  all_goals simp
@[simp] theorem walk_locked (b : Bool) (a : Axis) (target : Int) (visits : Nat) (s : State) :
    (walk b a target visits s).state.focusUnit.locked = s.focusUnit.locked := by
  induction visits generalizing s with
  | zero => rfl
  | succ n ih =>
    unfold walk
    dsimp only
    repeat' split
    all_goals simp [ih]
@[simp] theorem walkAxis_locked (b : Bool) (a : Axis) (units : Int) (s : State) :
    (walkAxis b a units s).state.focusUnit.locked = s.focusUnit.locked := by
  unfold walkAxis; repeat' split
  all_goals simp
@[simp] theorem walkBoth_locked (b : Bool) (ux uy : Int) (s : State) :
    (walkBoth b ux uy s).state.focusUnit.locked = s.focusUnit.locked := by unfold walkBoth; dsimp only; split <;> simp
@[simp] theorem useMotion_locked (f : Computer) (b : Bool) (dx dy wheel : Int) (s : State) :
    (useMotion f b dx dy wheel s).1.focusUnit.locked = s.focusUnit.locked := by unfold useMotion; split <;> simp
@[simp] theorem motionStep_locked (b : Bool) (dx dy wheel : Int) (s : State) :
    (motionStep b dx dy wheel s).1.focusUnit.locked = s.focusUnit.locked := by
  unfold motionStep; repeat' split
  all_goals simp
@[simp] theorem recheckAfterCommit_locked (old : Vector Placement 8) (s : State) :
    (recheckAfterCommit old s).focusUnit.locked = s.focusUnit.locked := by
  unfold recheckAfterCommit; dsimp only; repeat' split
  all_goals simp
@[simp] theorem commitLayout_locked (s : State) :
    (commitLayout s).focusUnit.locked = s.focusUnit.locked := by unfold commitLayout; simp
@[simp] theorem detachSink_locked (out : VideoOutput) (s : State) :
    (detachSink out s).focusUnit.locked = s.focusUnit.locked := by
  unfold detachSink; dsimp only; repeat' split
  all_goals simp
@[simp] theorem selectFocus_locked (k : Computer) (cause : Cause) (s : State) :
    (selectFocus k cause s).focusUnit.locked = s.focusUnit.locked := by unfold selectFocus; split <;> simp
@[simp] theorem doSelect_locked (k : Computer) (cause : Cause) (s : State) :
    (doSelect k cause s).state.focusUnit.locked = s.focusUnit.locked := by unfold doSelect; split <;> simp
@[simp] theorem presetFocus_locked (pr : Preset) (s : State) :
    (presetFocus pr s).focusUnit.locked = s.focusUnit.locked := by unfold presetFocus; split <;> simp
@[simp] theorem doPreset_locked (p : PresetIndex) (s : State) :
    (doPreset p s).state.focusUnit.locked = s.focusUnit.locked := by unfold doPreset; simp
@[simp] theorem leaveBroadcast_locked (k : Computer) (s : State) :
    (leaveBroadcast k s).focusUnit.locked = s.focusUnit.locked := by unfold leaveBroadcast; simp
@[simp] theorem leaveQueueable_locked (k : Computer) (s : State) :
    (leaveQueueable k s).focusUnit.locked = s.focusUnit.locked := by unfold leaveQueueable; simp
@[simp] theorem leaveIf_locked (was : Bool) (k : Computer) (s : State) :
    (leaveIf was k s).focusUnit.locked = s.focusUnit.locked := by unfold leaveIf; split <;> simp
@[simp] theorem presenceLoss_locked (k : Computer) (s : State) :
    (presenceLoss k s).focusUnit.locked = s.focusUnit.locked := by unfold presenceLoss; simp
@[simp] theorem expireDebounce_locked (k : Computer) (s : State) :
    (expireDebounce k s).focusUnit.locked = s.focusUnit.locked := by
  unfold expireDebounce; repeat' split
  all_goals simp
@[simp] theorem resetBus_locked (k : Computer) (s : State) :
    (resetBus k s).focusUnit.locked = s.focusUnit.locked := by unfold resetBus; split <;> simp
@[simp] theorem rewriteWindow_locked (j : Input) (w : Window) (s : State) :
    (rewriteWindow j w s).focusUnit.locked = s.focusUnit.locked := by
  unfold rewriteWindow; repeat' split
  all_goals simp
@[simp] theorem takeMotion_locked (owed : Option Computer) (b : Bool) (dx dy wheel : Int) (s : State) :
    (takeMotion owed b dx dy wheel s).focusUnit.locked = s.focusUnit.locked := by unfold takeMotion; simp
@[simp] theorem takePointing_locked (slot : Slot) (before now : ButtonSet) (dx dy wheel : Int) (s : State) :
    (takePointing slot before now dx dy wheel s).focusUnit.locked = s.focusUnit.locked := by unfold takePointing; simp
@[simp] theorem takePointerReport_locked (slot buttons : Byte) (dx dy : BitVec 12) (wheel : Byte) (s : State) :
    (takePointerReport slot buttons dx dy wheel s).focusUnit.locked = s.focusUnit.locked := by
  unfold takePointerReport; repeat' split
  all_goals simp

/-! tables.modeSettings. -/

@[simp] theorem doHoldToggle_modeSettings (s : State) :
    (doHoldToggle s).tables.modeSettings = s.tables.modeSettings := rfl
@[simp] theorem runAction_modeSettings (a : Action) (cause : Cause) (s : State) :
    (runAction a cause s).state.tables.modeSettings = s.tables.modeSettings := by cases a <;> simp [runAction]
@[simp] theorem fireHotkey_modeSettings (h : Hotkey) (s : State) :
    (fireHotkey h s).tables.modeSettings = s.tables.modeSettings := by
  unfold fireHotkey; dsimp only; repeat' split
  all_goals simp
@[simp] theorem pressOther_modeSettings (usage : Byte) (s : State) :
    (pressOther usage s).1.tables.modeSettings = s.tables.modeSettings := by unfold pressOther; split <;> simp
@[simp] theorem appendUsage_modeSettings (buffer : List Byte) (usage : Byte) (s : State) :
    (appendUsage buffer usage s).tables.modeSettings = s.tables.modeSettings := by
  unfold appendUsage; dsimp only; repeat' split
  all_goals simp
@[simp] theorem pressInCommand_modeSettings (buffer : List Byte) (usage : Byte) (s : State) :
    (pressInCommand buffer usage s).tables.modeSettings = s.tables.modeSettings := by
  unfold pressInCommand; repeat' split
  all_goals simp
@[simp] theorem recognizePress_modeSettings (slot : Slot) (usage : Byte) (s : State) :
    (recognizePress slot usage s).1.tables.modeSettings = s.tables.modeSettings := by
  unfold recognizePress; repeat' split
  all_goals simp
@[simp] theorem takeTransition_modeSettings (slot : Slot) (x : Transition) (s : State) :
    (takeTransition slot x s).tables.modeSettings = s.tables.modeSettings := by unfold takeTransition; split <;> simp
@[simp] theorem takeKeySet_modeSettings (slot : Slot) (oldM newM : ModifierSet) (oldK newK : List Byte) (s : State) :
    (takeKeySet slot oldM newM oldK newK s).tables.modeSettings = s.tables.modeSettings := by
  unfold takeKeySet
  exact foldl_keeps (fun u => u.tables.modeSettings) _ (fun t x => by simp) _ _
@[simp] theorem takeKeyboardReport_modeSettings (slot : Byte) (m : ModifierSet) (fields : List Byte) (s : State) :
    (takeKeyboardReport slot m fields s).tables.modeSettings = s.tables.modeSettings := by
  unfold takeKeyboardReport; repeat' split
  all_goals simp
@[simp] theorem fireEntry_modeSettings (i : ScheduleIndex) (e : ScheduleEntry) (s : State) :
    (fireEntry i e s).tables.modeSettings = s.tables.modeSettings := by unfold fireEntry; simp
@[simp] theorem fireIfDue_modeSettings (i : ScheduleIndex) (s : State) :
    (fireIfDue i s).tables.modeSettings = s.tables.modeSettings := by
  unfold fireIfDue; repeat' split
  all_goals simp
@[simp] theorem takeExpiry_modeSettings (s : State) (x : Expiry) :
    (takeExpiry s x).tables.modeSettings = s.tables.modeSettings := by cases x <;> simp [takeExpiry]
@[simp] theorem takeDue_modeSettings (s : State) :
    (takeDue s).tables.modeSettings = s.tables.modeSettings := by
  unfold takeDue
  rw [foldl_keeps (fun u => u.tables.modeSettings) _ (fun t x => by simp)]

/-! tables.hotkeys. -/

@[simp] theorem doHoldToggle_hotkeys (s : State) :
    (doHoldToggle s).tables.hotkeys = s.tables.hotkeys := rfl
@[simp] theorem runAction_hotkeys (a : Action) (cause : Cause) (s : State) :
    (runAction a cause s).state.tables.hotkeys = s.tables.hotkeys := by cases a <;> simp [runAction]
@[simp] theorem fireHotkey_hotkeys (h : Hotkey) (s : State) :
    (fireHotkey h s).tables.hotkeys = s.tables.hotkeys := by
  unfold fireHotkey; dsimp only; repeat' split
  all_goals simp
@[simp] theorem pressOther_hotkeys (usage : Byte) (s : State) :
    (pressOther usage s).1.tables.hotkeys = s.tables.hotkeys := by unfold pressOther; split <;> simp
@[simp] theorem appendUsage_hotkeys (buffer : List Byte) (usage : Byte) (s : State) :
    (appendUsage buffer usage s).tables.hotkeys = s.tables.hotkeys := by
  unfold appendUsage; dsimp only; repeat' split
  all_goals simp
@[simp] theorem pressInCommand_hotkeys (buffer : List Byte) (usage : Byte) (s : State) :
    (pressInCommand buffer usage s).tables.hotkeys = s.tables.hotkeys := by
  unfold pressInCommand; repeat' split
  all_goals simp
@[simp] theorem recognizePress_hotkeys (slot : Slot) (usage : Byte) (s : State) :
    (recognizePress slot usage s).1.tables.hotkeys = s.tables.hotkeys := by
  unfold recognizePress; repeat' split
  all_goals simp
@[simp] theorem takeTransition_hotkeys (slot : Slot) (x : Transition) (s : State) :
    (takeTransition slot x s).tables.hotkeys = s.tables.hotkeys := by unfold takeTransition; split <;> simp
@[simp] theorem takeKeySet_hotkeys (slot : Slot) (oldM newM : ModifierSet) (oldK newK : List Byte) (s : State) :
    (takeKeySet slot oldM newM oldK newK s).tables.hotkeys = s.tables.hotkeys := by
  unfold takeKeySet
  exact foldl_keeps (fun u => u.tables.hotkeys) _ (fun t x => by simp) _ _
@[simp] theorem takeKeyboardReport_hotkeys (slot : Byte) (m : ModifierSet) (fields : List Byte) (s : State) :
    (takeKeyboardReport slot m fields s).tables.hotkeys = s.tables.hotkeys := by
  unfold takeKeyboardReport; repeat' split
  all_goals simp
@[simp] theorem fireEntry_hotkeys (i : ScheduleIndex) (e : ScheduleEntry) (s : State) :
    (fireEntry i e s).tables.hotkeys = s.tables.hotkeys := by unfold fireEntry; simp
@[simp] theorem fireIfDue_hotkeys (i : ScheduleIndex) (s : State) :
    (fireIfDue i s).tables.hotkeys = s.tables.hotkeys := by
  unfold fireIfDue; repeat' split
  all_goals simp
@[simp] theorem takeExpiry_hotkeys (s : State) (x : Expiry) :
    (takeExpiry s x).tables.hotkeys = s.tables.hotkeys := by cases x <;> simp [takeExpiry]
@[simp] theorem takeDue_hotkeys (s : State) :
    (takeDue s).tables.hotkeys = s.tables.hotkeys := by
  unfold takeDue
  rw [foldl_keeps (fun u => u.tables.hotkeys) _ (fun t x => by simp)]

/-! tables.windows. -/

@[simp] theorem doHoldToggle_windows (s : State) :
    (doHoldToggle s).tables.windows = s.tables.windows := rfl
@[simp] theorem runAction_windows (a : Action) (cause : Cause) (s : State) :
    (runAction a cause s).state.tables.windows = s.tables.windows := by cases a <;> simp [runAction]
@[simp] theorem fireHotkey_windows (h : Hotkey) (s : State) :
    (fireHotkey h s).tables.windows = s.tables.windows := by
  unfold fireHotkey; dsimp only; repeat' split
  all_goals simp
@[simp] theorem pressOther_windows (usage : Byte) (s : State) :
    (pressOther usage s).1.tables.windows = s.tables.windows := by unfold pressOther; split <;> simp
@[simp] theorem appendUsage_windows (buffer : List Byte) (usage : Byte) (s : State) :
    (appendUsage buffer usage s).tables.windows = s.tables.windows := by
  unfold appendUsage; dsimp only; repeat' split
  all_goals simp
@[simp] theorem pressInCommand_windows (buffer : List Byte) (usage : Byte) (s : State) :
    (pressInCommand buffer usage s).tables.windows = s.tables.windows := by
  unfold pressInCommand; repeat' split
  all_goals simp
@[simp] theorem recognizePress_windows (slot : Slot) (usage : Byte) (s : State) :
    (recognizePress slot usage s).1.tables.windows = s.tables.windows := by
  unfold recognizePress; repeat' split
  all_goals simp
@[simp] theorem takeTransition_windows (slot : Slot) (x : Transition) (s : State) :
    (takeTransition slot x s).tables.windows = s.tables.windows := by unfold takeTransition; split <;> simp
@[simp] theorem takeKeySet_windows (slot : Slot) (oldM newM : ModifierSet) (oldK newK : List Byte) (s : State) :
    (takeKeySet slot oldM newM oldK newK s).tables.windows = s.tables.windows := by
  unfold takeKeySet
  exact foldl_keeps (fun u => u.tables.windows) _ (fun t x => by simp) _ _
@[simp] theorem takeKeyboardReport_windows (slot : Byte) (m : ModifierSet) (fields : List Byte) (s : State) :
    (takeKeyboardReport slot m fields s).tables.windows = s.tables.windows := by
  unfold takeKeyboardReport; repeat' split
  all_goals simp
@[simp] theorem fireEntry_windows (i : ScheduleIndex) (e : ScheduleEntry) (s : State) :
    (fireEntry i e s).tables.windows = s.tables.windows := by unfold fireEntry; simp
@[simp] theorem fireIfDue_windows (i : ScheduleIndex) (s : State) :
    (fireIfDue i s).tables.windows = s.tables.windows := by
  unfold fireIfDue; repeat' split
  all_goals simp
@[simp] theorem takeExpiry_windows (s : State) (x : Expiry) :
    (takeExpiry s x).tables.windows = s.tables.windows := by cases x <;> simp [takeExpiry]
@[simp] theorem takeDue_windows (s : State) :
    (takeDue s).tables.windows = s.tables.windows := by
  unfold takeDue
  rw [foldl_keeps (fun u => u.tables.windows) _ (fun t x => by simp)]

/-! tables.portSettings. -/

@[simp] theorem doHoldToggle_portSettings (s : State) :
    (doHoldToggle s).tables.portSettings = s.tables.portSettings := rfl
@[simp] theorem runAction_portSettings (a : Action) (cause : Cause) (s : State) :
    (runAction a cause s).state.tables.portSettings = s.tables.portSettings := by cases a <;> simp [runAction]
@[simp] theorem fireHotkey_portSettings (h : Hotkey) (s : State) :
    (fireHotkey h s).tables.portSettings = s.tables.portSettings := by
  unfold fireHotkey; dsimp only; repeat' split
  all_goals simp
@[simp] theorem pressOther_portSettings (usage : Byte) (s : State) :
    (pressOther usage s).1.tables.portSettings = s.tables.portSettings := by unfold pressOther; split <;> simp
@[simp] theorem appendUsage_portSettings (buffer : List Byte) (usage : Byte) (s : State) :
    (appendUsage buffer usage s).tables.portSettings = s.tables.portSettings := by
  unfold appendUsage; dsimp only; repeat' split
  all_goals simp
@[simp] theorem pressInCommand_portSettings (buffer : List Byte) (usage : Byte) (s : State) :
    (pressInCommand buffer usage s).tables.portSettings = s.tables.portSettings := by
  unfold pressInCommand; repeat' split
  all_goals simp
@[simp] theorem recognizePress_portSettings (slot : Slot) (usage : Byte) (s : State) :
    (recognizePress slot usage s).1.tables.portSettings = s.tables.portSettings := by
  unfold recognizePress; repeat' split
  all_goals simp
@[simp] theorem takeTransition_portSettings (slot : Slot) (x : Transition) (s : State) :
    (takeTransition slot x s).tables.portSettings = s.tables.portSettings := by unfold takeTransition; split <;> simp
@[simp] theorem takeKeySet_portSettings (slot : Slot) (oldM newM : ModifierSet) (oldK newK : List Byte) (s : State) :
    (takeKeySet slot oldM newM oldK newK s).tables.portSettings = s.tables.portSettings := by
  unfold takeKeySet
  exact foldl_keeps (fun u => u.tables.portSettings) _ (fun t x => by simp) _ _
@[simp] theorem takeKeyboardReport_portSettings (slot : Byte) (m : ModifierSet) (fields : List Byte) (s : State) :
    (takeKeyboardReport slot m fields s).tables.portSettings = s.tables.portSettings := by
  unfold takeKeyboardReport; repeat' split
  all_goals simp
@[simp] theorem fireEntry_portSettings (i : ScheduleIndex) (e : ScheduleEntry) (s : State) :
    (fireEntry i e s).tables.portSettings = s.tables.portSettings := by unfold fireEntry; simp
@[simp] theorem fireIfDue_portSettings (i : ScheduleIndex) (s : State) :
    (fireIfDue i s).tables.portSettings = s.tables.portSettings := by
  unfold fireIfDue; repeat' split
  all_goals simp
@[simp] theorem takeExpiry_portSettings (s : State) (x : Expiry) :
    (takeExpiry s x).tables.portSettings = s.tables.portSettings := by cases x <;> simp [takeExpiry]
@[simp] theorem takeDue_portSettings (s : State) :
    (takeDue s).tables.portSettings = s.tables.portSettings := by
  unfold takeDue
  rw [foldl_keeps (fun u => u.tables.portSettings) _ (fun t x => by simp)]

/-! tables.presets. -/

@[simp] theorem doHoldToggle_presets (s : State) :
    (doHoldToggle s).tables.presets = s.tables.presets := rfl
@[simp] theorem runAction_presets (a : Action) (cause : Cause) (s : State) :
    (runAction a cause s).state.tables.presets = s.tables.presets := by cases a <;> simp [runAction]
@[simp] theorem fireHotkey_presets (h : Hotkey) (s : State) :
    (fireHotkey h s).tables.presets = s.tables.presets := by
  unfold fireHotkey; dsimp only; repeat' split
  all_goals simp
@[simp] theorem pressOther_presets (usage : Byte) (s : State) :
    (pressOther usage s).1.tables.presets = s.tables.presets := by unfold pressOther; split <;> simp
@[simp] theorem appendUsage_presets (buffer : List Byte) (usage : Byte) (s : State) :
    (appendUsage buffer usage s).tables.presets = s.tables.presets := by
  unfold appendUsage; dsimp only; repeat' split
  all_goals simp
@[simp] theorem pressInCommand_presets (buffer : List Byte) (usage : Byte) (s : State) :
    (pressInCommand buffer usage s).tables.presets = s.tables.presets := by
  unfold pressInCommand; repeat' split
  all_goals simp
@[simp] theorem recognizePress_presets (slot : Slot) (usage : Byte) (s : State) :
    (recognizePress slot usage s).1.tables.presets = s.tables.presets := by
  unfold recognizePress; repeat' split
  all_goals simp
@[simp] theorem takeTransition_presets (slot : Slot) (x : Transition) (s : State) :
    (takeTransition slot x s).tables.presets = s.tables.presets := by unfold takeTransition; split <;> simp
@[simp] theorem takeKeySet_presets (slot : Slot) (oldM newM : ModifierSet) (oldK newK : List Byte) (s : State) :
    (takeKeySet slot oldM newM oldK newK s).tables.presets = s.tables.presets := by
  unfold takeKeySet
  exact foldl_keeps (fun u => u.tables.presets) _ (fun t x => by simp) _ _
@[simp] theorem takeKeyboardReport_presets (slot : Byte) (m : ModifierSet) (fields : List Byte) (s : State) :
    (takeKeyboardReport slot m fields s).tables.presets = s.tables.presets := by
  unfold takeKeyboardReport; repeat' split
  all_goals simp
@[simp] theorem fireEntry_presets (i : ScheduleIndex) (e : ScheduleEntry) (s : State) :
    (fireEntry i e s).tables.presets = s.tables.presets := by unfold fireEntry; simp
@[simp] theorem fireIfDue_presets (i : ScheduleIndex) (s : State) :
    (fireIfDue i s).tables.presets = s.tables.presets := by
  unfold fireIfDue; repeat' split
  all_goals simp
@[simp] theorem takeExpiry_presets (s : State) (x : Expiry) :
    (takeExpiry s x).tables.presets = s.tables.presets := by cases x <;> simp [takeExpiry]
@[simp] theorem takeDue_presets (s : State) :
    (takeDue s).tables.presets = s.tables.presets := by
  unfold takeDue
  rw [foldl_keeps (fun u => u.tables.presets) _ (fun t x => by simp)]

/-! tables.committed. -/

@[simp] theorem doHoldToggle_committed (s : State) :
    (doHoldToggle s).tables.committed = s.tables.committed := rfl
@[simp] theorem runAction_committed (a : Action) (cause : Cause) (s : State) :
    (runAction a cause s).state.tables.committed = s.tables.committed := by cases a <;> simp [runAction]
@[simp] theorem fireHotkey_committed (h : Hotkey) (s : State) :
    (fireHotkey h s).tables.committed = s.tables.committed := by
  unfold fireHotkey; dsimp only; repeat' split
  all_goals simp
@[simp] theorem pressOther_committed (usage : Byte) (s : State) :
    (pressOther usage s).1.tables.committed = s.tables.committed := by unfold pressOther; split <;> simp
@[simp] theorem appendUsage_committed (buffer : List Byte) (usage : Byte) (s : State) :
    (appendUsage buffer usage s).tables.committed = s.tables.committed := by
  unfold appendUsage; dsimp only; repeat' split
  all_goals simp
@[simp] theorem pressInCommand_committed (buffer : List Byte) (usage : Byte) (s : State) :
    (pressInCommand buffer usage s).tables.committed = s.tables.committed := by
  unfold pressInCommand; repeat' split
  all_goals simp
@[simp] theorem recognizePress_committed (slot : Slot) (usage : Byte) (s : State) :
    (recognizePress slot usage s).1.tables.committed = s.tables.committed := by
  unfold recognizePress; repeat' split
  all_goals simp
@[simp] theorem takeTransition_committed (slot : Slot) (x : Transition) (s : State) :
    (takeTransition slot x s).tables.committed = s.tables.committed := by unfold takeTransition; split <;> simp
@[simp] theorem takeKeySet_committed (slot : Slot) (oldM newM : ModifierSet) (oldK newK : List Byte) (s : State) :
    (takeKeySet slot oldM newM oldK newK s).tables.committed = s.tables.committed := by
  unfold takeKeySet
  exact foldl_keeps (fun u => u.tables.committed) _ (fun t x => by simp) _ _
@[simp] theorem takeKeyboardReport_committed (slot : Byte) (m : ModifierSet) (fields : List Byte) (s : State) :
    (takeKeyboardReport slot m fields s).tables.committed = s.tables.committed := by
  unfold takeKeyboardReport; repeat' split
  all_goals simp
@[simp] theorem fireEntry_committed (i : ScheduleIndex) (e : ScheduleEntry) (s : State) :
    (fireEntry i e s).tables.committed = s.tables.committed := by unfold fireEntry; simp
@[simp] theorem fireIfDue_committed (i : ScheduleIndex) (s : State) :
    (fireIfDue i s).tables.committed = s.tables.committed := by
  unfold fireIfDue; repeat' split
  all_goals simp
@[simp] theorem takeExpiry_committed (s : State) (x : Expiry) :
    (takeExpiry s x).tables.committed = s.tables.committed := by cases x <;> simp [takeExpiry]
@[simp] theorem takeDue_committed (s : State) :
    (takeDue s).tables.committed = s.tables.committed := by
  unfold takeDue
  rw [foldl_keeps (fun u => u.tables.committed) _ (fun t x => by simp)]

/-! tables.staged. -/

@[simp] theorem doHoldToggle_staged (s : State) :
    (doHoldToggle s).tables.staged = s.tables.staged := rfl
@[simp] theorem runAction_staged (a : Action) (cause : Cause) (s : State) :
    (runAction a cause s).state.tables.staged = s.tables.staged := by cases a <;> simp [runAction]
@[simp] theorem fireHotkey_staged (h : Hotkey) (s : State) :
    (fireHotkey h s).tables.staged = s.tables.staged := by
  unfold fireHotkey; dsimp only; repeat' split
  all_goals simp
@[simp] theorem pressOther_staged (usage : Byte) (s : State) :
    (pressOther usage s).1.tables.staged = s.tables.staged := by unfold pressOther; split <;> simp
@[simp] theorem appendUsage_staged (buffer : List Byte) (usage : Byte) (s : State) :
    (appendUsage buffer usage s).tables.staged = s.tables.staged := by
  unfold appendUsage; dsimp only; repeat' split
  all_goals simp
@[simp] theorem pressInCommand_staged (buffer : List Byte) (usage : Byte) (s : State) :
    (pressInCommand buffer usage s).tables.staged = s.tables.staged := by
  unfold pressInCommand; repeat' split
  all_goals simp
@[simp] theorem recognizePress_staged (slot : Slot) (usage : Byte) (s : State) :
    (recognizePress slot usage s).1.tables.staged = s.tables.staged := by
  unfold recognizePress; repeat' split
  all_goals simp
@[simp] theorem takeTransition_staged (slot : Slot) (x : Transition) (s : State) :
    (takeTransition slot x s).tables.staged = s.tables.staged := by unfold takeTransition; split <;> simp
@[simp] theorem takeKeySet_staged (slot : Slot) (oldM newM : ModifierSet) (oldK newK : List Byte) (s : State) :
    (takeKeySet slot oldM newM oldK newK s).tables.staged = s.tables.staged := by
  unfold takeKeySet
  exact foldl_keeps (fun u => u.tables.staged) _ (fun t x => by simp) _ _
@[simp] theorem takeKeyboardReport_staged (slot : Byte) (m : ModifierSet) (fields : List Byte) (s : State) :
    (takeKeyboardReport slot m fields s).tables.staged = s.tables.staged := by
  unfold takeKeyboardReport; repeat' split
  all_goals simp
@[simp] theorem fireEntry_staged (i : ScheduleIndex) (e : ScheduleEntry) (s : State) :
    (fireEntry i e s).tables.staged = s.tables.staged := by unfold fireEntry; simp
@[simp] theorem fireIfDue_staged (i : ScheduleIndex) (s : State) :
    (fireIfDue i s).tables.staged = s.tables.staged := by
  unfold fireIfDue; repeat' split
  all_goals simp
@[simp] theorem takeExpiry_staged (s : State) (x : Expiry) :
    (takeExpiry s x).tables.staged = s.tables.staged := by cases x <;> simp [takeExpiry]
@[simp] theorem takeDue_staged (s : State) :
    (takeDue s).tables.staged = s.tables.staged := by
  unfold takeDue
  rw [foldl_keeps (fun u => u.tables.staged) _ (fun t x => by simp)]

end Sys2Proof.Machine
end

