-- ==== Sys2Proof/Tests/Slice0.lean ====
section
/-! SUPPORT. Tests: the smoke test of WellFormed, one step each from the worked examples of the spec, and for each
statement with hypotheses a concrete state and operands that meet them. -/

namespace Sys2Proof.Tests

open Sys2Proof.Machine Sys2Proof.Safety

/-! The tests are checked one after the other, which keeps the memory of the check low. -/

set_option Elab.async false

/-! Small states. -/

/-- A command report from C0 with these parameters, for any desk, tag 7. -/
def rep (params : List Byte) : CommandReport := ⟨0, 0xFF#8, 7#8, byteOf params.length, params⟩

/-- The state that a command leaves; the reset state were it to stop. -/
def after (c : Instr) (s : State) : State :=
  match exec c s with
  | .next t => t
  | .fault _ => State.reset
  | .refused _ => State.reset

def mode : VideoMode := ⟨2560#16, 1440#16, 6000#16⟩

def readyPort : Port := { emptyPort with link := .ready, raw := true, sensed := true }

/-- A screen with a sink that shows an input. -/
def lit (j : Input) : ScreenRecord := { emptyScreen (some j) with sink := some mode }

/-- A desk with every port READY, a keyboard in K0, the POINTER in K2, a sink on every screen and the pointer in S0. -/
def desk : State :=
  { State.reset with
    ports := Vector.replicate 8 readyPort
    console := { emptyConsole with slots := #v[some (.keyboard 0#8 []), none, some (.pointer 0#5), none] }
    pointer := { offPointer with place := some ⟨0, 100, 500⟩ }
    video :=
      { inputs := Vector.replicate 16 emptyInput
        screens := #v[lit 0, lit 1, lit 2, lit 3, lit 4, lit 5, lit 6, lit 7]
        share := emptyShare } }

/-- The desk with a focus. -/
def focusedOn (f : Computer) (s : State) : State := { s with focusUnit := { s.focusUnit with focus := some f } }

def placed (sc : Screen) (x y : Nat) (s : State) : State :=
  { s with pointer := { s.pointer with place := some ⟨sc, x, y⟩ } }

/-- The desk in COMMAND, its LEDs lit. -/
def commanding (buffer : List Byte) (expiry : Millis) (s : State) : State :=
  { s with recognizer := .command buffer expiry, console := { s.console with ledSent := ledsOn } }

/-- A held key of K0. -/
def held (usage : Byte) (owners : ComputerSet) : HeldKey := ⟨0, usage, owners, false, false, 0#32⟩

/-- One key down. -/
def keys (modifiers : ModifierSet) (a b : Byte) : Snapshot := ⟨modifiers, #v[a, b, 0#8, 0#8, 0#8, 0#8]⟩

/-- A keyboard report with at most two keys. -/
def press (modifiers : ModifierSet) (a b : Byte) : Instr :=
  .consoleKeyboardReport 0#8 modifiers #v[a, b, 0#8, 0#8, 0#8, 0#8]

/-- A report of motion along x alone, no button. -/
def moveX (dx : BitVec 12) : Instr := .consolePointerReport 2#8 0#8 dx 0#12 0#8

/-! Well-formedness. -/

theorem test_powerOn_image_too_long (bytes : List Byte) (h : bytes.length = 693) :
    (Instr.powerOn (some bytes)).wellFormed = false := by
  simp [Instr.wellFormed, imageFits, Config.imageLength, h]

theorem test_ageing_of_no_usage :
    (Instr.heldKeyAgeing 0 0#8).wellFormed = false ∧ (Instr.heldKeyAgeing 0 1#8).wellFormed = false ∧
      (Instr.heldKeyAgeing 0 2#8).wellFormed = true := by decide

theorem test_badCommand_with_a_command_code :
    (Instr.badCommand (rep []) 0x4F#8).wellFormed = false ∧ (Instr.badCommand (rep []) 0x4E#8).wellFormed = true := by
  decide

theorem test_failed_write_too_long (bytes : List Byte) (h : bytes.length = 671) :
    (Instr.memoryWriteComplete (.failed bytes)).wellFormed = false := by
  simp [Instr.wellFormed, WriteOutcome.fits, Config.tablesLength, h]

theorem test_report_too_long :
    (Instr.readDesk (rep (List.replicate 57 0#8))).wellFormed = false ∧
      (Instr.readDesk (rep (List.replicate 56 0#8))).wellFormed = true := by decide

theorem test_unknown_table_that_is_known :
    (Instr.tableNumberUnknown .read (rep [7#8, 0#8])).wellFormed = false ∧
      (Instr.tableNumberUnknown .read (rep [8#8, 0#8])).wellFormed = true ∧
      (Instr.tableNumberUnknown .read (rep [0#8, 0#8])).wellFormed = true := by decide

theorem test_table_of_another_row :
    (Instr.tableReadHotkey (rep [2#8, 0#8])).wellFormed = false ∧
      (Instr.tableReadWindow (rep [1#8, 0#8])).wellFormed = false ∧
      (Instr.tableReadPortSettings (rep [1#8, 0#8])).wellFormed = false ∧
      (Instr.tableReadPreset (rep [1#8, 0#8])).wellFormed = false ∧
      (Instr.tableReadLayoutStaged (rep [6#8, 0#8])).wellFormed = false ∧
      (Instr.tableReadLayoutCommitted (rep [5#8, 0#8])).wellFormed = false ∧
      (Instr.tableReadSchedule (rep [1#8, 0#8])).wellFormed = false := by decide

theorem test_action_of_another_row :
    (Instr.actFocus (rep [2#8])).wellFormed = false ∧ (Instr.actSelect (rep [1#8])).wellFormed = false ∧
      (Instr.actCycle (rep [1#8])).wellFormed = false ∧ (Instr.actWake (rep [1#8])).wellFormed = false ∧
      (Instr.actApplyPreset (rep [1#8])).wellFormed = false ∧ (Instr.actShare (rep [1#8])).wellFormed = false ∧
      (Instr.actShareScreen (rep [1#8])).wellFormed = false ∧ (Instr.actShareFor (rep [1#8])).wellFormed = false ∧
      (Instr.actUnshare (rep [1#8])).wellFormed = false ∧ (Instr.actLock (rep [1#8])).wellFormed = false ∧
      (Instr.actUnlock (rep [1#8])).wellFormed = false ∧
      (Instr.actBroadcastToggle (rep [1#8])).wellFormed = false ∧
      (Instr.actBroadcastOff (rep [1#8])).wellFormed = false ∧
      (Instr.actHoldToggle (rep [1#8])).wellFormed = false ∧ (Instr.actHoldToggle (rep [14#8])).wellFormed = true := by
  decide

/-! Worked examples of 01_console_input_and_key_ownership.md. -/

/-- "Deriving transitions", reports 2 and 3. -/
theorem test_report_key_sets :
    reportKeys [4#8, 5#8, 4#8, 0#8, 0#8, 0#8] = [4#8, 5#8] ∧
      reportKeys [5#8, 226#8, 0#8, 0#8, 0#8, 0#8] = [5#8] ∧
      reportModifiers 0#8 [5#8, 226#8, 0#8, 0#8, 0#8, 0#8] = 4#8 := by decide

/-- "A focus change with keys held": the press of C with Ctrl held. -/
theorem test_press_with_modifier :
    let s :=
      focusedOn 1
        { desk with
          console := { desk.console with slots := #v[some (.keyboard 1#8 []), none, some (.pointer 0#5), none] }
          keys := { desk.keys with held := [held 224#8 2#8] } }
    (after (press 1#8 6#8 0#8) s).keys.held = [held 224#8 2#8, held 6#8 2#8] ∧
      ((after (press 1#8 6#8 0#8) s).port 1).queue = [.keyboard (keys 1#8 6#8 0#8)] := by decide

/-- "A focus change with keys held": ACT FOCUS C2 carries Ctrl and not C. -/
theorem test_focus_carries_modifiers :
    let s := focusedOn 1 { desk with keys := { desk.keys with held := [held 224#8 2#8, held 6#8 2#8] } }
    let t := after (.actFocus (rep [1#8, 2#8, 0#8])) s
    t.keys.held = [held 224#8 4#8, held 6#8 2#8] ∧ (t.port 1).queue = [.keyboard (keys 0#8 6#8 0#8)] ∧
      (t.port 2).queue = [.keyboard (keys 1#8 0#8 0#8)] := by decide

/-- "The same key on two keyboards, and rollover": seven usages fill every field with 1. -/
theorem test_seven_keys_roll_over :
    let s :=
      { desk with
        keys := { desk.keys with held := [4#8, 5#8, 6#8, 7#8, 8#8, 9#8, 10#8].map (fun u => held u 16#8) } }
    s.snapshot 4 = ⟨0#8, Vector.replicate 6 1#8⟩ := by decide

/-- "Console reset with a broadcast": C0 receives the empty snapshot and then R18's report, C1 the empty snapshot. -/
theorem test_console_link_restart :
    let s :=
      { desk with
        keys :=
          { desk.keys with
            held := [held 229#8 3#8, held 7#8 3#8], buttons := #v[some 0, none, none, none, none]
            snapshots := (desk.keys.snapshots.set 0 (keys 0x20#8 7#8 0#8)).set 1 (keys 0x20#8 7#8 0#8) }
        focusUnit := { desk.focusUnit with broadcast := 2#8 }
        ports := desk.ports.set 0 { readyPort with lastPair := some (12, 34) } }
    let t := after .consoleLinkRestart s
    t.keys.held = [] ∧ t.slotDevice 0 = none ∧ t.focusUnit.broadcast = 2#8 ∧
      (t.port 0).queue = [.keyboard emptySnapshot, .absolute 12 34 0#5 0] ∧
      (t.port 1).queue = [.keyboard emptySnapshot] := by decide

/-! Worked examples of 02_hotkeys_and_the_command_state.md. -/

/-- "Opening the COMMAND state": the first press at 1000 and the last release at 1270. -/
theorem test_leader_taps :
    (after (press 0#8 71#8 0#8) { desk with clock := 1000#32 }).recognizer = .tap1Down 0 1400#32 ∧
      (after (press 0#8 0#8 0#8)
          { desk with
            clock := 1270#32
            console := { desk.console with slots := #v[some (.keyboard 0#8 [71#8]), none, none, none] }
            recognizer := .tap2Down 0 1600#32 }).recognizer = .command [] 3270#32 := by decide

/-- "A two-key command, and a miss": a buffer that is no entry's and no prefix's returns to IDLE with a REFUSE. -/
theorem test_command_miss :
    let t := after (press 0#8 34#8 0#8) (commanding [23#8] 3900#32 desk)
    t.recognizer = .idle ∧ t.sent = [.ledNotice ledsOff, .alert .refuse] ∧
      t.keys.held = [⟨0, 34#8, 0#8, true, false, 0#32⟩] := by decide

/-- "A chord that changes focus": H20 fires FOCUS C2 and the digit reaches nobody. -/
theorem test_chord_fires :
    let s :=
      focusedOn 1
        { desk with
          console := { desk.console with slots := #v[some (.keyboard 5#8 []), none, none, none] }
          keys := { desk.keys with held := [held 224#8 2#8, held 226#8 2#8] }
          tables := { desk.tables with hotkeys := desk.tables.hotkeys.set 20 (some ⟨.chord 5#8 32#8, .focus 2⟩) } }
    let t := after (press 5#8 32#8 0#8) s
    t.focusUnit.focus = some 2 ∧
      t.keys.held = [held 224#8 4#8, held 226#8 4#8, ⟨0, 32#8, 0#8, true, false, 0#32⟩] ∧
      (t.port 2).queue = [.keyboard (keys 5#8 0#8 0#8)] := by decide

/-- "A locked desk": LOCK is not UNLOCK, so that only the LOCKED alert sounds. -/
theorem test_locked_desk :
    let s := commanding [] 2000#32 { desk with focusUnit := { desk.focusUnit with locked := true } }
    (after (press 0#8 15#8 0#8) s).sent = [.alert .locked, .ledNotice ledsOff] ∧
      (after (press 0#8 24#8 0#8) s).focusUnit.locked = false := by decide

/-! Worked examples of 03_focus_broadcast_and_isolation_domains.md. -/

/-- "A focus change across domains": the carry, the broadcast set, the warp to S4 and the record. -/
theorem test_focus_across_domains :
    let s :=
      focusedOn 1
        { desk with
          settings := { desk.settings with domains := #v[0, 0, 0, 0, 0, 1, 0, 0] }
          focusUnit := { desk.focusUnit with broadcast := 8#8 }
          keys := { desk.keys with held := [held 225#8 10#8, held 9#8 10#8] }
          video :=
            { desk.video with screens := #v[lit 0, lit 1, lit 2, lit 3, lit 10, lit 11, lit 6, lit 7] } }
    let t := after (.actFocus (rep [1#8, 5#8, 0#8])) s
    t.keys.held = [held 225#8 8#8, held 9#8 10#8] ∧ t.focusUnit.broadcast = 0#8 ∧
      t.pointer.place = some ⟨4, 11520, 720⟩ ∧
      t.journal.records.map (·.event) = [.focus (some 1) 5 .management] ∧ (t.port 3).queue = [] := by decide

/-- "Cycling through a mixed desk", the first CYCLE: C5 is headless and is woken. -/
theorem test_cycle_to_sleeper :
    let s :=
      focusedOn 2
        { desk with
          settings := { desk.settings with domains := #v[0, 0, 0, 0, 1, 0, 0, 1] }
          ports := #v[readyPort, readyPort, readyPort, emptyPort, readyPort,
            { readyPort with link := .suspended, armed := true }, readyPort, emptyPort] }
    let t := after (.actCycle (rep [3#8, 0xFF#8, 0xFF#8])) s
    t.focusUnit.focus = some 5 ∧ t.pointer.headless = true ∧ t.pointer.place = none ∧
      (t.port 5).link = .waking ∧ t.sent.getLast? = some (.wakeSignal 5) := by decide

/-! Worked examples of 04_pointer_glide_on_the_desk_plane.md. -/

/-- "Gain and residues". -/
theorem test_gain_and_residues :
    (gainUnits 24 3 0, gainResidue 24 3 0) = (4, 8) ∧ (gainUnits 24 3 8, gainResidue 24 3 8) = (5, 0) ∧
      (gainUnits 24 (-1) 0, gainResidue 24 (-1) 0) = (-1, -8) ∧
      (gainUnits 24 (-1) (-8), gainResidue 24 (-1) (-8)) = (-2, 0) ∧
      (gainUnits 255 2047 15, gainResidue 255 2047 15) = (32625, 0) := by decide

/-- A desk on which S0 shows C1 and S1 shows C2, with the focus on C1. -/
def edge : State :=
  focusedOn 1
    { desk with
      video := { desk.video with screens := #v[lit 2, lit 4, lit 6, lit 7, lit 8, lit 9, lit 10, lit 11] } }

/-- "Pushing through an edge", reports 1 and 6. -/
theorem test_push_through_edge :
    let one := after (moveX 20#12) (placed 0 2550 700 edge)
    let six :=
      after (moveX 20#12)
        { edge with pointer := { offPointer with place := some ⟨0, 2559, 700⟩, push := some ⟨1, .right, 91⟩ } }
    one.pointer.place = some ⟨0, 2559, 700⟩ ∧ one.pointer.push = some ⟨1, .right, 11⟩ ∧
      one.focusUnit.focus = some 1 ∧ six.pointer.place = some ⟨1, 2560, 700⟩ ∧ six.pointer.push = none ∧
      six.focusUnit.focus = some 2 ∧ six.journal.records.map (·.event) = [.focus (some 1) 2 .glide] := by decide

/-- "A long sweep over one computer's screens", and the same sweep with FOCUS_HOLD set. -/
theorem test_long_sweep :
    let box (x0 w h : Nat) : Placement := ⟨true, x0, 0, w, h⟩
    let s :=
      placed 0 100 500
        (focusedOn 1
          { desk with
            tables :=
              { desk.tables with
                modeSettings := { desk.tables.modeSettings with gain := 64 }
                committed := #v[box 0 1920 1080, box 1920 1920 1080, box 3840 2560 1440, box 10000 1 1, box 10001 1 1,
                  box 10002 1 1, box 10003 1 1, box 10004 1 1] }
            video := { desk.video with screens := #v[lit 2, lit 3, lit 4, lit 6, lit 8, lit 9, lit 10, lit 11] } })
    let report : Instr := .consolePointerReport 2#8 0#8 1100#12 0xFFE#12 0#8
    let t := after report s
    let hold := after report { s with tables := { s.tables with modeWord := s.tables.modeWord ||| 2#6 } }
    t.pointer.place = some ⟨2, 3840, 492⟩ ∧ t.focusUnit.focus = some 2 ∧ (t.port 2).queue.length = 1 ∧
      hold.pointer.place = some ⟨1, 3839, 492⟩ ∧ hold.focusUnit.focus = some 1 := by decide

/-- "A monitor unplugged". -/
theorem test_monitor_unplugged :
    let s :=
      placed 0 1800 300
        (focusedOn 1
          { desk with
            settings := { desk.settings with domains := #v[0, 0, 0, 0, 1, 0, 0, 0] }
            video := { desk.video with screens := #v[lit 2, lit 8, lit 6, lit 14, lit 15, lit 9, lit 10, lit 11] } })
    let t := after (.sinkDetach (.screen 0)) s
    t.pointer.place = some ⟨2, 6400, 720⟩ ∧ t.focusUnit.focus = some 3 ∧
      t.journal.records.map (·.event) = [.focus (some 1) 3 .relocate] := by decide

/-- "A wall of another domain": blocked from D2 to D3. -/
theorem test_wall :
    let s :=
      placed 3 10200 800
        (focusedOn 5
          { desk with
            settings := { desk.settings with domains := #v[0, 0, 0, 0, 0, 2, 3, 0], crossing := 0xF7FF#16 }
            video := { desk.video with screens := #v[lit 0, lit 1, lit 2, lit 10, lit 12, lit 5, lit 6, lit 7] } })
    let t := after (moveX 50#12) s
    t.pointer.place = some ⟨3, 10239, 800⟩ ∧ t.pointer.push = none ∧ t.focusUnit.focus = some 5 := by decide

/-! Worked examples of 05_window_records_and_pointer_coordinates.md. -/

/-- "Two displays of one computer" and "A window smaller than its screen". -/
theorem test_mapping :
    mapPair (desk.window 0) (desk.placement 0) ⟨0, 1280, 720⟩ = (8195, 16395) ∧
      mapPair (desk.window 0) (desk.placement 0) ⟨0, 2559, 1439⟩ = (16380, 32756) ∧
      mapPair (desk.window 1) (desk.placement 1) ⟨1, 2560, 720⟩ = (16387, 16395) ∧
      (mapPair ⟨some 3, 0, none, 0, 0, 2048, 1⟩ ⟨true, 20000, 0, 8192, 1⟩ ⟨3, 20103, 0⟩).1 = 25 ∧
      (mapPair ⟨some 3, 0, none, 0, 0, 2048, 1⟩ ⟨true, 20000, 0, 8192, 1⟩ ⟨3, 20104, 0⟩).1 = 26 := by decide

/-- "A relative focus", first row. -/
theorem test_relative_focus :
    let s :=
      { desk with
        tables :=
          { desk.tables with
            portSettings := desk.tables.portSettings.set 0 { defaultPortSettings with form := .relative } } }
    let t := after (.consolePointerReport 2#8 0#8 200#12 0xFFC#12 0#8) s
    (t.port 0).queue = [.relative 127 (-4) 0#5 0] ∧ t.pointer.place = some ⟨0, 100, 500⟩ := by decide

/-- "A release that crosses": C2 is served by the hand-over and C1 by R18's report. -/
theorem test_release_that_crosses :
    let s :=
      { edge with
        pointer := { offPointer with place := some ⟨0, 2559, 700⟩, push := some ⟨1, .right, 90⟩ }
        console := { edge.console with slots := #v[none, none, some (.pointer 1#5), none] }
        keys := { edge.keys with buttons := #v[some 1, none, none, none, none] }
        ports := edge.ports.set 1 { readyPort with lastPair := some (16380, 15941) } }
    let t := after (moveX 10#12) s
    t.pointer.place = some ⟨1, 2560, 700⟩ ∧ t.focusUnit.focus = some 2 ∧
      (t.port 1).queue = [.absolute 16380 15941 0#5 0] ∧ (t.port 2).queue.length = 1 := by decide

/-! Worked examples of 06_computer_ports_and_report_delivery.md. -/

/-- "A computer that restarts with keys held". -/
theorem test_bus_reset :
    let s :=
      focusedOn 5
        { desk with
          focusUnit := { desk.focusUnit with broadcast := 0x40#8 }
          console := { desk.console with ledSent := ⟨true, false, false⟩ }
          keys :=
            { desk.keys with
              held := [held 225#8 0x60#8, held 4#8 0x60#8], buttons := #v[some 5, none, none, none, none]
              snapshots :=
                (desk.keys.snapshots.set 5 (keys 2#8 4#8 0#8)).set 6 (keys 2#8 4#8 0#8) }
          ports :=
            desk.ports.set 5
              { readyPort with
                lastPair := some (8000, 4000), leds := ⟨true, false, false⟩
                queue := [.absolute 8000 4000 1#5 0, .keyboard (keys 2#8 4#8 0#8)] } }
    let t := after (.busReset 5) s
    (t.port 5).link = .attached ∧ (t.port 5).queue = [] ∧ (t.port 5).sticky = ⟨false, true, false, false, true⟩ ∧
      t.keys.held = [held 225#8 0x40#8, held 4#8 0x40#8] ∧ t.keys.buttons.get 0 = none ∧
      t.focusUnit.broadcast = 0x40#8 ∧ t.sent = [.ledNotice ledsOff] ∧ (t.port 6).queue = [] ∧
      t.journal.records.map (·.event) = [.attach 5 .busReset] := by decide +kernel

/-- "Merging at the tail". -/
theorem test_merge_at_tail :
    let s (q : List Report) := { desk with ports := desk.ports.set 3 { readyPort with queue := q } }
    ((offer 3 (.relative 60 (-5) 0#5 0) (s [.keyboard emptySnapshot, .relative 100 0 0#5 0])).port 3).queue =
        [.keyboard emptySnapshot, .relative 127 (-5) 0#5 0] ∧
      ((offer 3 (.relative 0 0 1#5 0) (s [.relative 127 (-5) 0#5 (-2)])).port 3).queue =
        [.relative 127 (-5) 0#5 (-2), .relative 0 0 1#5 0] := by decide

/-- "Overflow while asleep": step 8, and the poll that ends RESYNC. -/
theorem test_overflow_and_resync :
    let k : Report := .keyboard emptySnapshot
    let full := { desk with ports := desk.ports.set 2 { readyPort with link := .suspended, queue := List.replicate 8 k } }
    let t := offer 2 (.absolute 5 5 0#5 2) full
    let late :=
      { desk with
        keys := { desk.keys with held := [held 28#8 4#8] }
        ports :=
          desk.ports.set 2
            { readyPort with queue := [k, k, k, k, k], lastPair := some (6, 6), resync := some ⟨0, 0, 3, true⟩ } }
    let u := after (.poll 2) late
    (t.port 2).queue.length = 8 ∧ (t.port 2).resync = some ⟨0, 0, 2, true⟩ ∧ u.sent = [.delivered 2 k] ∧
      (u.port 2).queue = [k, k, k, k, .keyboard (keys 0#8 28#8 0#8), .absolute 6 6 0#5 3] ∧
      (u.port 2).resync = none ∧ (u.port 2).resyncCount = 1 := by decide

/-! Worked examples of 07_sleep_and_wake.md. -/

/-- "A key wakes the focus", at 10 000. -/
theorem test_wake_on_key :
    let s :=
      focusedOn 4
        { desk with
          clock := 10000#32
          ports := desk.ports.set 4 { readyPort with link := .suspended, armed := true } }
    let t := after (press 0#8 13#8 0#8) s
    (t.port 4).link = .waking ∧ (t.port 4).attempt = some ⟨1, 2, 5, 15000#32⟩ ∧
      (t.port 4).queue = [.keyboard (keys 0#8 13#8 0#8)] ∧ t.journal.records = [⟨10000#32, .wakeSent 4⟩] := by decide

/-- "A management WAKE that fails", at 56 000. -/
theorem test_wake_fails :
    let s :=
      { desk with
        clock := 56000#32
        ports :=
          desk.ports.set 6
            { readyPort with
              link := .waking, armed := true, attempt := some ⟨2, 1, 3, 56000#32⟩
              queue := List.replicate 3 (.keyboard emptySnapshot) }
        engine := some ⟨.wake, 0, 7#8, .wakeOf 6, false⟩ }
    let t := after (.wakeTimerExpiry 6) s
    (t.port 6).link = .suspended ∧ (t.port 6).queue = [] ∧ (t.port 6).resync = some ⟨0, 0, 0, false⟩ ∧
      (t.port 6).sticky = ⟨false, false, false, true, true⟩ ∧ t.engine = none ∧
      (t.port 0).slot = some ⟨7#8, 0x28#8, .wakeFailed, []⟩ ∧
      t.journal.records.map (·.event) = [.wakeFailed 6 2] := by decide

/-! Worked examples of 08_screens_the_video_crosspoint_and_sharing.md. -/

/-- "A switch that is overtaken": the last frame start skips one frame of V6. -/
theorem test_frame_skip :
    let s :=
      { desk with
        video :=
          { desk.video with
            inputs := desk.video.inputs.set 6 ⟨some mode, 883#32⟩
            screens := desk.video.screens.set 2 { lit 6 with shown := some (.frame 6 881#32), repeats := 1 } } }
    let t := after (.frameStart 2) s
    (t.screen 2).shown = some (.frame 6 883#32) ∧ (t.screen 2).repeats = 1 ∧ (t.screen 2).skips = 1 := by decide

/-- "SELECT with a shared home and an absent monitor". -/
theorem test_select_with_absent_monitor :
    let w (j : Input) (home : Screen) : Window := { desk.window j with computer := some 3, home := some home }
    let s :=
      focusedOn 1
        { desk with
          tables :=
            { desk.tables with
              windows := ((desk.tables.windows.set 6 (w 6 2)).set 7 (w 7 3)).set 12 (w 12 3) }
          video :=
            { desk.video with
              screens := #v[lit 2, lit 1, lit 4, emptyScreen (some 13), lit 8, lit 9, lit 10, lit 11] } }
    let t := after (.actSelect (rep [2#8, 3#8, 0#8])) s
    (t.screen 2).pending = some (some 6) ∧ (t.screen 3).committed = some 12 ∧ t.focusUnit.focus = some 3 ∧
      t.pointer.place = some ⟨2, 6400, 720⟩ ∧ (t.port 0).slot = some ⟨7#8, 0x28#8, .accepted, []⟩ := by decide

/-- "A preset for the close", by management: the requests, the share, the skipped focus and the relocation. -/
theorem test_preset_for_the_close :
    let s :=
      placed 4 11000 700
        (focusedOn 4
          { desk with
            tables :=
              { desk.tables with
                presets :=
                  desk.tables.presets.set 2
                    ⟨#v[some (some 0), some (some 1), none, none, some none, none, none, none], some 0,
                      some .nothing⟩ }
            ports := desk.ports.set 0 emptyPort |>.set 1 readyPort
            settings := { desk.settings with managementPorts := 2#8 }
            video :=
              { desk.video with
                screens := #v[lit 0, lit 3, lit 4, lit 5, lit 9, lit 10, lit 12, lit 14]
                share := { emptyShare with selection := .screen 4 } } })
    let t := after (.actApplyPreset { rep [5#8, 2#8, 0#8] with port := 1 }) s
    (t.screen 0).pending = none ∧ (t.screen 1).pending = some (some 1) ∧ (t.screen 4).pending = some none ∧
      t.video.share.selection = .nothing ∧ (t.engine.map (·.focusSkipped)) = some true ∧
      (t.journal.records.map (·.event)).take 2 = [.preset 2, .unshare] ∧
      (t.pointer.place.map (·.screen)) ≠ some 4 := by decide

/-- "A share that turns to withheld": withholding is tested before privacy. -/
theorem test_withheld :
    let s :=
      { desk with
        settings := { desk.settings with domains := #v[0, 0, 0, 0, 1, 0, 0, 0] }
        focusUnit := { desk.focusUnit with locked := true }
        tables := { desk.tables with modeWord := 0x3F#6 }
        video :=
          { desk.video with
            inputs := desk.video.inputs.set 8 ⟨some mode, 5#32⟩
            screens := desk.video.screens.set 1 (lit 8)
            share := { emptyShare with selection := .screen 1, sink := some mode } } }
    (after .shareOutFrameStart s).video.share.shown = some (.standby .withheld) := by decide

/-! Worked examples of 09, 10 and 11. -/

/-- "A due time across the wrap": SCHEDULE, and the ticks that bring the counter to 4 294 967 000, 2 703 and 2 704. -/
theorem test_schedule_across_the_wrap :
    let s := { desk with clock := 4294960000#32 }
    let t := after (.schedule (rep [0x10#8, 0x27#8, 0#8, 0#8, 10#8, 0xFF#8, 0xFF#8])) s
    t.entry 0 = some ⟨2704#32, .lock, .management⟩ ∧
      (t.port 0).slot = some ⟨7#8, 0x30#8, .ok, [0#8, 0x90#8, 0x0A#8, 0#8, 0#8]⟩ ∧
      (after .millisecondTick { t with clock := 4294966999#32 }).focusUnit.locked = false ∧
      (after .millisecondTick { t with clock := 2702#32 }).focusUnit.locked = false ∧
      (after .millisecondTick { t with clock := 2703#32 }).focusUnit.locked = true ∧
      (after .millisecondTick { t with clock := 2703#32 }).entry 0 = none := by decide

/-- R178: the key bytes that a search's parameters do not reach read 0, so that a count of 2 asks for [43, 0]. -/
theorem test_search_reads_unreached_bytes :
    let r : CommandReport := ⟨0, 0xFF#8, 7#8, 7#8, [1#8, 1#8, 2#8, 43#8]⟩
    ((after (.tableSearchHotkey r) desk).port 0).slot = some ⟨7#8, 0x1B#8, .notFound, []⟩ := by decide

/-- 10.6: an empty hotkey slot of the image has form 0 and key bytes 0. -/
theorem test_empty_hotkey_slot (free : Nat → Byte) :
    (hotkeySlotBytes free 12 none).length = 9 ∧ byteAt (hotkeySlotBytes free 12 none) 0 = 0#8 ∧
      byteAt (hotkeySlotBytes free 12 none) 2 = 0#8 ∧ byteAt (hotkeySlotBytes free 12 none) 4 = 0#8 := ⟨rfl, rfl, rfl, rfl⟩

/-- "A share, a preset and a cancellation": UNSHARE that finds NONE, and the CANCEL of T1. -/
theorem test_refused_fire_and_cancel :
    let s := { desk with clock := 400000#32, schedule := desk.schedule.set 0 (some ⟨400000#32, .unshare, .hotkey⟩) }
    let c := { desk with schedule := desk.schedule.set 1 (some ⟨720000#32, .lock, .management⟩) }
    (after (.scheduledEntryFire 0) s).journal.records.map (·.event) =
        [.scheduleRefused .unshare .noChange .hotkey] ∧
      ((after (.cancel (rep [1#8, 0x80#8, 0xFC#8, 0x0A#8, 0#8])) c).port 0).slot =
        some ⟨7#8, 0x31#8, .ok, [10#8, 0xFF#8, 0xFF#8]⟩ ∧
      ((after (.cancel (rep [0#8])) c).port 0).slot = some ⟨7#8, 0x31#8, .notFound, []⟩ := by decide

/-- "A switch overtaken by a hotkey": S2 commits V6 while SET SCREEN asked for V5. -/
theorem test_superseded :
    let s :=
      { desk with
        video := { desk.video with screens := desk.video.screens.set 2 { lit 4 with pending := some (some 6) } }
        engine := some ⟨.setScreen, 0, 7#8, .screens [⟨2, some 5, .unresolved⟩], false⟩ }
    let t := after (.frameStart 2) s
    t.engine = none ∧ (t.port 0).slot = some ⟨7#8, 0x29#8, .superseded, []⟩ := by decide

/-- "A full journal": the 32nd record fits, the next is lost, and READ JOURNAL takes four. -/
theorem test_full_journal :
    let old : JournalRecord := ⟨0#32, .lock⟩
    let s := { desk with journal := ⟨List.replicate 31 old, false⟩ }
    let t := record .unshare (record (.preset 1) s)
    t.journal.records.length = 32 ∧ t.journal.lost = true ∧
      t.journal.records.getLast? = some ⟨0#32, .preset 1⟩ ∧
      (after (.readJournal (rep [])) t).journal.records.length = 28 := by decide

/-! Witnesses: for each statement with hypotheses, states and operands that meet them, clause by clause. -/

theorem witness_StepTakesFrontCommand : State.reset.pending = [] := by decide

/-- A desk whose memory write is in flight, and a memory that answers without a valid tables section. -/
theorem witness_PowerOnStartsEveryBlock_lost_in_a_write :
    ({ desk with image := { desk.image with writing := some [] } } : State).image.writing ≠ none ∧
      desk.image.writing = none ∧ sectionValid ((List.range 670).map (fun i => byteAt [] (22 + i))) = false := by
  decide +kernel

/-- The desk at the tick before a leader timer, a debounce, a wake timer and an entry are due, and SHARE_FOR's bounds. -/
theorem witness_TickAdvancesClock :
    let s (r : Recognizer) : State :=
      { desk with
        recognizer := r
        keys := { desk.keys with held := [held 4#8 1#8] }
        ports :=
          (desk.ports.set 5 { readyPort with debounce := some 2#32 }).set 6
            { readyPort with link := .waking, attempt := some ⟨1, 2, 5, 2#32⟩ }
        schedule :=
          (desk.schedule.set 0 (some ⟨2#32, .shareFor 1, .hotkey⟩)).set 7 (some ⟨2#32, .shareFor 3600, .hotkey⟩) }
    let u : State := { s (.tap1Up 0 2#32) with clock := desk.clock + 1#32 }
    (∀ e ∈ u.keys.held, hasAged u e = false) ∧ (∀ k, (u.port k).debounce = none ∨ (u.port k).debounce = some 2#32) ∧
      (∀ k, ∀ a ∈ (u.port k).attempt, (u.clock - a.expiry).toInt < 0) ∧
      (∀ i, ∀ e ∈ u.entry i, (u.clock - e.due).toInt < 0) ∧ u.recognizer = .tap1Up 0 2#32 ∧
      (u.clock - 2#32).toInt < 0 ∧ (s (.command [] 2#32)).recognizer = .command [] 2#32 ∧
      (u.entry 0).map (·.action) = some (.shareFor 1) ∧ (u.entry 7).map (·.action) = some (.shareFor 3600) := by
  decide +kernel

theorem witness_ClockAndSettingsStand :
    exec (.poll 0) desk = .next desk ∧ (∀ image, Instr.poll 0 ≠ .powerOn image) ∧ Instr.poll 0 ≠ .millisecondTick ∧
      ∀ r b, Instr.poll 0 ≠ .deskReset r b := ⟨rfl, by simp, by simp, by simp⟩

/-- Slots 3 (empty) and 4 (none), and the slot of the other class; lengths 8 and 10 of the kind with 9. -/
theorem witness_UntakenConsoleReports :
    indexOf? 4 (3#8).toNat = some 3 ∧ desk.slotDevice 3 = none ∧ indexOf? 4 (4#8).toNat = none ∧
      desk.slotDevice 2 = some (.pointer 0#5) ∧ indexOf? 4 (0#8).toNat = some 0 ∧
      desk.slotDevice 0 = some (.keyboard 0#8 []) ∧ (byteAt [] 0).toNat = 0 ∧ 5 < (byteAt [6#8] 0).toNat ∧
      byteAt (1#8 :: List.replicate 7 0#8) 0 = 1#8 ∧ (1#8 :: List.replicate 7 0#8 : List Byte).length ≠ 9 ∧
      byteAt (2#8 :: List.replicate 7 0#8) 0 = 2#8 ∧ (2#8 :: List.replicate 7 0#8 : List Byte).length ≠ 7 ∧
      byteAt [3#8, 0#8] 0 = 3#8 ∧ ([3#8, 0#8] : List Byte).length ≠ 3 ∧
      byteAt [4#8, 0#8, 0#8] 0 = 4#8 ∧ ([4#8, 0#8, 0#8] : List Byte).length ≠ 2 ∧
      byteAt [5#8] 0 = 5#8 ∧ ([5#8] : List Byte).length ≠ 2 := by
  decide

theorem witness_KeyboardReportBecomesPreviousState :
    indexOf? 4 (0#8).toNat = some 0 ∧ desk.slotDevice 0 = some (.keyboard 0#8 []) ∧
      isRollover [1#8, 1#8, 1#8, 1#8, 1#8, 0#8] = false := by decide

/-- The lowest usage and a queue of 7; then the same key held. -/
def typing : State :=
  { desk with ports := desk.ports.set 0 { readyPort with queue := List.replicate 7 (.keyboard emptySnapshot) } }

theorem witness_PlainKeyReachesFocus_press :
    indexOf? 4 (0#8).toNat = some 0 ∧ 2 ≤ (2#8).toNat ∧ isModifier 2#8 = false ∧
      2#8 ≠ typing.tables.modeSettings.leaderKey ∧ typing.queueable 0 = true ∧ (typing.port 0).resync = none ∧
      (typing.port 0).queue.length < 8 ∧ typing.recognizer = .idle ∧
      (∀ h ∈ hotkeyList typing.tables.hotkeys, h.trigger ≠ .chord 0#8 2#8) ∧ typing.focusUnit.locked = false ∧
      typing.focusUnit.focus = some 0 ∧ typing.focusUnit.broadcast = 0#8 ∧
      typing.slotDevice 0 = some (.keyboard 0#8 []) ∧ typing.keys.held = [] ∧
      typing.keys.snapshots.get 0 = emptySnapshot := by decide

theorem witness_PlainKeyReachesFocus_release :
    let s :=
      { typing with
        console := { typing.console with slots := #v[some (.keyboard 0#8 [2#8]), none, none, none] }
        keys :=
          { typing.keys with
            held := [held 2#8 (single 0)], snapshots := typing.keys.snapshots.set 0 (keys 0#8 2#8 0#8) } }
    s.slotDevice 0 = some (.keyboard 0#8 [2#8]) ∧ s.keys.held = [⟨0, 2#8, single 0, false, false, 0#32⟩] ∧
      s.keys.snapshots.get 0 = ⟨0#8, #v[2#8, 0#8, 0#8, 0#8, 0#8, 0#8]⟩ ∧ s.queueable 0 = true ∧
      (s.port 0).resync = none ∧ (s.port 0).queue.length < 8 := by decide

/-- The focus computer asleep, armed and set to wake on a key. -/
theorem witness_PlainKeyReachesFocus_wake :
    let s := { typing with ports := typing.ports.set 0 { readyPort with link := .suspended, armed := true } }
    s.queueable 0 = true ∧ (s.port 0).link = .suspended ∧ (s.port 0).armed = true ∧ (s.settingsOf 0).wakeOnKey = true ∧
      (s.port 0).resync = none ∧ (s.port 0).queue.length < 8 := by decide

theorem witness_RecognizerSteps :
    desk.recognizer = .idle ∧ { desk with recognizer := .tap1Down 0 5#32 }.recognizer = .tap1Down 0 5#32 ∧
      { desk with recognizer := .tap1Up 0 5#32 }.recognizer = .tap1Up 0 5#32 ∧
      { desk with recognizer := .tap2Down 0 5#32 }.recognizer = .tap2Down 0 5#32 ∧
      (commanding [] 5#32 desk).recognizer = .command [] 5#32 ∧ ∀ b e, desk.recognizer ≠ .command b e :=
  ⟨rfl, rfl, rfl, rfl, rfl, fun _ _ h => by cases h⟩

/-- Presses in COMMAND: Escape, a usage that fires, one that begins an entry's keys, one that begins none, and the
highest modifier; a chord held and one not; a tap on another slot; and the leader key let go. -/
theorem witness_RecognizerSteps_reports :
    let s :=
      { desk with
        tables :=
          { desk.tables with
            hotkeys :=
              (desk.tables.hotkeys.set 30 (some ⟨.leader [4#8, 5#8, 6#8], .cycle⟩)).set 31
                (some ⟨.chord 1#8 4#8, .cycle⟩) } }
    let key := s.tables.modeSettings.leaderKey
    let down : State :=
      { s with console := { s.console with slots := #v[some (.keyboard 0#8 [71#8]), none, none, none] } }
    indexOf? 4 (0#8).toNat = some 0 ∧ 2 ≤ (2#8).toNat ∧ s.slotDevice 0 = some (.keyboard 0#8 []) ∧
      (commanding [] 5#32 s).recognizer = .command [] 5#32 ∧ isModifier 41#8 = false ∧ isModifier 231#8 = true ∧
      (commanding [4#8, 5#8] 5#32 s).slotDevice 0 = some (.keyboard 0#8 []) ∧ (∀ x ∈ s.keys.held, ¬ x.slot = 0) ∧
      s.hotkey 30 = some ⟨.leader ([4#8, 5#8] ++ [6#8]), .cycle⟩ ∧
      s.hotkey 30 = some ⟨.leader ([] ++ [4#8] ++ [5#8, 6#8]), .cycle⟩ ∧
      (∀ m, m < 30 → ∀ g ∈ s.hotkey m, g.trigger ≠ .leader [4#8, 5#8, 6#8]) ∧
      (∀ n, ∀ g ∈ s.hotkey n, g.trigger ≠ .leader [4#8]) ∧ s.hotkey 31 = some ⟨.chord 1#8 4#8, .cycle⟩ ∧
      modifiersOf [held 224#8 1#8] = 1#8 ∧ (∀ m, m < 31 → ∀ g ∈ s.hotkey m, g.trigger ≠ .chord 1#8 4#8) ∧
      modifiersOf s.keys.held = 0#8 ∧ (∀ n, ∀ g ∈ s.hotkey n, g.trigger ≠ .chord 0#8 4#8) ∧ key = 71#8 ∧
      4#8 ≠ key ∧ isModifier key = false ∧ (1 : Slot) ≠ 0 ∧ down.slotDevice 0 = some (.keyboard 0#8 [71#8]) := by
  decide +kernel

/-- No entry's keys go on from [2]. -/
theorem witness_RecognizerSteps_miss :
    ∀ n, ∀ h ∈ desk.hotkey n, (leaderKeys h).bind List.head? ≠ some 2#8 := by decide +kernel

theorem witness_DeviceAttachFillsSlot :
    indexOf? 4 (3#8).toNat = some 3 ∧ desk.slotDevice 3 = none ∧ hasPointer desk = true ∧
      State.reset.slotDevice 3 = none ∧ hasPointer State.reset = false ∧ 3#8 ≠ 1#8 ∧ 3#8 ≠ 2#8 ∧ 4 ≤ (4#8).toNat := by
  decide

/-- An occupied slot, with and without the POINTER elsewhere. -/
theorem witness_DeviceAttachFillsSlot_occupied :
    desk.slotDevice 0 ≠ none ∧ hasPointer (after (.deviceDetach 0#8) desk) = true ∧ desk.slotDevice 2 ≠ none ∧
      hasPointer (after (.deviceDetach 2#8) desk) = false := by decide

theorem witness_DeviceDetachReleases :
    indexOf? 4 (0#8).toNat = some 0 ∧ desk.slotDevice 0 = some (.keyboard 0#8 []) ∧ indexOf? 4 (2#8).toNat = some 2 ∧
      desk.slotDevice 2 = some (.pointer 0#5) ∧ indexOf? 4 (3#8).toNat = some 3 ∧ desk.slotDevice 3 = none ∧
      indexOf? 4 (4#8).toNat = none := by decide

theorem witness_ConsoleResetReleasesEverything : Admitted 0 .operate false (rep []) desk := by decide

/-- An entry of the built-in limit's age, and one a millisecond younger. -/
theorem witness_AgeingReleasesOwners :
    let s := { desk with keys := { desk.keys with held := [held 4#8 1#8] } }
    let old := { s with clock := 120000#32 }
    let young := { s with clock := 119999#32 }
    old.keys.held.find? (isHeldAs 0 4#8) = some (held 4#8 1#8) ∧ hasAged old (held 4#8 1#8) = true ∧
      young.keys.held.find? (isHeldAs 0 4#8) = some (held 4#8 1#8) ∧ hasAged young (held 4#8 1#8) = false ∧
      inSet (held 4#8 1#8).owners 0 = true ∧ inSet (held 4#8 1#8).owners 1 = false := by decide

theorem witness_GainSplitsMotion :
    1 ≤ 255 ∧ 255 ≤ 255 ∧ (-2047 : Int) ≤ -2047 ∧ (-2047 : Int) ≤ 2047 ∧ (-15 : Int) ≤ -15 ∧ (-15 : Int) ≤ 15 := by
  decide

theorem witness_MappingStaysInWindow :
    inside (desk.placement 0) ⟨0, 2559, 1439⟩ ∧ 1 ≤ (desk.window 0).ww ∧ 1 ≤ (desk.window 0).wh := by
  refine ⟨⟨rfl, ?_⟩, ?_⟩ <;> decide

/-- The pointer at the right edge, a RELATIVE focus, and the locked desk. -/
theorem witness_PointerReportWithoutWalk :
    let s :=
      { desk with
        tables :=
          { desk.tables with
            portSettings := desk.tables.portSettings.set 0 { defaultPortSettings with form := .relative } } }
    indexOf? 4 (2#8).toNat = some 2 ∧ s.slotDevice 2 = some (.pointer (readButtons 0#8)) ∧
      s.pointer.place = some ⟨0, 100, 500⟩ ∧ s.focusUnit.locked = false ∧ s.pointer.headless = false ∧
      s.focusUnit.focus = some 0 ∧ (s.settingsOf 0).form = .relative ∧
      { s.focusUnit with locked := true }.locked = true := by decide

/-- All five buttons pressed at once, with and without a glide target; and the pointer OFF: no screen at all, a screen of
the focus computer, and one of its domain only. -/
theorem witness_PointerReportWithoutWalk_buttons_and_placement :
    let off := { desk with pointer := offPointer }
    let dark : State := { off with video := { desk.video with screens := Vector.replicate 8 (emptyScreen none) } }
    let near := focusedOn 7 off
    desk.slotDevice 2 = some (.pointer 0#5) ∧ readButtons 0xFF#8 = 31#5 ∧ dark.slotDevice 2 = some (.pointer 0#5) ∧
      (∀ b : Fin 5, (Vector.replicate 5 (some 0) : Vector (Option Computer) 5).get b =
        if (0#5).getLsbD b.val = true ∧ (31#5).getLsbD b.val = false then none
        else if (31#5).getLsbD b.val = true ∧ (0#5).getLsbD b.val = false then
          (desk.focusUnit.focus).filter desk.queueable
        else desk.keys.buttons.get b) ∧
      (∀ b : Fin 5, (Vector.replicate 5 none : Vector (Option Computer) 5).get b =
        if (0#5).getLsbD b.val = true ∧ (31#5).getLsbD b.val = false then none
        else if (31#5).getLsbD b.val = true ∧ (0#5).getLsbD b.val = false then
          (none : Option Computer).filter desk.queueable
        else desk.keys.buttons.get b) ∧
      dark.pointer.place = none ∧ dark.focusUnit.focus = some 0 ∧ lowestScreenOf dark 0 = none ∧
      lowestScreenNear dark 0 = none ∧ dark.focusUnit.locked = false ∧ dark.pointer.headless = false ∧
      lowestScreenOf off 0 = some 0 ∧ off.pointer.place = none ∧ near.focusUnit.focus = some 7 ∧
      lowestScreenOf near 7 = none ∧ lowestScreenNear near 7 = some 0 ∧ screenComputer near 0 = some 0 := by
  decide +kernel

/-- The targets are the last position inside S0 on both axes. -/
theorem witness_AbsolutePointerReport :
    let s := placed 0 2539 1429 desk
    indexOf? 4 (2#8).toNat = some 2 ∧ s.slotDevice 2 = some (.pointer (readButtons 0#8)) ∧
      s.pointer.place = some ⟨0, 2539, 1429⟩ ∧ s.focusUnit.locked = false ∧ s.pointer.headless = false ∧
      s.focusUnit.focus = some 0 ∧ (s.settingsOf 0).form = .absolute ∧ intendedOf (s.screen 0) = some 0 ∧
      gainUnits s.tables.modeSettings.gain (readMotion 20#12) s.pointer.rx = 20 ∧
      gainUnits s.tables.modeSettings.gain (readMotion 10#12) s.pointer.ry = 10 ∧
      ((s.placement 0).x0 : Int) ≤ 2539 + 20 ∧ (2539 : Int) + 20 ≤ (s.placement 0).x0 + (s.placement 0).w - 1 ∧
      ((s.placement 0).y0 : Int) ≤ 1429 + 10 ∧ (1429 : Int) + 10 ≤ (s.placement 0).y0 + (s.placement 0).h - 1 := by
  decide

/-- One unit beyond the last position of S0, of S1 and of S7: a screen of the same computer, another computer's, with the
resistance not reached, reached at once and the crossing blocked, and a wall. -/
theorem witness_AbsolutePointerReport_beyond :
    let e (n : Nat) : State :=
      { desk with
        tables := { desk.tables with modeSettings := { desk.tables.modeSettings with edgeResistance := n } } }
    let s := placed 1 5119 700 (e 2)
    spanHigh .x (s.placement 1) = 5119 ∧ coordinate .x ⟨1, 5119, 700⟩ + 1 = 5120 ∧
      gainUnits s.tables.modeSettings.gain (readMotion 1#12) s.pointer.rx = 1 ∧
      gainUnits s.tables.modeSettings.gain (readMotion 0#12) s.pointer.ry = 0 ∧
      spanLow .x (s.placement 1) ≤ 5119 ∧ neighbourAt s .x 5120 ⟨1, 5119, 700⟩ = some 2 ∧ enterable s 2 = true ∧
      screenComputer s 2 = some 1 ∧ screenComputer s 1 ≠ some 1 ∧ s.tables.modeWord.getLsbD 0 = true ∧
      s.tables.modeWord.getLsbD 1 = false ∧ readButtons 0#8 = 0#5 ∧ s.domainOf 0 = s.domainOf 1 ∧
      min 1023 (0 + ((5120 : Int) - 5119).natAbs) < s.tables.modeSettings.edgeResistance ∧
      (e 1).tables.modeSettings.edgeResistance ≤ 1 ∧
      { s.tables with modeWord := 3#6 }.modeWord.getLsbD 1 = true ∧
      neighbourAt s .x 2560 ⟨0, 2559, 700⟩ = some 1 ∧ screenComputer s 0 = some 0 ∧ screenComputer s 1 = some 0 ∧
      spanLow .x (s.placement 1) ≤ 2560 ∧ 2560 ≤ spanHigh .x (s.placement 1) ∧
      neighbourAt s .x 20480 ⟨7, 20479, 700⟩ = none ∧ neighbourAt s .y 1440 ⟨0, 100, 1439⟩ = none := by decide +kernel

/-- A debounce that is due at this millisecond, for an arrival and for a loss, and one that is due at the next. -/
theorem witness_PresenceLineIsDebounced :
    let s := { desk with ports := desk.ports.set 1 { emptyPort with raw := true, debounce := some 0#32 } }
    false ≠ (s.port 0).raw ∧ (s.port 0).debounce = none ∧ (s.port 1).debounce = some 0#32 ∧
      0 ≤ (s.clock - 0#32).toInt ∧ ¬ 0 ≤ (s.clock - 1#32).toInt ∧ (s.port 1).sensed = false := by decide

/-- A deferred WAKE of C6 waits from C0 while C6 has its attempt, and a focus whose LEDs go out. -/
theorem witness_PortLeavesQueueable_wake_and_leds :
    let s :=
      { desk with
        ports :=
          (desk.ports.set 6 { readyPort with link := .waking, attempt := some ⟨1, 2, 5, 9#32⟩, leds := ledsOn })
        engine := some ⟨.wake, 0, 7#8, .wakeOf 6, false⟩
        console := { desk.console with ledSent := ledsOn }
        focusUnit := { desk.focusUnit with focus := some 6 } }
    s.queueable 6 = true ∧ s.isManagement 0 = true ∧
      ((after (.busReset 6) s).port 0).slot = some ⟨7#8, 0x28#8, .notPresent, []⟩ ∧
      (after (.busReset 6) s).engine = none ∧ (after (.busReset 6) s).sent = [.ledNotice ledsOff] := by decide

/-- At either end the engine waits for something else, for this attempt, or for it from a port that is not in the set. -/
theorem witness_WakeAttemptRunsAndEnds_waited :
    let s (n : Nat) (w : Wait) : State :=
      { desk with
        ports := desk.ports.set 6 { readyPort with link := .waking, attempt := some ⟨n, 2, 5, 0#32⟩ }
        engine := some ⟨.wake, 0, 7#8, w, false⟩ }
    let foreign := { s 3 (.wakeOf 6) with engine := some ⟨.wake, 1, 7#8, .wakeOf 6, false⟩ }
    ((s 3 (.wakeOf 6)).port 6).attempt = some ⟨3, 2, 5, 0#32⟩ ∧ 0 ≤ ((s 3 (.wakeOf 6)).clock - 0#32).toInt ∧
      Wait.memoryWrite ≠ .wakeOf 6 ∧ (s 3 (.wakeOf 6)).isManagement 0 = true ∧ foreign.isManagement 1 = false ∧
      ((after (.wakeTimerExpiry 6) (s 3 (.wakeOf 6))).port 0).slot = some ⟨7#8, 0x28#8, .wakeFailed, []⟩ := by
  decide

theorem witness_PortLeavesQueueable :
    let s :=
      { desk with
        ports :=
          ((desk.ports.set 1 { readyPort with raw := false, debounce := some 0#32 }).set 2 emptyPort).set 3
            { readyPort with link := .attached } }
    let att := { desk with ports := desk.ports.set 0 { readyPort with link := .attached, debounce := some 0#32 } }
    (att.port 0).link = .attached ∧ att.focusUnit.focus = some 0 ∧ (att.port 0).debounce = some 0#32 ∧
      (att.port 0).sensed = true ∧ s.queueable 0 = true ∧ (s.port 2).link = .detached ∧ (s.port 3).link = .attached ∧
      s.focusUnit.focus ≠ some 3 ∧ (s.port 1).debounce = some 0#32 ∧ 0 ≤ (s.clock - 0#32).toInt ∧
      (s.port 1).sensed = true ∧ s.queueable 1 = true := by decide

theorem witness_LinkEvents :
    let s :=
      { desk with
        ports := (desk.ports.set 1 { readyPort with link := .attached }).set 2 { readyPort with link := .suspended } }
    (s.port 1).link = .attached ∧ (s.port 0).link = .ready ∧ s.focusUnit.focus = some 0 ∧ (s.port 3).link = .ready ∧
      s.focusUnit.focus ≠ some 3 ∧ (s.port 2).link = .suspended := by decide

/-- Four reports after the poll end RESYNC, five do not. -/
theorem witness_PollDelivers :
    let k : Report := .keyboard emptySnapshot
    let p (n : Nat) (link : LinkState) (r : Option Resync) : Port :=
      { readyPort with link := link, queue := List.replicate n k, resync := r }
    let s :=
      { desk with
        ports :=
          ((desk.ports.set 1 (p 5 .ready (some zeroResync))).set 2 (p 6 .ready (some zeroResync))).set 3
            (p 1 .suspended none) }
    (s.port 3).link ≠ .ready ∧ (s.port 0).link = .ready ∧ (s.port 0).resync = none ∧ (s.port 0).queue = [] ∧
      (s.port 1).queue = k :: List.replicate 4 k ∧ (s.port 1).resync = some zeroResync ∧
      (List.replicate 4 k).length ≤ 4 ∧ zeroResync.pointerDropped = false ∧
      (s.port 2).queue = k :: List.replicate 5 k ∧ 4 < (List.replicate 5 k).length := by decide

/-- An empty queue, and five reports, in RESYNC with pointer reports dropped, for either form. -/
theorem witness_PollDelivers_dropped :
    let k : Report := .keyboard emptySnapshot
    let acc : Resync := { zeroResync with dx := 3, wheel := 1, pointerDropped := true }
    let s :=
      { desk with
        ports :=
          (desk.ports.set 1 { readyPort with resync := some acc }).set 2
            { readyPort with resync := some acc, queue := List.replicate 5 k, lastPair := some (3, 4) }
        tables :=
          { desk.tables with
            portSettings := desk.tables.portSettings.set 2 { defaultPortSettings with form := .relative } } }
    (s.port 1).link = .ready ∧ (s.port 1).queue = [] ∧ (s.port 1).resync = some acc ∧ acc.pointerDropped = true ∧
      (s.settingsOf 1).form = .absolute ∧ (s.port 2).queue = k :: List.replicate 4 k ∧
      (s.settingsOf 2).form = .relative ∧ (s.port 2).resync = some acc ∧ (List.replicate 4 k).length ≤ 4 := by decide

theorem witness_ReportsBesideTheEngine :
    let s := { desk with ports := desk.ports.set 2 { readyPort with link := .suspended } }
    (s.port 2).link ≠ .ready ∧ (s.port 0).link = .ready ∧ s.isManagement 0 = true ∧ deskMatches s 1#8 = false ∧
      (s.port 1).link = .ready ∧ s.isManagement 1 = false ∧ reachesEngine (rep []) s = true ∧
      isCommandCode 0xFF#8 = false := by decide

/-- The last signal that is not above the limit, and the one that is. -/
theorem witness_WakeAttemptRunsAndEnds :
    let waking (n : Nat) (expiry : Millis) : State :=
      { desk with
        ports := desk.ports.set 6 { readyPort with link := .waking, attempt := some ⟨n, 2, 5, expiry⟩ } }
    let waited := { waking 1 0#32 with engine := some ⟨.wake, 0, 7#8, .wakeOf 6, false⟩ }
    ((waking 2 0#32).port 6).link = .waking ∧ ((waking 2 0#32).port 6).attempt = some ⟨2, 2, 5, 0#32⟩ ∧
      0 ≤ ((waking 2 0#32).clock - 0#32).toInt ∧ ¬ 0 ≤ ((waking 2 1#32).clock - 1#32).toInt ∧ 2 < 3 ∧
      ((waking 3 0#32).port 6).attempt = some ⟨3, 2, 5, 0#32⟩ ∧ (waking 3 0#32).engine = none ∧
      waited.engine = some ⟨.wake, 0, 7#8, .wakeOf 6, false⟩ ∧ (0 : Computer) ≠ 6 ∧ waited.isManagement 0 = true := by
  decide

/-! The crosspoint, the schedule, the memory and the engine. -/

theorem witness_InputEvents :
    let s := { desk with video := { desk.video with inputs := desk.video.inputs.set 15 ⟨some mode, 0xFFFFFFFF#32⟩ } }
    (s.input 0).signal = none ∧ (s.input 15).signal = some mode := by decide

theorem witness_SinkEvents :
    let s := { desk with video := { desk.video with screens := desk.video.screens.set 7 (emptyScreen none) } }
    (s.screen 7).sink = none ∧ (s.screen 3).sink = some mode ∧ s.engine = none ∧
      ∀ p ∈ s.pointer.place, p.screen ≠ 3 := by decide

/-- The sink under the pointer, a pending source, and a command that waits for the one screen, or for one more. -/
theorem witness_SinkEvents_busy :
    let s (ts : List Touched) : State :=
      { desk with
        video := { desk.video with screens := desk.video.screens.set 0 { lit 0 with pending := some (some 6) } }
        engine := some ⟨.select, 0, 7#8, .screens ts, false⟩ }
    let one : Touched := ⟨0, some 6, .unresolved⟩
    let two : Touched := ⟨1, some 6, .unresolved⟩
    ((s [one]).screen 0).sink = some mode ∧ ((s [one]).screen 0).pending = some (some 6) ∧
      (s [one]).pointer.place = some ⟨0, 100, 500⟩ ∧ (s [one]).focusUnit.focus = some 0 ∧
      (s [one]).engine = some ⟨.select, 0, 7#8, .screens [one], false⟩ ∧ (s [one]).isManagement 0 = true ∧
      (∃ x ∈ [one, two], x.screen = 0 ∧ x.resolution = .unresolved) ∧
      (∀ x ∈ [two], ¬ (x.screen = 0 ∧ x.resolution = .unresolved)) := by decide

theorem witness_FrameStartShowsContent :
    let s := { desk with video := { desk.video with screens := desk.video.screens.set 7 (emptyScreen none) } }
    (s.screen 7).sink = none ∧ (s.screen 3).sink = some mode ∧
      (s.screen 3).pending.getD (s.screen 3).committed = some 3 ∧ (s.input 3).signal = none ∧ s.engine = none := by
  decide

/-- An input of a permitted domain and one of a domain that is not. -/
theorem witness_ShareOutNeverLeaks :
    let s :=
      { desk with
        settings := { desk.settings with domains := #v[0, 1, 0, 0, 0, 0, 0, 0] }
        video := { desk.video with share := { emptyShare with sink := some mode, selection := .screen 3 } } }
    desk.video.share.sink = none ∧ s.video.share.sink = some mode ∧ (s.screen 3).committed = some 3 ∧
      s.settings.shareOutPermitted.getLsbD (inputDomain s 3).val = false ∧
      s.settings.shareOutPermitted.getLsbD (inputDomain s 0).val = true := by decide

/-- The delays 1, 86 400 000 and one more, a table with only T7 empty, and a full one. -/
theorem witness_ScheduleAndFiring :
    let e : Option ScheduleEntry := some ⟨0#32, .unshare, .hotkey⟩
    let s := { desk with schedule := #v[e, e, e, e, e, e, e, none] }
    let full := { desk with schedule := Vector.replicate 8 e }
    let shared := { s with video := { s.video with share := { emptyShare with selection := .input 0 } } }
    let r (d : Nat) : CommandReport := rep (le32 d ++ [9#8, 0xFF#8, 0xFF#8])
    s.entry 7 = none ∧ (∀ j, j < 7 → s.entry j ≠ none) ∧ (∀ i, full.entry i ≠ none) ∧
      s.entry 0 = some ⟨0#32, .unshare, .hotkey⟩ ∧ 0 ≤ (s.clock - 0#32).toInt ∧ ¬ 0 ≤ (s.clock - 1#32).toInt ∧
      shared.video.share.selection ≠ .nothing ∧ s.video.share.selection = .nothing ∧ s.focusUnit.locked = false ∧
      Admitted 7 .operate false (r 1) s ∧ parseAction (natAt (r 1).params 4) (read16 (r 1).params 5) = some .unshare ∧
      read32 (r 1).params 0 = 1 ∧ read32 (r 86400000).params 0 = 86400000 ∧
      ¬ read32 (r 86400001).params 0 ≤ 86400000 := by decide

/-- A due UNLOCK while locked, and an action that is none and one whose argument is out of range. -/
theorem witness_ScheduleAndFiring_unlock_and_refusal :
    let s : State :=
      { desk with
        focusUnit := { desk.focusUnit with locked := true }
        schedule := desk.schedule.set 7 (some ⟨0#32, .unlock, .management⟩) }
    let r (a n : Nat) : CommandReport := rep (le32 1 ++ byteOf a :: le16 n)
    s.entry 7 = some ⟨0#32, .unlock, .management⟩ ∧ s.focusUnit.locked = true ∧ 0 ≤ (s.clock - 0#32).toInt ∧
      Admitted 7 .operate false (r 15 0xFFFF) s ∧
      parseAction (natAt (r 15 0xFFFF).params 4) (read16 (r 15 0xFFFF).params 5) = none ∧
      parseAction (natAt (r 8 3601).params 4) (read16 (r 8 3601).params 5) = none := by decide

theorem witness_CancelRemovesEntry :
    let s := { desk with schedule := desk.schedule.set 7 (some ⟨500#32, .lock, .hotkey⟩) }
    Admitted 1 .operate false (rep [7#8]) s ∧ Admitted 5 .operate false (rep (7#8 :: le32 500)) s ∧
      natAt (rep [7#8]).params 0 = 7 ∧ s.entry 7 = some ⟨500#32, .lock, .hotkey⟩ ∧ s.entry 6 = none ∧
      8 ≤ natAt (rep [8#8]).params 0 ∧ read32 (rep (7#8 :: le32 500)).params 1 = 500 ∧
      read32 (rep (7#8 :: le32 501)).params 1 ≠ 500 := by decide

theorem witness_SaveAndMemoryWrite :
    let s :=
      { desk with
        image := { desk.image with writing := some [1#8] }
        engine := some ⟨.save, 0, 7#8, .memoryWrite, false⟩ }
    Admitted 0 .configure false (rep []) desk ∧ desk.image.writing = none ∧ s.image.writing = some [1#8] ∧
      [1#8].length ≤ 670 ∧ s.engine = some ⟨.save, 0, 7#8, .memoryWrite, false⟩ ∧ s.isManagement 0 = true ∧
      Admitted 0 .configure false (rep []) { s with engine := none } := by decide

theorem witness_AbortEndsTheWait :
    let s := { desk with engine := some ⟨.save, 0, 9#8, .memoryWrite, false⟩ }
    let observe := { desk with settings := { desk.settings with lockLevel := .observe } }
    Admitted 0 .operate true (rep []) desk ∧ desk.engine = none ∧ Admitted 0 .operate true (rep []) s ∧
      s.engine = some ⟨.save, 0, 9#8, .memoryWrite, false⟩ ∧ s.isManagement 0 = true ∧
      reachesEngine (rep []) observe = true ∧ (rep []).length = 0#8 ∧ observe.settings.lockLevel = .observe := by decide

/-! The management commands. -/

theorem witness_ReadsAnswer :
    Admitted 0 .read true (rep []) desk ∧ Admitted 1 .read true (rep [7#8]) desk ∧ natAt (rep [7#8]).params 0 = 7 ∧
      natAt (rep [15#8]).params 0 = 15 ∧ 8 ≤ natAt (rep [8#8]).params 0 ∧ 16 ≤ natAt (rep [16#8]).params 0 := by decide

theorem witness_ReadJournalRemovesRecords : Admitted 0 .read true (rep []) desk := by decide

/-- The mask of all six bits and the least mask beyond them; settings that parse, and a gain of 0 that does not. -/
theorem witness_ModeCommands :
    let r := rep (modeSettingsBytes defaultModeSettings)
    Admitted 1 .configure false (rep [63#8]) desk ∧ byteAt (rep [63#8]).params 0 = (63#6).setWidth 8 ∧
      64 ≤ natAt (rep [64#8]).params 0 ∧ Admitted 11 .configure false r desk ∧
      parseModeSettings r.params = some defaultModeSettings ∧ parseModeSettings (0#8 :: r.params.drop 1) = none ∧
      (∀ h ∈ hotkeyList desk.tables.hotkeys, h.trigger ≠ .chord 0#8 defaultModeSettings.leaderKey) ∧
      defaultModeSettings.leaderKey = desk.tables.modeSettings.leaderKey ∧
      defaultModeSettings.ageLimit = desk.tables.modeSettings.ageLimit := by decide

theorem witness_ModeCommands_chords :
    ∀ h ∈ hotkeyList State.reset.tables.hotkeys, ∀ mods key, h.trigger = .chord mods key →
      key ≠ defaultModeSettings.leaderKey := by
  simp [hotkeyList, State.reset, defaultTables, defaultHotkeys, leaderEntry]

/-- A chord on the new leader key; a new leader key in a tap state; a limit lowered to what an entry has reached, one
raised, and one from 0. -/
theorem witness_ModeCommands_conflict_and_ageing :
    let m : ModeSettings := { defaultModeSettings with leaderKey := 4#8, ageLimit := 1 }
    let s : State :=
      { desk with
        clock := 1000#32
        recognizer := .tap1Up 0 5#32
        keys := { desk.keys with held := [held 4#8 1#8] } }
    let c : State :=
      { s with tables := { s.tables with hotkeys := s.tables.hotkeys.set 31 (some ⟨.chord 0#8 4#8, .cycle⟩) } }
    let u : State := { s with tables := { s.tables with modeSettings := m }, recognizer := .idle }
    Admitted 11 .configure false (rep (modeSettingsBytes m)) s ∧
      parseModeSettings (rep (modeSettingsBytes m)).params = some m ∧
      c.hotkey 31 = some ⟨.chord 0#8 m.leaderKey, .cycle⟩ ∧ m.leaderKey ≠ s.tables.modeSettings.leaderKey ∧
      m.ageLimit ≠ 0 ∧ m.ageLimit < s.tables.modeSettings.ageLimit ∧ hasAged u (held 4#8 1#8) = true ∧
      inSet (held 4#8 1#8).owners 0 = true ∧ inSet (held 4#8 1#8).owners 1 = false ∧
      s.keys.held.Pairwise (fun a b => ¬ (a.slot = b.slot ∧ a.usage = b.usage)) ∧
      s.tables.modeSettings.ageLimit ≤ 255 ∧ { m with ageLimit := 0 }.ageLimit = 0 := by decide +kernel

theorem witness_LayoutRevertCopies : Admitted 0 .configure false (rep []) desk := by decide

/-- A layout that passes with the pointer ON and OFF, and one with a screen of no width. -/
theorem witness_LayoutCommitChecksAndApplies :
    Admitted 0 .configure false (rep []) desk ∧ layoutFault desk.tables.staged = none ∧
      desk.pointer.place = some ⟨0, 100, 500⟩ ∧ isFocusScreen desk 0 = true ∧ State.reset.pointer.place = none ∧
      layoutFault (desk.tables.staged.set 7 ⟨true, 17920, 0, 0, 1440⟩) = some (7, .badArgument) := by decide

/-- A layout that disables the screen under the pointer. -/
theorem witness_LayoutCommit_relocates :
    let lay := desk.tables.staged.set 0 { desk.tables.staged.get 0 with enabled := false }
    let s := { desk with tables := { desk.tables with staged := lay } }
    let u := { s with tables := { s.tables with committed := s.tables.staged } }
    layoutFault s.tables.staged = none ∧ s.pointer.place = some ⟨0, 100, 500⟩ ∧ s.focusUnit.focus = some 0 ∧
      isFocusScreen u 0 = false := by decide

/-- The lowest index outside each table, and bytes that form no trigger and no computer. -/
theorem witness_TableReadsAndSearches_refusals :
    Admitted 2 .read true (rep [1#8, 32#8]) desk ∧ 32 ≤ natAt (rep [1#8, 32#8]).params 1 ∧
      16 ≤ natAt (rep [2#8, 16#8]).params 1 ∧ 8 ≤ natAt (rep [3#8, 8#8]).params 1 ∧
      natAt (rep [2#8, 0#8]).params 0 ≠ 1 ∧ Admitted 7 .read true (rep (1#8 :: List.replicate 6 0#8)) desk ∧
      parseTrigger ((rep (1#8 :: List.replicate 6 0#8)).params.drop 1) = none ∧
      parseComputer (byteAt (rep [2#8, 8#8]).params 1) = none := by decide

theorem witness_TableReadsAndSearches :
    let s := { desk with schedule := desk.schedule.set 7 (some ⟨500#32, .lock, .hotkey⟩) }
    let t := triggerBytes (.leader [43#8])
    Admitted 2 .read true (rep [1#8, 31#8]) s ∧ natAt (rep [1#8, 31#8]).params 0 = 1 ∧
      natAt (rep [1#8, 31#8]).params 1 = 31 ∧ s.hotkey 31 = none ∧ s.hotkey 0 = some ⟨.leader [30#8], .select 0⟩ ∧
      s.entry 7 = some ⟨500#32, .lock, .hotkey⟩ ∧ s.entry 6 = none ∧ Admitted 7 .read true (rep (1#8 :: t)) s ∧
      parseTrigger ((rep (1#8 :: t)).params.drop 1) = some (.leader [43#8]) ∧
      s.hotkey 13 = some ⟨.leader [43#8], .cycle⟩ ∧ (∀ j, j < 13 → ∀ g ∈ s.hotkey j, g.trigger ≠ .leader [43#8]) ∧
      (∀ i, ∀ g ∈ s.hotkey i, g.trigger ≠ .leader [44#8]) ∧ Admitted 2 .read true (rep [2#8, 7#8]) s ∧
      parseComputer (byteAt (rep [2#8, 7#8]).params 1) = some (some 7) ∧ (s.window 14).computer = some 7 ∧
      (∀ l, l < 14 → (s.window l).computer ≠ some 7) ∧ parseComputer 0xFF#8 = some none ∧
      ∀ j, (s.window j).computer ≠ none := by decide

/-- A free trigger, one that is taken, one on the leader key, and each of the other tables' records. -/
theorem witness_TableWritesAndDeletes :
    let h (key : Byte) : Hotkey := ⟨.leader [key], .cycle⟩
    let r (i : Byte) (key : Byte) : CommandReport := rep ([1#8, i] ++ hotkeyBytes (h key))
    let w := rep ([2#8, 15#8] ++ windowBytes (desk.window 15))
    let p := rep ([4#8, 7#8] ++ presetBytes 0#8 ⟨Vector.replicate 8 none, some 1, none⟩)
    let ps := rep ([3#8, 7#8] ++ portSettingsBytes defaultPortSettings)
    Admitted 11 .configure false (r 31#8 44#8) desk ∧ parseHotkey ((r 31#8 44#8).params.drop 2) = some (h 44#8) ∧
      parseHotkey ((r 31#8 0#8).params.drop 2) = none ∧
      hotkeyConflict (otherHotkeys desk 31) desk.tables.modeSettings.leaderKey (h 44#8) = none ∧
      hotkeyConflict (otherHotkeys desk 31) desk.tables.modeSettings.leaderKey (h 43#8) = some .duplicate ∧
      Admitted 13 .configure false w desk ∧ parseWindow (w.params.drop 2) = some (desk.window 15) ∧
      (∀ q ∈ desk.pointer.place, intendedOf (desk.screen q.screen) ≠ some 15) ∧ Admitted 13 .configure false p desk ∧
      parsePreset (p.params.drop 2) = some ⟨Vector.replicate 8 none, some 1, none⟩ ∧
      Admitted 5 .configure false ps desk ∧ parsePortSettings (ps.params.drop 2) = some defaultPortSettings ∧
      Admitted 2 .configure false (rep [1#8, 31#8]) desk ∧ desk.hotkey 31 = none ∧ desk.hotkey 0 ≠ none ∧
      desk.preset 7 = emptyPreset := by decide

/-- Records that are refused, the lowest index outside each table, and a window under the pointer bound anew. -/
theorem witness_TableWrites_refused_and_under_the_pointer :
    let w : Window := { desk.window 0 with computer := some 7 }
    let u (c : Computer) : State :=
      { desk with
        tables :=
          { desk.tables with windows := desk.tables.windows.set 0 { desk.window 0 with computer := some c } } }
    let r := rep ([2#8, 0#8] ++ windowBytes w)
    let zeros (n : Nat) : List Byte := List.replicate n 0#8
    Admitted 13 .configure false r desk ∧ parseWindow (r.params.drop 2) = some w ∧
      w.computer ≠ (desk.window 0).computer ∧ desk.pointer.place = some ⟨0, 100, 500⟩ ∧
      intendedOf (desk.screen 0) = some 0 ∧ isFocusScreen (u 7) 0 = false ∧ desk.focusUnit.focus = some 0 ∧
      isFocusScreen (focusedOn 7 (u 7)) 0 = true ∧ parseWindow (zeros 11) = none ∧
      parsePreset (100#8 :: zeros 10) = none ∧ parsePortSettings (zeros 3) = none ∧
      16 ≤ natAt (rep [2#8, 16#8]).params 1 ∧ 8 ≤ natAt (rep [4#8, 8#8]).params 1 ∧
      32 ≤ natAt (rep [1#8, 32#8]).params 1 := by decide

theorem witness_TableDelete_of_a_preset :
    (⟨Vector.replicate 8 none, some 1, none⟩ : Preset) ≠ emptyPreset := by decide

theorem witness_TableRefusals :
    Admitted 2 .read true (rep [0#8, 0#8]) desk ∧ Admitted 1 .read true (rep [0#8]) desk ∧
      Admitted 2 .configure false (rep [0#8, 0#8]) desk ∧
      Admitted 56 .configure false (rep (List.replicate 56 0#8)) desk ∧
      Admitted 11 .configure false (rep (List.replicate 11 0#8)) desk ∧
      Admitted 14 .configure false (rep (List.replicate 14 0#8)) desk := by decide

theorem witness_RefusedCommandsChangeOnlyTheSlot :
    let observe := { desk with settings := { desk.settings with lockLevel := .observe } }
    let busy := { desk with engine := some ⟨.save, 0, 9#8, .memoryWrite, false⟩ }
    let asleep := { desk with ports := desk.ports.set 0 { readyPort with link := .suspended } }
    let foreign : CommandReport := { rep [] with port := 1 }
    let other : CommandReport := { rep [] with deskMatch := 1#8 }
    commandOf (.save (rep [])) = some (rep [], saveSpec) ∧ reachesEngine (rep []) desk = true ∧
      lengthAllowed saveSpec (rep [0#8]).length = false ∧ lengthAllowed saveSpec (rep []).length = true ∧
      levelAllows observe.settings.lockLevel saveSpec.cls = false ∧
      levelAllows busy.settings.lockLevel saveSpec.cls = true ∧ busy.engine ≠ none ∧ saveSpec.whileBusy = false ∧
      (asleep.port 0).link ≠ .ready ∧ (desk.port 1).link = .ready ∧ desk.isManagement foreign.port = false ∧
      desk.isManagement 0 = true ∧ deskMatches desk other.deskMatch = false :=
  ⟨rfl, by decide⟩

/-! Actions. -/

theorem witness_FocusActions :
    let s := { desk with ports := desk.ports.set 3 emptyPort }
    let p : Preset := ⟨Vector.replicate 8 none, some 1, none⟩
    Admitted 3 .operate false (rep [1#8, 7#8, 0#8]) s ∧ natAt (rep [1#8, 7#8, 0#8]).params 0 = 1 ∧
      read16 (rep [1#8, 7#8, 0#8]).params 1 = 7 ∧ (s.port 7).link ≠ .detached ∧ s.focusUnit.focus ≠ some 7 ∧
      (s.port 3).link = .detached ∧ s.focusUnit.focus = some 0 ∧
      read16 (rep [3#8, 0xFF#8, 0xFF#8]).params 1 = 0xFFFF ∧ s.queueable (0 + 1) = true ∧
      s.domainOf (0 + 1) = s.domainOf 0 ∧
      (∀ m : Fin 8, m ≠ 0 → m < 1 → ¬ (s.queueable (0 + m) = true ∧ s.domainOf (0 + m) = s.domainOf 0)) ∧
      s.preset 7 = emptyPreset ∧ touchedByAll s (presetRequests p) = [] := by decide

/-- A focus alone in its domain, and a computer whose port is not queueable. -/
theorem witness_FocusActions_refused :
    let s : State :=
      { desk with
        settings := { desk.settings with domains := #v[0, 1, 1, 1, 1, 1, 1, 1] }, ports := desk.ports.set 3 emptyPort }
    s.focusUnit.focus = some 0 ∧ natAt (rep [3#8, 0xFF#8, 0xFF#8]).params 0 = 3 ∧
      (∀ n : Fin 8, n ≠ 0 → ¬ (s.queueable (0 + n) = true ∧ s.domainOf (0 + n) = s.domainOf 0)) ∧
      Admitted 3 .operate false (rep [2#8, 3#8, 0#8]) s ∧ read16 (rep [2#8, 3#8, 0#8]).params 1 = 3 ∧
      s.queueable 3 = false := by decide

/-- A new focus asleep, armed and set to wake on focus. -/
theorem witness_FocusChangeEffects_wake :
    let s := { desk with ports := desk.ports.set 7 { readyPort with link := .suspended, armed := true } }
    (s.port 7).link = .suspended ∧ (s.port 7).armed = true ∧ (s.settingsOf 7).wakeOnFocus = true := by decide

/-- A headless focus and one with a screen, by glide and by management, and a journal with one place left. -/
theorem witness_FocusChangeEffects :
    desk.focusUnit.focus = some 0 ∧ { desk.focusUnit with focus := none }.focus = none ∧ Cause.glide = .glide ∧
      Cause.management ≠ .glide ∧ Cause.management ≠ .relocate ∧ (List.replicate 31 JournalEvent.lock).length < 32 := by
  decide

theorem witness_WakeAction :
    let asleep (armed : Bool) : State :=
      { desk with ports := desk.ports.set 7 { readyPort with link := .suspended, armed := armed } }
    let r := rep [4#8, 7#8, 0#8]
    Admitted 3 .operate false r (asleep true) ∧ natAt r.params 0 = 4 ∧ read16 r.params 1 = 7 ∧
      ((asleep true).port 7).link = .suspended ∧ ((asleep true).port 7).armed = true ∧
      ((asleep false).port 7).armed = false ∧ (desk.port 7).link = .ready ∧
      ({ desk with ports := desk.ports.set 7 emptyPort }.port 7).link = .detached := by decide

/-- The selection standing already and not, the pointer OFF, 1 and 3600 seconds, only T7 empty, and no slot empty. -/
theorem witness_ShareActions :
    let e : Option ScheduleEntry := some ⟨0#32, .unshare, .hotkey⟩
    let s := { desk with schedule := #v[e, e, e, e, e, e, e, none] }
    let off := { desk with pointer := offPointer }
    let shared := { desk with video := { desk.video with share := { emptyShare with selection := .screen 0 } } }
    let r (code n : Nat) : CommandReport := rep (byteOf code :: le16 n)
    Admitted 3 .operate false (r 6 0xFFFF) s ∧ natAt (r 6 0xFFFF).params 0 = 6 ∧ read16 (r 6 0xFFFF).params 1 = 0xFFFF ∧
      off.pointer.place = none ∧ s.pointer.place = some ⟨0, 100, 500⟩ ∧ s.video.share.selection ≠ .screen 0 ∧
      shared.video.share.selection = .screen 0 ∧ read16 (r 7 7).params 1 = 7 ∧ s.video.share.selection ≠ .screen 7 ∧
      shared.video.share.selection ≠ .nothing ∧ s.video.share.selection = .nothing ∧ read16 (r 8 1).params 1 = 1 ∧
      read16 (r 8 3600).params 1 = 3600 ∧ s.entry 7 = none ∧ (∀ j, j < 7 → s.entry j ≠ none) ∧
      (∀ i, { s with schedule := Vector.replicate 8 e }.entry i ≠ none) := by decide

theorem witness_LockActions :
    let locked := { desk with focusUnit := { desk.focusUnit with locked := true } }
    let r (code : Byte) : CommandReport := rep [code, 0xFF#8, 0xFF#8]
    Admitted 3 .operate false (r 10#8) desk ∧ read16 (r 10#8).params 1 = 0xFFFF ∧ natAt (r 10#8).params 0 = 10 ∧
      natAt (r 11#8).params 0 = 11 ∧ Admitted 3 .operate false (r 11#8) locked ∧ locked.focusUnit.locked = true ∧
      desk.focusUnit.locked = false := by decide

/-- A member, the focus, a computer of another domain, one whose port is not queueable, and one that joins. -/
theorem witness_BroadcastAndHoldActions :
    let s :=
      { desk with
        settings := { desk.settings with domains := #v[0, 0, 1, 0, 0, 0, 0, 0] }
        ports := desk.ports.set 3 emptyPort
        focusUnit := { desk.focusUnit with broadcast := 2#8 } }
    let r (code n : Nat) : CommandReport := rep (byteOf code :: le16 n)
    Admitted 3 .operate false (r 12 1) s ∧ natAt (r 12 1).params 0 = 12 ∧ read16 (r 12 1).params 1 = 1 ∧
      inSet s.focusUnit.broadcast 1 = true ∧ inSet s.focusUnit.broadcast 0 = false ∧ s.focusUnit.focus = some 0 ∧
      inSet s.focusUnit.broadcast 2 = false ∧ s.focusUnit.focus ≠ some 2 ∧
      s.focusUnit.focus.map s.domainOf ≠ some (s.domainOf 2) ∧
      s.focusUnit.focus.map s.domainOf = some (s.domainOf 3) ∧ s.queueable 3 = false ∧ s.queueable 4 = true ∧
      s.focusUnit.focus.map s.domainOf = some (s.domainOf 4) ∧ natAt (r 13 0xFFFF).params 0 = 13 ∧
      natAt (r 14 0xFFFF).params 0 = 14 ∧ read16 (r 13 0xFFFF).params 1 = 0xFFFF ∧
      Admitted 1 .operate false (rep [0xFF#8]) s ∧
      ∀ k, inSet 0xF2#8 k = true ↔
        (inSet (byteAt (rep [0xFF#8]).params 0) k = true ∧ s.focusUnit.focus ≠ some k ∧
          s.focusUnit.focus.map s.domainOf = some (s.domainOf k) ∧ s.queueable k = true) := by decide

theorem witness_SetScreenRequests :
    let s := { desk with video := { desk.video with screens := desk.video.screens.set 7 (emptyScreen none) } }
    let r := rep [7#8, 15#8]
    Admitted 2 .operate false r s ∧ natAt r.params 0 = 7 ∧ parseSource (byteAt r.params 1) = some (some 15) ∧
      8 ≤ natAt (rep [8#8, 0#8]).params 0 ∧ parseSource 16#8 = none ∧ parseSource 0xFE#8 = some none ∧
      (∀ p ∈ s.pointer.place, p.screen ≠ 7) ∧ (s.screen 7).pending.getD (s.screen 7).committed = none ∧
      (s.screen 7).sink = none ∧ (s.screen 6).sink ≠ none ∧
      (s.screen 6).pending.getD (s.screen 6).committed ≠ some 15 := by decide

/-- The pointer's own screen, with a sink and without, asked for an input of another computer and of its own. -/
theorem witness_SetScreenRequests_under_the_pointer :
    let s := { desk with video := { desk.video with screens := desk.video.screens.set 0 (emptyScreen (some 0)) } }
    Admitted 2 .operate false (rep [0#8, 15#8]) desk ∧ desk.pointer.place = some ⟨0, 100, 500⟩ ∧
      desk.focusUnit.focus = some 0 ∧ (desk.screen 0).pending.getD (desk.screen 0).committed ≠ some 15 ∧
      (desk.screen 0).sink ≠ none ∧ (s.screen 0).sink = none ∧
      isFocusScreen (desk.setScreen 0 { desk.screen 0 with pending := some (some 15) }) 0 = false ∧
      isFocusScreen (desk.setScreen 0 { desk.screen 0 with pending := some (some 1) }) 0 = true := by decide

theorem witness_ClearCommands :
    let u :=
      { desk with
        ports := desk.ports
        video := { desk.video with screens := desk.video.screens, share := { desk.video.share with repeats := 0 } } }
    Admitted 1 .operate false (rep [0xFF#8]) desk ∧ Admitted 0 .operate false (rep []) desk ∧
      (∀ k, u.port k = { desk.port k with sticky := noSticky }) ∧ (∀ k, u.port k = { desk.port k with resyncCount := 0 }) ∧
      ∀ sc, u.screen sc = { desk.screen sc with repeats := 0, skips := 0 } := by decide

theorem witness_DeskResetReloads :
    let s := { desk with image := { desk.image with writing := some [] } }
    Admitted 0 .operate false (rep []) desk ∧ desk.image.writing = none ∧ s.image.writing ≠ none ∧
      desk.queueable 0 = true ∧ (desk.screen 0).sink ≠ none := by decide

/-- C1 alone manages, no port has a result, and C0 enters the set that the reset loads. -/
theorem witness_DeskResetReloads_slots :
    let s := { desk with settings := { desk.settings with managementPorts := 2#8 } }
    let r : CommandReport := { rep [] with port := 1 }
    Admitted 0 .operate false r s ∧ s.image.writing = none ∧ (∀ k, s.isManagement k = false → (s.port k).slot = none) ∧
      s.isManagement 0 = false ∧ (after (.deskReset r true) s).isManagement 0 = true := by decide +kernel

/-! The records. -/

/-- The bounds of each record. -/
theorem witness_RecordsReadBack :
    triggerAllowed (.leader [2#8, 223#8, 232#8]) = true ∧ [2#8, 223#8, 232#8].length ≤ 3 ∧ 1 ≤ 3600 ∧
      16384 + 16384 ≤ 32768 ∧ 1 ≤ 30 ∧ 7 ≤ 7 ∧ 65535 < 65536 ∧ isLeaderUsage 71#8 = true ∧
      isLeaderUsage escapeUsage = false ∧ 1 ≤ defaultModeSettings.gain := by decide

/-! The invariants: a desk that meets them all, with a key held for C0 and a POLL waiting. -/

/-- The desk with A held for C0 and a command waiting. -/
def busyDesk : State :=
  { desk with
    pending := [.poll 0]
    keys :=
      { desk.keys with
        held := [held 4#8 1#8], snapshots := desk.keys.snapshots.set 0 (keys 0#8 4#8 0#8) } }

theorem witness_StepKeeps_step : step busyDesk = .next { busyDesk with pending := [] } := rfl

theorem witness_StepKeepsBounds : Bounded busyDesk := by constructor <;> decide

theorem witness_StepKeepsPorts_slots : SlotsManaged busyDesk := by simp only [SlotsManaged]; decide

theorem witness_StepKeepsPorts : PortsSettled busyDesk ∧ WakesSettled busyDesk := by
  have h (k : Computer) : busyDesk.port k = readyPort := by revert k; decide
  constructor <;> intro k <;> rw [h k] <;> constructor <;> simp [PresenceAgrees, readyPort, emptyPort]

theorem witness_StepKeepsDomainsApart : OwnersFenced busyDesk := by
  constructor
  · simp only [PresenceAgrees]; decide
  · decide
  · decide
  · decide
  · decide
  · simp only [BroadcastFenced]; decide

theorem witness_StepKeepsSnapshots : SnapshotsCurrent busyDesk := by
  constructor
  · simp only [HeldDistinct]; decide
  · decide

theorem witness_StepKeepsLeds : LedsCurrent busyDesk := by simp only [LedsCurrent]; decide

theorem witness_StepKeepsPointer : PointerOnFocus busyDesk ∧ PointerInside busyDesk := by
  simp only [PointerOnFocus, PointerInside, inside]; decide

/-- A LEADER key sequence that begins another's keys, and a CHORD on the leader key, as tests. -/
def begins (h g : Hotkey) : Bool :=
  match h.trigger with
  | .leader keys => isBegun keys g
  | .chord _ key => decide (key = desk.tables.modeSettings.leaderKey)

theorem witness_StepKeepsHotkeys_begun :
    ∀ i j, ∀ h ∈ busyDesk.hotkey i, ∀ g ∈ busyDesk.hotkey j, begins h g = false := by decide +kernel

theorem witness_StepKeepsHotkeys : HotkeysSound busyDesk where
  distinct := by decide +kernel
  begun i j h hi g hj keys hk := by
    have := witness_StepKeepsHotkeys_begun i j h hi g hj
    simpa [begins, hk] using this
  chords i h hi m key hk := by
    have := witness_StepKeepsHotkeys_begun i i h hi h hi
    simpa [begins, hk, busyDesk] using this

theorem witness_StepKeepsStores : ScreensSettled busyDesk ∧ WindowsInside busyDesk ∧ MemoryCanonical busyDesk := by
  refine ⟨⟨fun sc => ?_, by decide⟩, ?_, ?_⟩
  · constructor <;> revert sc <;> decide
  · simp only [WindowsInside]; decide
  · simp only [MemoryCanonical]; decide

end Sys2Proof.Tests
end

section
/-! PROOFS. LAYOUT REVERT (R68): what the row means, what its body answers, and the statement assembled from the rule for
admitted reports. -/

namespace Sys2Proof.Safety

open Sys2Proof.Machine

/-- The row LAYOUT_REVERT is the taking of a command with the body of R68. -/
theorem exec_layoutRevert (r : CommandReport) (s : State) :
    exec (.layoutRevert r) s = .next (takeCommand layoutRevertSpec layoutRevertBody r s) := rfl

/-- The body asks nothing of the two layouts and always answers OK (R68). -/
theorem layoutRevertBody_eq (s : State) :
    layoutRevertBody s =
      Reply.mk { s with tables := { s.tables with staged := s.tables.committed } } .ok [] none false := rfl

/-- Settles O36: an admitted report passes R169's checks, and the body's answer defers nothing, so that it is the result
in the issuing port's slot. -/
theorem layoutRevertCopies : Obligations.LayoutRevertCopies := by
  unfold Obligations.LayoutRevertCopies
  intro r s admitted
  have taken : takeCommand layoutRevertSpec layoutRevertBody r s =
      answered r 0x21#8 .ok [] { s with tables := { s.tables with staged := s.tables.committed } } :=
    admitted.answers (layoutRevertBody_eq s)
  rw [exec_layoutRevert, taken]

end Sys2Proof.Safety
end

section
/-! PROOFS. CANCEL (R165): the fields of its parameters, what its body answers in each of R165's cases, that both of its
lengths pass R169's checks, and the statement assembled from these. -/

namespace Sys2Proof.Safety

open Sys2Proof.Machine

section
variable {n : Nat} {cls : CommandClass} {whileBusy : Bool} {r : CommandReport} {s : State}

/-! The fields of a command's parameters. -/

/-- A number in the range names the index of that number. -/
theorem indexOf?_val {size : Nat} (i : Fin size) : indexOf? size i.val = some i := by
  simp [indexOf?]

/-- A number beyond the range names no index. -/
theorem indexOf?_eq_none {size m : Nat} (h : size ≤ m) : indexOf? size m = none := by
  simp [indexOf?, Nat.not_lt.mpr h]

/-- Four bytes stay below the modulus of the millisecond counter. -/
theorem read32_lt (bytes : List Byte) (i : Nat) : read32 bytes i < 2 ^ 32 := by
  have byte_lt (j : Nat) : natAt bytes j < 256 := (byteAt bytes j).isLt
  have := byte_lt i
  have := byte_lt (i + 1)
  have := byte_lt (i + 2)
  have := byte_lt (i + 2 + 1)
  unfold read32 read16
  omega

/-! The due time that a CANCEL expects. -/

/-- A CANCEL of one parameter byte expects no due time, so that every entry meets it. -/
theorem expectedDue_of_short (h : r.length.toNat = 1) : expectedDue r = none := by
  simp [expectedDue, h]

/-- A CANCEL of five parameter bytes expects the due time of its last four. -/
theorem expectedDue_of_long (h : r.length.toNat = 5) : expectedDue r = some (BitVec.ofNat 32 (read32 r.params 1)) := by
  simp [expectedDue, h]

/-- No bit of the field is lost in the comparison: it reads as the due time exactly when their numbers agree. -/
theorem ofNat_read32_eq_iff (bytes : List Byte) (i : Nat) (due : Millis) :
    BitVec.ofNat 32 (read32 bytes i) = due ↔ read32 bytes i = due.toNat := by
  rw [← BitVec.toNat_inj, BitVec.toNat_ofNat, Nat.mod_eq_of_lt (read32_lt bytes i)]

/-! What the body answers (R165). -/

theorem cancelBody_outside (h : 8 ≤ natAt r.params 0) : cancelBody r s = Reply.mk s .badArgument [] none false := by
  simp [cancelBody, indexOf?_eq_none h, refuseArgument]

section
variable {i : ScheduleIndex} {e : ScheduleEntry} (hi : natAt r.params 0 = i.val)
include hi

theorem cancelBody_empty (he : s.entry i = none) : cancelBody r s = Reply.mk s .notFound [] none false := by
  simp [cancelBody, hi, indexOf?_val, he]

/-- The expected due time is another than the entry's. -/
theorem cancelBody_otherDue (he : s.entry i = some e) {t : Millis} (ht : expectedDue r = some t) (hd : t ≠ e.due) :
    cancelBody r s = Reply.mk s .notFound [] none false := by
  simp [cancelBody, hi, indexOf?_val, he, ht, hd]

/-- No due time is expected, or the entry's is. -/
theorem cancelBody_removes (he : s.entry i = some e) (hd : ∀ t, expectedDue r = some t → t = e.due) :
    cancelBody r s = Reply.mk (s.setEntry i none) .ok (cancelledData e) none false := by
  have met : (expectedDue r).all (fun t => decide (t = e.due)) = true := by
    rw [Option.all_eq_true]
    exact fun t ht => decide_eq_true (hd t ht)
  simp [cancelBody, hi, indexOf?_val, he, met]

end

/-! The checks of R169. -/

/-- An admitted report has the parameter length that it is admitted at. -/
theorem Admitted.length_eq (h : Admitted n cls whileBusy r s) : r.length.toNat = n := by
  obtain ⟨-, -, -, length_eq, -, -⟩ := h
  exact length_eq

/-- A command that its body answers at once, whatever lengths it allows (R168, R169). -/
theorem Admitted.answers_of_lengthAllowed (h : Admitted n cls whileBusy r s) {c : CommandSpec} {body : State → Reply}
    {result : Result} {data : List Byte} {t : State} (hl : lengthAllowed c r.length = true)
    (e : body s = Reply.mk t result data none false) (hs : t.settings = s.settings := by rfl)
    (hc : c.cls = cls := by rfl) (hb : whileBusy = true → c.whileBusy = true := by simp) :
    takeCommand c body r s = answered r c.code result data t := by
  rw [takeCommand_of_admitted _ _ _ _ h.reaches (h.not_refused c hc hb hl), e,
    finish_answered _ _ _ rfl (by rw [hs]; exact h.managed)]

/-- CANCEL's two lengths are one parameter byte and five (section 10.6). -/
theorem lengthAllowed_cancelSpec {length : Byte} (h : length.toNat = 1 ∨ length.toNat = 5) :
    lengthAllowed cancelSpec length = true := by
  rcases h with h | h <;> simp [lengthAllowed, cancelSpec, fixedLength, Config.maxParameters, h]

/-- An admitted CANCEL of either length is what its body answers, in the issuing port's slot. -/
theorem exec_cancel_of_admitted (h : Admitted 1 .operate false r s ∨ Admitted 5 .operate false r s) {result : Result}
    {data : List Byte} {t : State} (e : cancelBody r s = Reply.mk t result data none false)
    (hs : t.settings = s.settings := by rfl) : exec (.cancel r) s = .next (answered r 0x31#8 result data t) := by
  have row : exec (.cancel r) s = .next (takeCommand cancelSpec (cancelBody r) r s) := rfl
  have taken : takeCommand cancelSpec (cancelBody r) r s = answered r 0x31#8 result data t := by
    rcases h with short | long
    · exact short.answers_of_lengthAllowed (lengthAllowed_cancelSpec (.inl short.length_eq)) e hs
    · exact long.answers_of_lengthAllowed (lengthAllowed_cancelSpec (.inr long.length_eq)) e hs
  rw [row, taken]

end

/-- Settles O30, by R165's cases: the index, the entry, and the due time that a CANCEL of the longer form expects. -/
theorem cancelRemovesEntry : Obligations.CancelRemovesEntry := by
  unfold Obligations.CancelRemovesEntry
  intro r s admitted
  refine ⟨fun outside => exec_cancel_of_admitted admitted (cancelBody_outside outside), fun i hi => ⟨?empty, ?entry⟩⟩
  case empty => exact fun he => exec_cancel_of_admitted admitted (cancelBody_empty hi he)
  case entry =>
    intro e he
    refine ⟨fun long other => ?otherDue, fun long same => ?sameDue, fun short => ?noDue⟩
    case otherDue =>
      exact exec_cancel_of_admitted admitted
        (cancelBody_otherDue hi he (expectedDue_of_long long) (mt (ofNat_read32_eq_iff ..).mp other))
    case sameDue =>
      have met (t : Millis) (ht : expectedDue r = some t) : t = e.due := by
        rw [expectedDue_of_long long, Option.some_inj] at ht
        exact ht ▸ (ofNat_read32_eq_iff ..).mpr same
      exact exec_cancel_of_admitted admitted (cancelBody_removes hi he met)
    case noDue =>
      have met (t : Millis) (ht : expectedDue r = some t) : t = e.due := by
        simp [expectedDue_of_short short] at ht
      exact exec_cancel_of_admitted admitted (cancelBody_removes hi he met)

end Sys2Proof.Safety
end

section
/-! PROOFS. ABORT (R174): a result written at a management port and a deferred command ended there, what the body
answers IDLE and BUSY, how R169's checks refuse a command for the lock level, and the statement assembled from these. -/

namespace Sys2Proof.Safety

open Sys2Proof.Machine

section
variable {r : CommandReport} {s : State}

/-! The end of a deferred command (R168, R172). -/

/-- At a management port a result is the slot written and nothing else (R168). -/
theorem writeSlot_of_managed {k : Computer} (h : s.isManagement k = true) (result : ResultSlot) :
    writeSlot k result s = s.setPort k { s.port k with slot := some result } := by
  simp [writeSlot, h, onPort]

/-- A command deferred by a management port ends with its final result in that port's slot and the engine IDLE. -/
theorem completeDeferred_of_managed {d : Deferred} (h : s.isManagement d.port = true) (result : Result) :
    completeDeferred d result s =
      { s.setPort d.port
          { s.port d.port with
            slot := some { tag := d.tag, command := deferredCode d.command, result := result, data := [] } } with
        engine := none } := by
  rw [completeDeferred, writeSlot_of_managed h]

/-! What the body answers (R174). -/

theorem abortBody_idle (h : s.engine = none) : abortBody s = Reply.mk s .noChange [] none false := by
  simp [abortBody, h]

theorem abortBody_busy {d : Deferred} (h : s.engine = some d) :
    abortBody s = Reply.mk (completeDeferred d .aborted s) .ok [d.tag, deferredCode d.command] none false := by
  simp [abortBody, h]

/-! The checks of R169. -/

/-- ABORT's only length is that of a report without parameters (section 10.6). -/
theorem lengthAllowed_abortSpec {length : Byte} (h : length.toNat = 0) : lengthAllowed abortSpec length = true :=
  lengthAllowed_fixed (code := 0x4F#8) (cls := .operate) h (by decide)

/-- A report that reaches the engine comes from a management port (R117). -/
theorem managed_of_reachesEngine (h : reachesEngine r s = true) : inSet s.settings.managementPorts r.port = true := by
  obtain ⟨⟨-, managed⟩, -⟩ : ((s.port r.port).link = .ready ∧ s.isManagement r.port = true) ∧
      deskMatches s r.deskMatch = true := by
    simpa [reachesEngine] using h
  exact managed

/-- A command of a right length at a lock level that does not take its class is refused with LOCKED (R169, R170). -/
theorem takeCommand_locked {c : CommandSpec} (body : State → Reply) (reaches : reachesEngine r s = true)
    (hl : lengthAllowed c r.length = true) (hv : levelAllows s.settings.lockLevel c.cls = false) :
    takeCommand c body r s = answered r c.code .locked [] s := by
  have refused : refusalOf c r s = some .locked := by simp [refusalOf, hl, hv]
  rw [takeCommand_of_refused c body r s .locked reaches refused,
    finish_answered _ _ _ rfl (managed_of_reachesEngine reaches)]

/-- The row ABORT is the taking of a command with the body of R174. -/
theorem exec_abort (r : CommandReport) (s : State) :
    exec (.abort r) s = .next (takeCommand abortSpec abortBody r s) := rfl

/-- An admitted ABORT is what its body answers, in its own slot, the engine IDLE or BUSY (R174). -/
theorem exec_abort_of_admitted (h : Admitted 0 .operate true r s) {result : Result} {data : List Byte} {t : State}
    (e : abortBody s = Reply.mk t result data none false) (hs : t.settings = s.settings := by rfl) :
    exec (.abort r) s = .next (answered r 0x4F#8 result data t) := by
  have taken : takeCommand abortSpec abortBody r s = answered r 0x4F#8 result data t :=
    h.answers_of_lengthAllowed (lengthAllowed_abortSpec h.length_eq) e hs (hb := fun _ => rfl)
  rw [exec_abort, taken]

end

/-- Settles O32, by R174's cases: the engine IDLE, the engine BUSY with a command of a management port, and the lock
level OBSERVE, which does not take ABORT's class. -/
theorem abortEndsTheWait : Obligations.AbortEndsTheWait := by
  unfold Obligations.AbortEndsTheWait
  refine fun r s => ⟨fun admitted => ⟨?idle, ?busy⟩, ?observe⟩
  case idle => exact fun he => exec_abort_of_admitted admitted (abortBody_idle he)
  case busy =>
    intro d he managed
    have ended := abortBody_busy he
    rw [completeDeferred_of_managed managed] at ended
    exact exec_abort_of_admitted admitted ended
  case observe =>
    intro reaches empty observe
    have refused : takeCommand abortSpec abortBody r s = answered r 0x4F#8 .locked [] s :=
      takeCommand_locked abortBody reaches (lengthAllowed_abortSpec (by rw [empty]; rfl)) (by rw [observe]; rfl)
    rw [exec_abort, refused]

end Sys2Proof.Safety
end

section
/-! PROOFS. READ JOURNAL (R190): the data it returns, the journal it leaves behind, what its body answers, and the
statement assembled from the rule for admitted reports. -/

namespace Sys2Proof.Safety

open Sys2Proof.Machine

/-- The row READ_JOURNAL is the taking of a command with the body of R190. -/
theorem exec_readJournal (r : CommandReport) (s : State) :
    exec (.readJournal r) s = .next (takeCommand readJournalSpec readJournalBody r s) := rfl

/-- The number returned is the number of records up to four, and the number still there is the rest (R190). -/
theorem journalData_eq (s : State) :
    journalData s =
      byteOf (min s.journal.records.length 4) :: byteOf (s.journal.records.length - 4) ::
        (s.journal.records.take 4).flatMap journalBytes := by
  simp [journalData, Config.journalReadLength, Nat.min_comm]

/-- Four records or fewer are all removed, which clears JOURNAL_LOST; of more some are left, and it stays (R190). -/
theorem readOut_eq (j : Journal) :
    readOut j =
      { records := j.records.drop 4, lost := if j.records.length ≤ 4 then false else j.lost } := by
  by_cases few : j.records.length ≤ 4
  · have emptied : j.records.drop 4 = [] := List.drop_eq_nil_of_le few
    simp [readOut, Config.journalReadLength, few, emptied]
  · have left : (j.records.drop 4).isEmpty = false := by simpa using few
    simp [readOut, Config.journalReadLength, few, left]

/-- The body always answers OK, an empty journal included (R190). -/
theorem readJournalBody_eq (s : State) :
    readJournalBody s =
      Reply.mk
        { s with
          journal :=
            { records := s.journal.records.drop 4
              lost := if s.journal.records.length ≤ 4 then false else s.journal.lost } }
        .ok
        (byteOf (min s.journal.records.length 4) :: byteOf (s.journal.records.length - 4) ::
          (s.journal.records.take 4).flatMap journalBytes)
        none false := by
  rw [readJournalBody, readOut_eq, journalData_eq]

/-- Settles O34: an admitted report passes R169's checks, and the body's answer defers nothing, so that it is the result
in the issuing port's slot. -/
theorem readJournalRemovesRecords : Obligations.ReadJournalRemovesRecords := by
  unfold Obligations.ReadJournalRemovesRecords
  intro r s admitted
  rw [exec_readJournal, readJournalSpec, admitted.answers (readJournalBody_eq s)]

end Sys2Proof.Safety
end

section
/-! PROOFS. What a step can do, said once: every command is a sequence of plain changes, each of which leaves the pointer
where it stands, and of compound ones, which the rules of the glide unit hold together; a compound change is in turn a
sequence of plain changes and of pieces. An invariant of every step is proved over these. -/

namespace Sys2Proof.Safety

open Sys2Proof.Machine

/-! Plain changes. -/

/-- What a port becomes when it leaves the queueable states, before the effects of R107: at a presence loss, or else at a
bus reset (R105, R106). -/
def departing (lost : Bool) (p : Port) : Port :=
  if lost then
    { p with
      sensed := false, debounce := none, link := .detached, armed := false
      sticky := { p.sticky with detachedSeen := true } }
  else { p with link := .attached, armed := false, sticky := { p.sticky with busReset := true } }

/-- A port has left the queueable states, with every effect of R107 but those at the engine and at its result slot. -/
def departed (k : Computer) (lost : Bool) (s : State) : State :=
  onPort k (fun p => { p with attempt := none })
    (clearLeds k (leaveBroadcast k (forgetOwner k (onPort k flushPort (onPort k (departing lost) s)))))

/-- The changes that leave the pointer where it stands: each is one operation of one block, with what its rule asks. -/
inductive Plain (s : State) : State → Prop
  | queue (cs : List Instr) : Plain s { s with pending := cs }
  | freeUses (n : Nat) : Plain s { s with freeUses := n }
  | clock : Plain s (advanceClock s)
  | send (x : Sent) : Plain s (s.send x)
  | consoleError : Plain s (countConsoleError s)
  | foreign : Plain s (countForeign s)
  | mismatch : Plain s (countMismatch s)
  | slot (i : Slot) (d : Option Device) : Plain s (s.setSlot i d)
  | recognizer (r : Recognizer) (h : (commandTime r).isSome = (commandTime s.recognizer).isSome) :
      Plain s (setRecognizer r s)
  | enterCommand : Plain s (enterCommand s)
  | returnToIdle : Plain s (returnToIdle s)
  | consoleReset : Plain s (sendLeds
      { s with console := { s.console with slots := Vector.replicate 4 none }, recognizer := .idle })
  | leds : Plain s (sendLeds s)
  | press (slot : Slot) (usage : Byte) (claimed : Bool) (new : s.keys.held.any (isHeldAs slot usage) = false)
      (room : s.keys.held.length < 24) :
      Plain s (refreshSnapshots (newHeldKey s slot usage claimed).owners
        (s.setHeld (s.keys.held ++ [newHeldKey s slot usage claimed])))
  | overflow : Plain s { s with keys := { s.keys with overflow := bump s.keys.overflow } }
  | release (p : HeldKey → Bool) : Plain s (releaseEntries p s)
  | ageing (slot : Slot) (usage : Byte) : Plain s (ageEntry slot usage s)
  | emptyOwners : Plain s (emptyOwners s)
  | buttons (owners : Vector (Option Computer) 5)
      (h : ∀ b k, owners.get b = some k → s.keys.buttons.get b = some k ∨ s.queueable k = true) :
      Plain s (s.setButtons owners)
  | offer (k : Computer) (r : Report) : Plain s (offer k r s)
  | lock (locked : Bool) : Plain s { s with focusUnit := { s.focusUnit with locked := locked } }
  | broadcast (ks : ComputerSet)
      (h : ∀ k, inSet ks k = true → inSet s.focusUnit.broadcast k = true ∨
        (s.focusUnit.focus ≠ some k ∧ inFocusDomain s k = true ∧ s.queueable k = true)) :
      Plain s (setBroadcast ks s)
  | record (event : JournalEvent) : Plain s (record event s)
  | readOut : Plain s { s with journal := readOut s.journal }
  | writeSlot (k : Computer) (r : ResultSlot) : Plain s (writeSlot k r s)
  | emptySlot (k : Computer) : Plain s (onPort k (fun p => { p with slot := none }) s)
  | engine (e : Option Deferred) : Plain s { s with engine := e }
  | presence (k : Computer) (present : Bool) : Plain s (changePresence k present s)
  | arrival (k : Computer) (h : (s.port k).sensed = false) :
      Plain s (onPort k (fun p => { p with sensed := true, debounce := none, link := .attached }) s)
  | departed (k : Computer) (lost : Bool) (h : s.queueable k = true) : Plain s (departed k lost s)
  | departing (k : Computer) (lost : Bool) (h : s.queueable k = false)
      (hl : lost = true ∨ (s.port k).link ≠ .detached) : Plain s (onPort k (departing lost) s)
  | configured (k : Computer) (h : (s.port k).link = .attached) :
      Plain s (onPort k (fun p => { p with link := .ready }) s)
  | suspended (k : Computer) (h : (s.port k).link = .ready) :
      Plain s (onPort k (fun p => { p with link := .suspended }) s)
  | resumed (k : Computer) (h : (s.port k).link = .suspended) :
      Plain s (onPort k (fun p => { p with link := .ready }) s)
  | awake (k : Computer) (h : (s.port k).link = .waking) :
      Plain s (onPort k (fun p => { p with attempt := none, link := .ready }) s)
  | startWake (k : Computer) (h : (s.port k).link = .suspended) (ha : (s.port k).armed = true) :
      Plain s (startWake k s)
  | resendWake (k : Computer) (a : WakeAttempt) (h : (s.port k).attempt = some a) (hs : a.signals ≤ a.retryLimit) :
      Plain s (resendWake k a s)
  | failWake (k : Computer) (h : (s.port k).link = .waking) :
      Plain s (onPort k
        (fun p =>
          failureFlush
            { p with attempt := none, link := .suspended, sticky := { p.sticky with wakeFailed := true } }) s)
  | deliver (k : Computer) (r : Report) (rest : List Report) (h : (s.port k).queue = r :: rest) :
      Plain s (onPort k (fun p => { p with queue := rest }) s)
  | endResync (k : Computer) (acc : Resync) (h : (s.port k).link = .ready) (hq : (s.port k).queue.length ≤ 4) :
      Plain s (endResync k acc s)
  | ledReport (k : Computer) (leds : Leds) : Plain s (takeLedReport k leds s)
  | arm (k : Computer) (armed : Bool) (h : (s.port k).link = .ready) :
      Plain s (onPort k (fun p => { p with armed := armed }) s)
  | clearConditions (ks : ComputerSet) :
      Plain s { s with
        ports := Vector.ofFn (fun k => if inSet ks k then { s.port k with sticky := noSticky } else s.port k) }
  | clearCounters : Plain s (clearAllCounters s)
  | input (j : Input) (r : InputRecord) : Plain s (s.setInput j r)
  | sinkAttach (out : VideoOutput) (mode : VideoMode) : Plain s (attachSink out mode s)
  | shareDetach : Plain s (s.setShare { s.video.share with sink := none, shown := none })
  | commit (sc : Screen) (src : Source) (h : (s.screen sc).pending = some src) :
      Plain s (s.setScreen sc { s.screen sc with committed := src, pending := none })
  | showScreen (sc : Screen) (sink : VideoMode) (h : (s.screen sc).sink = some sink) : Plain s (showScreen sc sink s)
  | showShare : Plain s (startShareFrame s)
  | selection (sel : Selection) : Plain s (s.setShare { s.video.share with selection := sel })
  | entry (i : ScheduleIndex) (e : Option ScheduleEntry) : Plain s (s.setEntry i e)
  | modeWord (w : ModeWord) : Plain s (setModeWord w s)
  | modeSettings (m : ModeSettings) (h : chordUses s m.leaderKey = false) :
      Plain s { s with tables := { s.tables with modeSettings := m } }
  | hotkey (i : Fin 32) (h : Hotkey)
      (sound : hotkeyConflict (otherHotkeys s i) s.tables.modeSettings.leaderKey h = none) :
      Plain s (setHotkey i (some h) s)
  | deleteHotkey (i : Fin 32) : Plain s (setHotkey i none s)
  | portSettings (k : Computer) (p : PortSettings) : Plain s (setPortSettings k p s)
  | preset (p : PresetIndex) (pr : Preset) : Plain s (setPreset p pr s)
  | staged (sc : Screen) (p : Placement) : Plain s (setStaged sc p s)
  | revert : Plain s (revertLayout s)
  | beginWrite : Plain s (beginWrite s)
  | endWrite (outcome : WriteOutcome) (written : List Byte) :
      Plain s { s with
        image :=
          { s.image with
            memory := memoryAfterWrite outcome written s.image.memory
            writing := none
            saveFailed := decide (outcome ≠ .succeeded) } }

/-! Compound changes and their pieces. -/

/-- The changes that move the pointer, or that change what it stands on and re-check it (R74 to R85): whole, as their rules
give them. -/
inductive Compound (s : State) : State → Prop
  | powerOn (image : Option (List Byte)) : Compound s (powerOn image s)
  | deskReset (answers : Bool) : Compound s (deskResetState answers s)
  | action (a : Action) (cause : Cause) (h : cause ≠ .glide ∧ cause ≠ .relocate) :
      Compound s (runAction a cause s).state
  | place : Compound s (placementStep s)
  | motion (held : Bool) (dx dy wheel : Int) : Compound s (motionStep held dx dy wheel s).1
  | sinkDetach (sc : Screen) : Compound s (detachSink (.screen sc) s)
  | window (j : Input) (w : Window) (b : List Byte) (h : parseWindow b = some w) : Compound s (rewriteWindow j w s)
  | layout (h : layoutFault s.tables.staged = none) : Compound s (commitLayout s)
  | request (sc : Screen) (src : Source) :
      Compound s (recheckPointer (isTouched (touchedBy s sc src)) (requestSource sc src s))

/-- What the compound changes consist of, beside plain ones, for an invariant that says nothing of the pointer. -/
inductive Piece (s : State) : State → Prop
  | powerOn (image : Option (List Byte)) : Piece s (powerOn image s)
  | deskReset (answers : Bool) : Piece s (deskResetState answers s)
  | pointer (p : Pointer) : Piece s (s.setPointer p)
  | focus (k : Computer) (cause : Cause) : Piece s (focusChange k cause s)
  | pending (sc : Screen) (src : Source) (h : (s.screen sc).sink.isSome = true) :
      Piece s (s.setScreen sc { s.screen sc with pending := some src })
  | committed (sc : Screen) (src : Source) (h : (s.screen sc).sink = none) :
      Piece s (s.setScreen sc { s.screen sc with committed := src })
  | blank (sc : Screen) (h : (s.screen sc).pending = none) : Piece s (blankScreen sc s)
  | window (j : Input) (w : Window) (b : List Byte) (h : parseWindow b = some w) : Piece s (setWindow j w s)
  | layout (h : layoutFault s.tables.staged = none) :
      Piece s { s with tables := { s.tables with committed := s.tables.staged } }

/-- Plain changes, one after the other. -/
abbrev PlainSteps : State → State → Prop := Relation.ReflTransGen Plain

/-- Plain and compound changes, one after the other. -/
abbrev Steps : State → State → Prop := Relation.ReflTransGen (fun s t => Plain s t ∨ Compound s t)

/-- Plain changes and pieces of compound ones, one after the other. -/
abbrev FineSteps : State → State → Prop := Relation.ReflTransGen (fun s t => Plain s t ∨ Piece s t)

theorem PlainSteps.steps {s t : State} (h : PlainSteps s t) : Steps s t :=
  Relation.ReflTransGen.mono (fun _ _ => .inl) _ _ h

theorem PlainSteps.fine {s t : State} (h : PlainSteps s t) : FineSteps s t :=
  Relation.ReflTransGen.mono (fun _ _ => .inl) _ _ h

theorem PlainSteps.trans {s t u : State} (h : PlainSteps s t) (g : PlainSteps t u) : PlainSteps s u :=
  Relation.ReflTransGen.trans h g

theorem Plain.one {s t : State} (h : Plain s t) : PlainSteps s t := .single h

theorem Compound.one {s t : State} (h : Compound s t) : Steps s t := .single (.inr h)

theorem Piece.one {s t : State} (h : Piece s t) : FineSteps s t := .single (.inr h)

/-- A fold whose every step is a sequence of changes is one. -/
theorem foldl_steps {α : Type} {R : State → State → Prop} (f : State → α → State)
    (h : ∀ t x, Relation.ReflTransGen R t (f t x)) (l : List α) (s : State) :
    Relation.ReflTransGen R s (l.foldl f s) := by
  induction l generalizing s with
  | nil => exact .refl
  | cons x xs ih => exact (h s x).trans (ih _)

/-- A property that a change keeps is kept by a sequence of them. -/
theorem keeps_of_steps {P : State → Prop} {R : State → State → Prop} (h : ∀ s t, R s t → P s → P t) {s t : State}
    (st : Relation.ReflTransGen R s t) (hs : P s) : P t := by
  induction st with
  | refl => exact hs
  | tail _ last ih => exact h _ _ last ih

/-! Sequences of plain changes. -/

/-- The members of a set are served one after the other. -/
theorem members_plainSteps (ks : ComputerSet) (f : Computer → State → State) (h : ∀ k t, PlainSteps t (f k t))
    (s : State) : PlainSteps s (eight.foldl (fun t k => if inSet ks k then f k t else t) s) :=
  foldl_steps _ (fun t k => by
    split
    · exact h k t
    · exact .refl) _ _

theorem offerOwedTo_plainSteps (ks : ComputerSet) (s : State) : PlainSteps s (offerOwedTo ks s) :=
  members_plainSteps ks offerOwed (fun k _ => (Plain.offer k _).one) s

theorem releaseButtons_plainSteps (s : State) : PlainSteps s (releaseButtons s) :=
  (Plain.buttons (Vector.replicate 5 none) (by simp)).one.trans (offerOwedTo_plainSteps _ _)

theorem takeButtons_plainSteps (before now : ButtonSet) (s : State) : PlainSteps s (takeButtons before now s) := by
  refine (Plain.buttons (buttonsAfter s before now) fun b k h => ?_).one.trans (offerOwedTo_plainSteps _ _)
  have owner (h : pressOwner s = some k) : s.queueable k = true := (Option.filter_eq_some_iff.mp h).2
  simp only [buttonsAfter, get_ofFn] at h
  split at h
  · cases h
  · split at h
    · exact .inr (owner h)
    · exact .inl h

theorem wakeRequest_plainSteps (k : Computer) (s : State) : PlainSteps s (wakeRequest k s) := by
  unfold wakeRequest
  split
  · next h =>
    unfold wakeAnswer at h
    split at h
    · next hl =>
      split at h
      · next ha => exact (Plain.startWake k hl ha).one
      · cases h
    all_goals cases h
  · exact .refl

theorem wakeOnFocus_plainSteps (k : Computer) (s : State) : PlainSteps s (wakeOnFocus k s) := by
  unfold wakeOnFocus
  split
  · exact wakeRequest_plainSteps k s
  · exact .refl

theorem wakeOnKey_plainSteps (owners : ComputerSet) (s : State) : PlainSteps s (wakeOnKey owners s) :=
  foldl_steps _ (fun t k => by
    split
    · exact wakeRequest_plainSteps k t
    · exact .refl) _ _

theorem takePress_plainSteps (slot : Slot) (usage : Byte) (claimed : Bool) (s : State) :
    PlainSteps s (takePress slot usage claimed s) := by
  unfold takePress
  dsimp only
  split
  · exact .refl
  · next new =>
    split
    · next room =>
      exact (Plain.press slot usage claimed (by simpa using new) room).one.trans (wakeOnKey_plainSteps _ _)
    · exact Plain.overflow.one

theorem completeDeferred_plainSteps (d : Deferred) (result : Result) (s : State) :
    PlainSteps s (completeDeferred d result s) := (Plain.writeSlot _ _).one.trans (Plain.engine none).one

theorem engineCommit_plainSteps (sc : Screen) (src : Source) (s : State) : PlainSteps s (engineCommit sc src s) := by
  unfold engineCommit
  dsimp only
  repeat' split
  · exact .refl
  · exact completeDeferred_plainSteps _ _ _
  · exact (Plain.engine _).one
  · exact .refl
  · exact .refl

theorem engineWakeEnded_plainSteps (k : Computer) (outcome : Result) (s : State) :
    PlainSteps s (engineWakeEnded k outcome s) := by
  unfold engineWakeEnded
  repeat' split
  · exact completeDeferred_plainSteps _ _ _
  · exact .refl
  · exact .refl

theorem engineIssuerLost_plainSteps (k : Computer) (s : State) : PlainSteps s (engineIssuerLost k s) := by
  refine (Plain.emptySlot k).one.trans ?_
  unfold engineIssuerLost
  dsimp only
  repeat' split
  · exact (Plain.engine _).one
  · exact .refl
  · exact .refl

theorem commitPending_plainSteps (sc : Screen) (s : State) : PlainSteps s (commitPending sc s) := by
  unfold commitPending
  split
  · exact .refl
  · next src h => exact (Plain.commit sc src h).one.trans (engineCommit_plainSteps _ _ _)

theorem changeSelection_plainSteps (sel : Selection) (s : State) : PlainSteps s (changeSelection sel s) := by
  unfold changeSelection
  split
  · exact .refl
  · exact (Plain.selection sel).one.trans (Plain.record _).one

theorem askAlert_plainSteps (kind : AlertKind) (s : State) : PlainSteps s (askAlert kind s) := by
  unfold askAlert
  split
  · exact (Plain.send _).one
  · exact .refl

/-- The handing over of a position, a motion or an owed report only offers reports. -/
theorem takeHandOver_plainSteps (h : HandOver) (owed : Option Computer) (s : State) :
    PlainSteps s (takeHandOver h owed s) := by
  unfold takeHandOver handPosition handNoPosition handRelative
  repeat' split
  all_goals first
    | exact .refl
    | exact (Plain.offer _ _).one

theorem serveOwed_plainSteps (h : HandOver) (owed : Option Computer) (s : State) :
    PlainSteps s (serveOwed h owed s) := by
  unfold serveOwed offerOwed
  repeat' split
  · exact .refl
  · exact (Plain.offer _ _).one
  · exact .refl

/-! Leaving the queueable states. -/

theorem abandonWake_plainSteps (k : Computer) (s : State) :
    PlainSteps (onPort k (fun p => { p with attempt := none }) s) (abandonWake k s) := by
  unfold abandonWake
  split
  · exact engineWakeEnded_plainSteps _ _ _
  · next h =>
    have gone : (s.port k).attempt = none := by simpa using h
    have same : onPort k (fun p => { p with attempt := none }) s = s := by
      have : ({ s.port k with attempt := none } : Port) = s.port k := by rw [← gone]
      rw [onPort, this, State.setPort_port_self]
    rw [same]

theorem leaveIf_plainSteps (k : Computer) (lost : Bool) (s : State) (hl : lost = true ∨ (s.port k).link ≠ .detached) :
    PlainSteps s (leaveIf (s.queueable k) k (onPort k (departing lost) s)) := by
  unfold leaveIf
  split
  · next h =>
    exact (Plain.departed k lost h).one.trans
      ((abandonWake_plainSteps k _).trans (engineIssuerLost_plainSteps k _))
  · next h => exact (Plain.departing k lost (by simpa using h) hl).one

theorem presenceLoss_plainSteps (k : Computer) (s : State) : PlainSteps s (presenceLoss k s) :=
  (Plain.record (.detach k)).one.trans (leaveIf_plainSteps k true (record (.detach k) s) (.inl rfl))

theorem resetBus_plainSteps (k : Computer) (s : State) : PlainSteps s (resetBus k s) := by
  unfold resetBus
  split
  · exact .refl
  · next h =>
    unfold recordFocusReset
    split
    · exact (Plain.record (.attach k .busReset)).one.trans
        (leaveIf_plainSteps k false (record (.attach k .busReset) s) (.inr h))
    · exact leaveIf_plainSteps k false s (.inr h)

theorem expireDebounce_plainSteps (k : Computer) (s : State) : PlainSteps s (expireDebounce k s) := by
  unfold expireDebounce
  repeat' split
  · exact presenceLoss_plainSteps k s
  · next h => exact (Plain.arrival k (by simpa using h)).one.trans (Plain.record _).one
  · exact .refl
  · exact .refl

/-! The other events of the computer links. -/

theorem resumePort_plainSteps (k : Computer) (s : State) : PlainSteps s (resumePort k s) := by
  unfold resumePort
  split
  · next h _ =>
    exact (Plain.awake k h).one.trans ((Plain.record _).one.trans (engineWakeEnded_plainSteps _ _ _))
  · next h =>
    unfold moveLink
    rw [if_pos h]
    exact (Plain.resumed k h).one
  · exact .refl

theorem pollPort_plainSteps (k : Computer) (s : State) : PlainSteps s (pollPort k s) := by
  unfold pollPort
  split
  · next ready =>
    have delivered : PlainSteps s (deliverHead k s) := by
      unfold deliverHead
      split
      · exact .refl
      · next h => exact (Plain.deliver k _ _ h).one.trans (Plain.send _).one
    have link : ((deliverHead k s).port k).link = .ready := by
      unfold deliverHead
      split
      · exact ready
      · simpa using ready
    refine delivered.trans ?_
    unfold testResync
    repeat' split
    · next short => exact (Plain.endResync k _ link short).one
    · exact .refl
    · exact .refl
  · exact .refl

theorem expireWake_plainSteps (k : Computer) (s : State) : PlainSteps s (expireWake k s) := by
  unfold expireWake
  split
  · next a hl ha =>
    repeat' split
    · next hs => exact (Plain.resendWake k a ha hs).one
    · have flushed : onPort k failureFlush (record (.wakeFailed k a.signals)
          (onPort k (fun p =>
            { p with attempt := none, link := .suspended, sticky := { p.sticky with wakeFailed := true } }) s)) =
          record (.wakeFailed k a.signals) (onPort k failureFlush
            (onPort k (fun p =>
              { p with attempt := none, link := .suspended, sticky := { p.sticky with wakeFailed := true } }) s)) :=
        rfl
      unfold failWake
      rw [flushed, onPort_onPort]
      exact (Plain.failWake k hl).one.trans ((Plain.record _).one.trans (engineWakeEnded_plainSteps _ _ _))
    · exact .refl
  · exact .refl

theorem moveLink_plainSteps (k : Computer) (old new : LinkState) (s : State)
    (h : (s.port k).link = old → Plain s (onPort k (fun p => { p with link := new }) s)) :
    PlainSteps s (moveLink k old new s) := by
  unfold moveLink
  split
  · next hl => exact (h hl).one
  · exact .refl

theorem armPort_plainSteps (k : Computer) (armed : Bool) (s : State) : PlainSteps s (armPort k armed s) := by
  unfold armPort
  split
  · next h => exact (Plain.arm k armed h).one
  · exact .refl

theorem readResult_plainSteps (k : Computer) (s : State) : PlainSteps s (readResult k s) := by
  unfold readResult
  repeat' split
  · exact (Plain.send _).one.trans (Plain.freeUses _).one
  · exact (Plain.send _).one.trans Plain.foreign.one
  · exact .refl

theorem takeForeign_plainSteps (k : Computer) (s : State) : PlainSteps s (takeForeign k s) := by
  unfold takeForeign
  split
  · exact Plain.foreign.one
  · exact .refl

theorem takeMismatch_plainSteps (k : Computer) (b : Byte) (s : State) : PlainSteps s (takeMismatch k b s) := by
  unfold takeMismatch
  repeat' split
  · exact .refl
  · exact Plain.mismatch.one
  · exact Plain.foreign.one
  · exact .refl

theorem engineWriteEnded_plainSteps (outcome : WriteOutcome) (s : State) :
    PlainSteps s (engineWriteEnded outcome s) := by
  unfold engineWriteEnded
  split
  · split
    · exact completeDeferred_plainSteps _ _ _
    · exact .refl
  · exact .refl

theorem endWrite_plainSteps (outcome : WriteOutcome) (s : State) : PlainSteps s (endWrite outcome s) := by
  unfold endWrite
  split
  · next written _ => exact (Plain.endWrite outcome written).one.trans (engineWriteEnded_plainSteps _ _)
  · exact .refl

theorem startFrame_plainSteps (sc : Screen) (s : State) : PlainSteps s (startFrame sc s) := by
  unfold startFrame
  split
  · next sink h =>
    refine (commitPending_plainSteps sc s).trans (Plain.showScreen sc sink ?_).one
    simpa [screen_commitPending] using h
  · exact .refl

theorem countFrame_plainSteps (j : Input) (s : State) : PlainSteps s (countFrame j s) := by
  unfold countFrame
  split
  · exact (Plain.input j _).one
  · exact .refl

/-! Devices. -/

theorem abandonSlot_plainSteps (i : Slot) (s : State) : PlainSteps s (abandonSlot i s) := by
  unfold abandonSlot
  split
  · next h =>
    refine (Plain.recognizer .idle ?_).one
    revert h
    cases s.recognizer <;> simp [sequenceSlot, commandTime]
  · exact .refl

theorem detachDevice_plainSteps (i : Slot) (d : Device) (s : State) : PlainSteps s (detachDevice i d s) := by
  have emptied (t : State) : PlainSteps t (abandonSlot i (t.setSlot i none)) :=
    (Plain.slot i none).one.trans (abandonSlot_plainSteps i _)
  cases d with
  | pointer => exact (Plain.release _).one.trans ((releaseButtons_plainSteps _).trans (emptied _))
  | keyboard => exact (Plain.release _).one.trans (emptied _)

theorem vacate_plainSteps (i : Slot) (s : State) : PlainSteps s (vacate i s) := by
  unfold vacate
  split
  · exact detachDevice_plainSteps i _ s
  · exact .refl

theorem attachDevice_plainSteps (slot deviceClass : Byte) (s : State) :
    PlainSteps s (attachDevice slot deviceClass s) := by
  unfold attachDevice attachKeyboard attachPointer
  repeat' split
  · exact Plain.consoleError.one
  · exact (vacate_plainSteps _ s).trans ((Plain.slot _ _).one.trans Plain.leds.one)
  · exact (vacate_plainSteps _ s).trans Plain.consoleError.one
  · exact (vacate_plainSteps _ s).trans (Plain.slot _ _).one
  · exact Plain.consoleError.one

theorem detachEvent_plainSteps (slot : Byte) (s : State) : PlainSteps s (detachEvent slot s) := by
  unfold detachEvent
  repeat' split
  · exact Plain.consoleError.one
  · exact detachDevice_plainSteps _ _ s
  · exact Plain.consoleError.one

theorem resetConsole_plainSteps (s : State) : PlainSteps s (resetConsole s) :=
  (Plain.release _).one.trans ((releaseButtons_plainSteps _).trans Plain.consoleReset.one)

/-! The recognizer's timers and records. -/

theorem expireLeader_plainSteps (s : State) : PlainSteps s (expireLeader s) := by
  unfold expireLeader
  have tap (i : Slot) (e : Millis) (h : s.recognizer = .tap1Down i e ∨ s.recognizer = .tap1Up i e ∨
      s.recognizer = .tap2Down i e) : PlainSteps s (setRecognizer .idle s) :=
    (Plain.recognizer .idle (by rcases h with h | h | h <;> rw [h] <;> rfl)).one
  split
  case h_1 i e h => split; exacts [tap i e (.inl h), .refl]
  case h_2 i e h => split; exacts [tap i e (.inr (.inl h)), .refl]
  case h_3 i e h => split; exacts [tap i e (.inr (.inr h)), .refl]
  all_goals exact .refl

theorem expireCommand_plainSteps (s : State) : PlainSteps s (expireCommand s) := by
  unfold expireCommand
  repeat' split
  · exact Plain.returnToIdle.one
  · exact .refl
  · exact .refl

theorem pressLeader_plainSteps (slot : Slot) (s : State) (h : commandTime s.recognizer = none) :
    PlainSteps s (pressLeader slot s) := by
  unfold pressLeader
  repeat' split
  all_goals exact (Plain.recognizer _ (by rw [h]; rfl)).one

theorem recognizeRelease_plainSteps (slot : Slot) (usage : Byte) (s : State) :
    PlainSteps s (recognizeRelease slot usage s) := by
  unfold recognizeRelease
  split
  · split
    · next h =>
      split
      · exact (Plain.recognizer _ (by rw [h]; rfl)).one
      · exact .refl
    · split
      · exact Plain.enterCommand.one
      · exact .refl
    · exact .refl
  · exact .refl

end Sys2Proof.Safety
end

section
/-! PROOFS. Every command is a sequence of plain and compound changes: the console's, the timers', the links', the
crosspoint's and the management engine's. -/

namespace Sys2Proof.Safety

open Sys2Proof.Machine

/-! The recognizer and the keyboard reports. -/

theorem fireHotkey_steps (h : Hotkey) (s : State) : Steps s (fireHotkey h s) := by
  unfold fireHotkey
  split
  · exact (askAlert_plainSteps _ s).steps
  · exact (Compound.action h.action .hotkey ⟨nofun, nofun⟩).one.trans (askAlert_plainSteps _ _).steps

theorem pressOther_steps (usage : Byte) (s : State) (h : commandTime s.recognizer = none) :
    Steps s (pressOther usage s).1 := by
  have idle : Steps s (setRecognizer .idle s) := (Plain.recognizer .idle (by rw [h]; rfl)).one.steps
  unfold pressOther
  split
  · exact idle.trans (fireHotkey_steps _ _)
  · exact idle

theorem appendUsage_steps (buffer : List Byte) (usage : Byte) (s : State)
    (h : (commandTime s.recognizer).isSome = true) : Steps s (appendUsage buffer usage s) := by
  unfold appendUsage
  dsimp only
  repeat' split
  · exact (fireHotkey_steps _ s).trans Plain.returnToIdle.one.steps
  · exact (Plain.recognizer _ (by rw [h]; rfl)).one.steps
  · exact (Plain.returnToIdle.one.trans (askAlert_plainSteps _ _)).steps

theorem pressInCommand_steps (buffer : List Byte) (usage : Byte) (s : State)
    (h : (commandTime s.recognizer).isSome = true) : Steps s (pressInCommand buffer usage s) := by
  unfold pressInCommand
  repeat' split
  · exact .refl
  · exact Plain.returnToIdle.one.steps
  · exact appendUsage_steps buffer usage s h

theorem recognizePress_steps (slot : Slot) (usage : Byte) (s : State) : Steps s (recognizePress slot usage s).1 := by
  unfold recognizePress
  split
  · next h => exact pressInCommand_steps _ usage s (by rw [h]; rfl)
  · next h =>
    have outside : commandTime s.recognizer = none := by
      revert h
      cases s.recognizer <;> simp [commandTime]
    split
    · exact (pressLeader_plainSteps slot s outside).steps
    · exact pressOther_steps usage s outside

theorem takeTransition_steps (slot : Slot) (x : Transition) (s : State) : Steps s (takeTransition slot x s) := by
  cases x with
  | press u => exact (recognizePress_steps slot u s).trans (takePress_plainSteps slot u _ _).steps
  | release u => exact ((recognizeRelease_plainSteps slot u s).trans (Plain.release _).one).steps

theorem takeKeyboardReport_steps (slot : Byte) (modifiers : ModifierSet) (fields : List Byte) (s : State) :
    Steps s (takeKeyboardReport slot modifiers fields s) := by
  unfold takeKeyboardReport
  repeat' split
  · exact Plain.consoleError.one.steps
  · exact .refl
  · exact (foldl_steps _ (fun t x => takeTransition_steps _ x t) _ s).trans (Plain.slot _ _).one.steps
  · exact Plain.consoleError.one.steps

/-! The pointer reports. -/

theorem takeMotion_steps (owed : Option Computer) (held : Bool) (dx dy wheel : Int) (s : State) :
    Steps s (takeMotion owed held dx dy wheel s) :=
  (Compound.motion held dx dy wheel).one.trans
    ((takeHandOver_plainSteps _ owed _).trans (serveOwed_plainSteps _ owed _)).steps

theorem takePointerReport_steps (slot buttons : Byte) (dx dy : BitVec 12) (wheel : Byte) (s : State) :
    Steps s (takePointerReport slot buttons dx dy wheel s) := by
  unfold takePointerReport
  repeat' split
  · exact Plain.consoleError.one.steps
  · exact Compound.place.one.trans ((takeButtons_plainSteps _ _ _).steps.trans
      ((takeMotion_steps _ _ _ _ _ _).trans (Plain.slot _ _).one.steps))
  · exact Plain.consoleError.one.steps

/-! What comes due. -/

theorem fireIfDue_steps (i : ScheduleIndex) (s : State) : Steps s (fireIfDue i s) := by
  have judged (e : ScheduleEntry) (answer : Result) (t : State) : PlainSteps t (judgeFiring e answer t) := by
    unfold judgeFiring
    split
    · exact .refl
    · exact (Plain.record _).one
  have fired (e : ScheduleEntry) : Steps s (fireEntry i e s) :=
    (Plain.entry i none).one.steps.trans
      ((Compound.action e.action .schedule ⟨nofun, nofun⟩).one.trans (judged e _ _).steps)
  unfold fireIfDue
  repeat' split
  · exact fired _
  · exact .refl
  · exact .refl

theorem takeExpiry_steps (x : Expiry) (s : State) : Steps s (takeExpiry s x) := by
  cases x with
  | leader => exact (expireLeader_plainSteps s).steps
  | command => exact (expireCommand_plainSteps s).steps
  | ageing slot usage => exact (Plain.ageing slot usage).one.steps
  | debounce k => exact (expireDebounce_plainSteps k s).steps
  | wake k => exact (expireWake_plainSteps k s).steps
  | firing i => exact fireIfDue_steps i s

theorem takeDue_steps (s : State) : Steps s (takeDue s) := by
  obtain ⟨order, -, taken⟩ := takeDue_cases s
  rw [taken]
  exact (Plain.freeUses _).one.steps.trans (foldl_steps _ (fun t x => takeExpiry_steps x t) order _)

/-! The management engine. -/

/-- What a management row does once R169's checks have passed; a row that is no command report has no body. -/
def bodyOf : Instr → State → Reply
  | .readDesk _ => readDeskBody
  | .readPort r => readPortBody r
  | .readScreen r => readScreenBody r
  | .readInput r => readInputBody r
  | .readShare _ => readShareBody
  | .readJournal _ => readJournalBody
  | .setMode r => modeBody setBits r
  | .clearMode r => modeBody clearBits r
  | .writeModeSettings r => modeSettingsBody r
  | .tableReadHotkey r => readHotkeyBody r
  | .tableReadWindow r => readWindowBody r
  | .tableReadPortSettings r => readPortSettingsBody r
  | .tableReadPreset r => readPresetBody r
  | .tableReadLayoutStaged r => readStagedBody r
  | .tableReadLayoutCommitted r => readCommittedBody r
  | .tableReadSchedule r => readEntryBody r
  | .tableWriteHotkey r => writeHotkeyBody r
  | .tableWriteWindow r => writeWindowBody r
  | .tableWritePortSettings r => writePortSettingsBody r
  | .tableWritePreset r => writePresetBody r
  | .tableWriteLayoutStaged r => writeStagedBody r
  | .tableDeleteHotkey r => deleteHotkeyBody r
  | .tableDeletePreset r => deletePresetBody r
  | .tableSearchHotkey r => searchHotkeyBody r
  | .tableSearchWindow r => searchWindowBody r
  | .layoutCommit _ => layoutCommitBody
  | .layoutRevert _ => layoutRevertBody
  | .actFocus r => actBody 1 r
  | .actSelect r => actBody 2 r
  | .actCycle r => actBody 3 r
  | .actWake r => actBody 4 r
  | .actApplyPreset r => actBody 5 r
  | .actShare r => actBody 6 r
  | .actShareScreen r => actBody 7 r
  | .actShareFor r => actBody 8 r
  | .actUnshare r => actBody 9 r
  | .actLock r => actBody 10 r
  | .actUnlock r => actBody 11 r
  | .actBroadcastToggle r => actBody 12 r
  | .actBroadcastOff r => actBody 13 r
  | .actHoldToggle r => actBody 14 r
  | .setScreen r => setScreenBody r
  | .setBroadcast r => setBroadcastBody r
  | .schedule r => scheduleBody r
  | .cancel r => cancelBody r
  | .clearPortConditions r => clearConditionsBody r
  | .clearCounters _ => clearCountersBody
  | .consoleReset _ => consoleResetBody
  | .deskReset _ answers => deskResetBody answers
  | .save _ => saveBody
  | .abort _ => abortBody
  | _ => refuseArgument

/-- Every management row is the taking of its command with its body. -/
theorem exec_command (i : Instr) (r : CommandReport) (c : CommandSpec) (s : State) (h : commandOf i = some (r, c)) :
    exec i s = .next (takeCommand c (bodyOf i) r s) := by
  cases i <;> cases h <;> rfl

theorem dropReport_plainSteps (r : CommandReport) (s : State) : PlainSteps s (dropReport r s) := by
  unfold dropReport
  repeat' split
  · exact Plain.mismatch.one
  · exact Plain.foreign.one
  · exact .refl

theorem finish_plainSteps (c : CommandSpec) (r : CommandReport) (reply : Reply) :
    PlainSteps reply.state (finish c r reply) := by
  unfold finish
  dsimp only
  split
  · exact (Plain.writeSlot _ _).one
  · exact (Plain.writeSlot _ _).one.trans (Plain.engine _).one

theorem actBody_steps (code : Nat) (r : CommandReport) (s : State) : Steps s (actBody code r s).state := by
  unfold actBody
  repeat' split
  · exact (Compound.action _ .management ⟨nofun, nofun⟩).one
  · exact .refl
  · exact .refl

theorem modeSettingsBody_steps (r : CommandReport) (s : State) : Steps s (modeSettingsBody r s).state := by
  have forgotten (b : Bool) (t : State) : PlainSteps t (forgetTaps b t) := by
    unfold forgetTaps
    split
    · next h =>
      refine (Plain.recognizer .idle ?_).one
      obtain ⟨-, tap⟩ := h
      revert tap
      cases t.recognizer <;> simp [sequenceSlot, commandTime]
    · exact .refl
  have aged (t : State) : PlainSteps t (ageAll t) :=
    foldl_steps _ (fun _ (e : HeldKey) => (Plain.ageing e.slot e.usage).one) _ t
  unfold modeSettingsBody
  repeat' split
  · exact .refl
  · exact .refl
  · next m _ free =>
    have replaced (changed : Bool) :
        PlainSteps s (forgetTaps changed { s with tables := { s.tables with modeSettings := m } }) :=
      (Plain.modeSettings m (by simpa using free)).one.trans (forgotten _ _)
    unfold applyModeSettings
    dsimp only
    split
    · exact ((replaced _).trans (aged _)).steps
    · exact (replaced _).steps

theorem modeBody_steps (change : ModeWord → ModeWord → ModeWord) (r : CommandReport) (s : State) :
    Steps s (modeBody change r s).state := by
  unfold modeBody
  split
  · exact .refl
  · exact (Plain.modeWord _).one.steps

theorem setBroadcastBody_steps (r : CommandReport) (s : State) : Steps s (setBroadcastBody r s).state := by
  refine (Plain.broadcast _ fun k h => .inr ?_).one.steps
  simp only [allowedMembers, inSet_setOf, Bool.and_eq_true, decide_eq_true_eq] at h
  obtain ⟨⟨⟨-, notFocus⟩, near⟩, queueable⟩ := h
  exact ⟨notFocus, near, queueable⟩

/-! Writes and deletes of the tables. -/

theorem writeHotkeyBody_steps (r : CommandReport) (s : State) : Steps s (writeHotkeyBody r s).state := by
  unfold writeHotkeyBody
  repeat' split
  · exact .refl
  · next sound => exact (Plain.hotkey _ _ sound).one.steps
  · exact .refl

theorem writeWindowBody_steps (r : CommandReport) (s : State) : Steps s (writeWindowBody r s).state := by
  unfold writeWindowBody
  split
  · next h => exact (Compound.window _ _ _ h).one
  · exact .refl

theorem writePortSettingsBody_steps (r : CommandReport) (s : State) : Steps s (writePortSettingsBody r s).state := by
  unfold writePortSettingsBody
  split
  · exact (Plain.portSettings _ _).one.steps
  · exact .refl

theorem writePresetBody_steps (r : CommandReport) (s : State) : Steps s (writePresetBody r s).state := by
  unfold writePresetBody
  split
  · exact (Plain.preset _ _).one.steps
  · exact .refl

theorem writeStagedBody_steps (r : CommandReport) (s : State) : Steps s (writeStagedBody r s).state := by
  unfold writeStagedBody
  split
  · exact (Plain.staged _ _).one.steps
  · exact .refl

theorem deleteHotkeyBody_steps (r : CommandReport) (s : State) : Steps s (deleteHotkeyBody r s).state := by
  unfold deleteHotkeyBody
  repeat' split
  · exact (Plain.deleteHotkey _).one.steps
  · exact .refl
  · exact .refl

theorem deletePresetBody_steps (r : CommandReport) (s : State) : Steps s (deletePresetBody r s).state := by
  unfold deletePresetBody
  repeat' split
  · exact .refl
  · exact (Plain.preset _ _).one.steps
  · exact .refl

theorem layoutCommitBody_steps (s : State) : Steps s (layoutCommitBody s).state := by
  unfold layoutCommitBody
  split
  · exact .refl
  · next h => exact (Compound.layout h).one

/-! The other bodies. -/

theorem setScreenBody_steps (r : CommandReport) (s : State) : Steps s (setScreenBody r s).state := by
  unfold setScreenBody
  split
  · exact (Compound.request _ _).one
  · exact .refl

theorem scheduleBody_steps (r : CommandReport) (s : State) : Steps s (scheduleBody r s).state := by
  unfold scheduleBody
  repeat' split
  · exact .refl
  · exact .refl
  · exact (Plain.entry _ _).one.steps
  · exact .refl

theorem cancelBody_steps (r : CommandReport) (s : State) : Steps s (cancelBody r s).state := by
  unfold cancelBody
  repeat' split
  · exact .refl
  · exact .refl
  · exact (Plain.entry _ _).one.steps
  · exact .refl

theorem deskResetBody_steps (answers : Bool) (s : State) : Steps s (deskResetBody answers s).state := by
  unfold deskResetBody
  split
  · exact .refl
  · dsimp only
    exact (Compound.deskReset answers).one

theorem saveBody_steps (s : State) : Steps s (saveBody s).state := by
  unfold saveBody
  split
  · exact .refl
  · exact Plain.beginWrite.one.steps

theorem abortBody_steps (s : State) : Steps s (abortBody s).state := by
  unfold abortBody
  split
  · exact .refl
  · exact (completeDeferred_plainSteps _ _ s).steps

/-- A body that leaves the state as it is. -/
theorem steps_of_eq {s t : State} (h : t = s) : Steps s t := h ▸ .refl

/-- Every body is a sequence of plain and compound changes. -/
theorem bodyOf_steps (i : Instr) (s : State) : Steps s (bodyOf i s).state := by
  cases i
  case readPort r => exact steps_of_eq (readPortBody_frame r s)
  case readScreen r => exact steps_of_eq (readScreenBody_frame r s)
  case readInput r => exact steps_of_eq (readInputBody_frame r s)
  case readJournal => exact Plain.readOut.one.steps
  case setMode r => exact modeBody_steps setBits r s
  case clearMode r => exact modeBody_steps clearBits r s
  case writeModeSettings r => exact modeSettingsBody_steps r s
  case tableReadHotkey r => exact steps_of_eq (readHotkeyBody_frame r s)
  case tableReadWindow r => exact steps_of_eq (readWindowBody_frame r s)
  case tableReadPortSettings r => exact steps_of_eq (readPortSettingsBody_frame r s)
  case tableReadPreset r =>
    exact (answerRead_frame _ { s with freeUses := s.freeUses + 1 } ▸ (Plain.freeUses _).one.steps :)
  case tableReadLayoutStaged r => exact steps_of_eq (readStagedBody_frame r s)
  case tableReadLayoutCommitted r => exact steps_of_eq (readCommittedBody_frame r s)
  case tableReadSchedule r => exact steps_of_eq (readEntryBody_frame r s)
  case tableWriteHotkey r => exact writeHotkeyBody_steps r s
  case tableWriteWindow r => exact writeWindowBody_steps r s
  case tableWritePortSettings r => exact writePortSettingsBody_steps r s
  case tableWritePreset r => exact writePresetBody_steps r s
  case tableWriteLayoutStaged r => exact writeStagedBody_steps r s
  case tableDeleteHotkey r => exact deleteHotkeyBody_steps r s
  case tableDeletePreset r => exact deletePresetBody_steps r s
  case tableSearchHotkey r => exact steps_of_eq (searchHotkeyBody_frame r s)
  case tableSearchWindow r => exact steps_of_eq (searchWindowBody_frame r s)
  case layoutCommit r => exact layoutCommitBody_steps s
  case layoutRevert r => exact Plain.revert.one.steps
  case actFocus r => exact actBody_steps 1 r s
  case actSelect r => exact actBody_steps 2 r s
  case actCycle r => exact actBody_steps 3 r s
  case actWake r => exact actBody_steps 4 r s
  case actApplyPreset r => exact actBody_steps 5 r s
  case actShare r => exact actBody_steps 6 r s
  case actShareScreen r => exact actBody_steps 7 r s
  case actShareFor r => exact actBody_steps 8 r s
  case actUnshare r => exact actBody_steps 9 r s
  case actLock r => exact actBody_steps 10 r s
  case actUnlock r => exact actBody_steps 11 r s
  case actBroadcastToggle r => exact actBody_steps 12 r s
  case actBroadcastOff r => exact actBody_steps 13 r s
  case actHoldToggle r => exact actBody_steps 14 r s
  case setScreen r => exact setScreenBody_steps r s
  case setBroadcast r => exact setBroadcastBody_steps r s
  case schedule r => exact scheduleBody_steps r s
  case cancel r => exact cancelBody_steps r s
  case clearPortConditions r => exact (Plain.clearConditions _).one.steps
  case clearCounters r => exact Plain.clearCounters.one.steps
  case consoleReset r => exact (resetConsole_plainSteps s).steps
  case deskReset r answers => exact deskResetBody_steps answers s
  case save r => exact saveBody_steps s
  case abort r => exact abortBody_steps s
  all_goals exact .refl

/-! Every command. -/

/-- What a row that is no command report does, as a sequence of changes. -/
theorem exec_event_steps (i : Instr) (s t : State) (event : commandOf i = none) (h : exec i s = .next t) :
    Steps s t := by
  cases i
  case powerOn image => cases h; exact (Compound.powerOn image).one
  case millisecondTick => cases h; exact Plain.clock.one.steps.trans (takeDue_steps _)
  case consoleKeyboardReport slot modifiers fields => cases h; exact takeKeyboardReport_steps _ _ _ s
  case consolePointerReport => cases h; exact takePointerReport_steps _ _ _ _ _ s
  case consoleReportDiscarded bytes =>
    cases h
    split
    · exact Plain.consoleError.one.steps
    · exact .refl
  case deviceAttach slot cls => cases h; exact (attachDevice_plainSteps slot cls s).steps
  case deviceDetach slot => cases h; exact (detachEvent_plainSteps slot s).steps
  case consoleLinkRestart => cases h; exact (resetConsole_plainSteps s).steps
  case heldKeyAgeing slot usage => cases h; exact (Plain.ageing slot usage).one.steps
  case leaderTimerExpiry => cases h; exact (expireLeader_plainSteps s).steps
  case commandTimerExpiry => cases h; exact (expireCommand_plainSteps s).steps
  case presenceLineChange k present => cases h; exact (Plain.presence k present).one.steps
  case presenceDebounceExpiry k => cases h; exact (expireDebounce_plainSteps k s).steps
  case configure k => cases h; exact (moveLink_plainSteps k _ _ s (Plain.configured k)).steps
  case suspend k => cases h; exact (moveLink_plainSteps k _ _ s (Plain.suspended k)).steps
  case resume k => cases h; exact (resumePort_plainSteps k s).steps
  case busReset k => cases h; exact (resetBus_plainSteps k s).steps
  case poll k => cases h; exact (pollPort_plainSteps k s).steps
  case ledOutputReport k leds => cases h; exact (Plain.ledReport k leds).one.steps
  case managementResultRead k => cases h; exact (readResult_plainSteps k s).steps
  case foreignManagementReport k => cases h; exact (takeForeign_plainSteps k s).steps
  case deskMismatch k b => cases h; exact (takeMismatch_plainSteps k b s).steps
  case badCommand r code =>
    cases h
    unfold takeBadCommand
    repeat' split
    · exact .refl
    · exact (Plain.writeSlot _ _).one.steps
    · exact (dropReport_plainSteps r s).steps
  case armRemoteWake k => cases h; exact (armPort_plainSteps k true s).steps
  case disarmRemoteWake k => cases h; exact (armPort_plainSteps k false s).steps
  case wakeTimerExpiry k => cases h; exact (expireWake_plainSteps k s).steps
  case signalFound j mode => cases h; exact (Plain.input j _).one.steps
  case signalLost j => cases h; exact (Plain.input j _).one.steps
  case frameComplete j => cases h; exact (countFrame_plainSteps j s).steps
  case sinkAttach out mode => cases h; exact (Plain.sinkAttach out mode).one.steps
  case sinkDetach out =>
    cases h
    cases out with
    | screen sc => exact (Compound.sinkDetach sc).one
    | shareOut => exact Plain.shareDetach.one.steps
  case frameStart sc => cases h; exact (startFrame_plainSteps sc s).steps
  case shareOutFrameStart => cases h; exact Plain.showShare.one.steps
  case scheduledEntryFire i => cases h; exact fireIfDue_steps i s
  case memoryWriteComplete outcome => cases h; exact (endWrite_plainSteps outcome s).steps
  all_goals cases event

/-- Every command is a sequence of plain and compound changes. -/
theorem exec_steps {i : Instr} {s t : State} (h : exec i s = .next t) : Steps s t := by
  cases row : commandOf i with
  | none => exact exec_event_steps i s t row h
  | some command =>
    obtain ⟨r, c⟩ := command
    rw [exec_command i r c s row] at h
    cases h
    exact takeCommand_keeps (P := Steps s) (fun r u hu => hu.trans (dropReport_plainSteps r u).steps)
      (fun c r reply hu => hu.trans (finish_plainSteps c r reply).steps) c _ r s .refl (bodyOf_steps i s)

/-- A step is a sequence of plain and compound changes. -/
theorem step_steps {s t : State} (h : step s = .next t) : Steps s t := by
  unfold step at h
  split at h
  · cases h; exact .refl
  · next rest _ => exact (Plain.queue rest).one.steps.trans (exec_steps h)

end Sys2Proof.Safety
end

section
/-! PROOFS. The compound changes in their pieces, and from this the rule by which an invariant of every step is proved that
says nothing of the pointer. -/

namespace Sys2Proof.Safety

open Sys2Proof.Machine

theorem FineSteps.trans {s t u : State} (h : FineSteps s t) (g : FineSteps t u) : FineSteps s u :=
  Relation.ReflTransGen.trans h g

/-! Placing and relocating the pointer. -/

/-- A change of the pointer record alone. -/
theorem pointer_fine {s t : State} (h : t = s.setPointer t.pointer) : FineSteps s t := h ▸ (Piece.pointer _).one

theorem warp_fine (k : Computer) (s : State) : FineSteps s (warp k s) := by
  unfold warp
  split <;> exact pointer_fine rfl

theorem relocateTo_fine (sc : Screen) (s : State) : FineSteps s (relocateTo sc s) := by
  have placed : FineSteps s (placeAtCentre sc s) := pointer_fine rfl
  unfold relocateTo
  split
  · exact placed.trans (Piece.focus _ _).one
  · exact placed

theorem relocate_fine (s : State) : FineSteps s (relocate s) := by
  unfold relocate
  repeat' split
  · exact pointer_fine rfl
  · exact pointer_fine rfl
  · exact relocateTo_fine _ s
  · exact pointer_fine rfl

theorem recheckPointer_fine (concerned : Screen → Bool) (s : State) : FineSteps s (recheckPointer concerned s) := by
  unfold recheckPointer
  repeat' split
  · exact relocate_fine s
  · exact .refl
  · exact .refl

theorem placementStep_fine (s : State) : FineSteps s (placementStep s) := by
  unfold placementStep
  repeat' split
  · exact pointer_fine rfl
  · exact .refl
  · exact relocateTo_fine _ s
  · exact .refl
  · exact .refl

/-! The motion step. -/

theorem pushAgainst_fine (held : Bool) (a : Axis) (toHigh : Bool) (m : Nat) (n : Screen) (c : Computer)
    (p entry : Place) (s : State) : FineSteps s (pushAgainst held a toHigh m n c p entry s).state := by
  unfold pushAgainst
  dsimp only
  repeat' split
  · exact pointer_fine rfl
  · exact pointer_fine rfl
  · exact (pointer_fine (t := setPlace entry none s) rfl).trans (Piece.focus _ _).one

theorem walk_fine (held : Bool) (a : Axis) (target : Int) (visits : Nat) (s : State) :
    FineSteps s (walk held a target visits s).state := by
  induction visits generalizing s with
  | zero => exact .refl
  | succ n ih =>
    unfold walk
    dsimp only
    repeat' split
    · exact .refl
    · exact pointer_fine rfl
    · exact pointer_fine rfl
    · exact pointer_fine rfl
    · exact (pointer_fine (s := s) (t := setPlace _ _ s) rfl).trans (ih _)
    · exact pushAgainst_fine _ _ _ _ _ _ _ _ s
    · exact pointer_fine rfl

theorem walkAxis_fine (held : Bool) (a : Axis) (units : Int) (s : State) :
    FineSteps s (walkAxis held a units s).state := by
  unfold walkAxis
  repeat' split
  · exact .refl
  · exact walk_fine _ _ _ _ s
  · exact .refl

theorem walkBoth_fine (held : Bool) (ux uy : Int) (s : State) : FineSteps s (walkBoth held ux uy s).state := by
  unfold walkBoth
  dsimp only
  split
  · exact walkAxis_fine held .x ux s
  · exact (walkAxis_fine held .x ux s).trans (walkAxis_fine held .y uy _)

theorem motionStep_fine (held : Bool) (dx dy wheel : Int) (s : State) :
    FineSteps s (motionStep held dx dy wheel s).1 := by
  unfold motionStep useMotion
  repeat' split
  · exact pointer_fine rfl
  · exact pointer_fine rfl
  · exact pointer_fine rfl
  · exact (pointer_fine (s := s) (t := applyGain dx dy s) rfl).trans (walkBoth_fine _ _ _ _)

/-! Source requests and sinks. -/

theorem requestSource_fine (sc : Screen) (src : Source) (s : State) : FineSteps s (requestSource sc src s) := by
  unfold requestSource
  split
  · exact .refl
  · next h =>
    refine (Piece.pending sc src ?_).one
    unfold requestOutcome at h
    split at h
    · cases h
    · split at h
      · assumption
      · cases h
  · next h =>
    refine (Piece.committed sc src ?_).one.trans (engineCommit_plainSteps _ _ _).fine
    unfold requestOutcome at h
    split at h
    · cases h
    · split at h
      · cases h
      · simp_all

theorem requestSources_fine (reqs : List (Screen × Source)) (s : State) : FineSteps s (requestSources reqs s) :=
  foldl_steps _ (fun t (q : Screen × Source) => requestSource_fine q.1 q.2 t) reqs s

theorem detachSink_fine (sc : Screen) (s : State) : FineSteps s (detachSink (.screen sc) s) := by
  simp only [detachSink]
  split
  · refine (commitPending_plainSteps sc s).fine.trans
      ((Piece.blank sc ?_).one.trans (recheckPointer_fine _ _))
    simp [screen_commitPending]
  · exact .refl

/-! The actions. -/

theorem doFocus_fine (k : Computer) (cause : Cause) (s : State) : FineSteps s (doFocus k cause s) := by
  unfold doFocus
  split
  · exact (Piece.focus k cause).one
  · exact .refl

theorem doCycle_fine (cause : Cause) (s : State) : FineSteps s (doCycle cause s) := by
  unfold doCycle
  split
  · exact (Piece.focus _ cause).one
  · exact .refl

theorem selectFocus_fine (k : Computer) (cause : Cause) (s : State) : FineSteps s (selectFocus k cause s) := by
  unfold selectFocus
  split
  · exact (warp_fine k s).trans (wakeOnFocus_plainSteps k _).fine
  · exact (Piece.focus k cause).one

theorem doSelect_fine (k : Computer) (cause : Cause) (s : State) : FineSteps s (doSelect k cause s).state := by
  unfold doSelect
  dsimp only
  split
  · exact .refl
  · exact (requestSources_fine _ s).trans ((selectFocus_fine k cause _).trans (recheckPointer_fine _ _))

theorem doPreset_fine (p : PresetIndex) (s : State) : FineSteps s (doPreset p s).state := by
  have shared (pr : Preset) (t : State) : FineSteps t (presetShare pr t) := by
    unfold presetShare
    split
    · exact (changeSelection_plainSteps _ t).fine
    · exact .refl
  have focused (pr : Preset) (t : State) : FineSteps t (presetFocus pr t) := by
    unfold presetFocus
    split
    · exact doFocus_fine _ _ t
    · exact .refl
  exact (Plain.record (.preset p)).one.fine.trans ((requestSources_fine _ _).trans
    ((shared _ _).trans ((focused _ _).trans (recheckPointer_fine _ _))))

theorem doLock_fine (s : State) : FineSteps s (doLock s) := by
  have pushed (t : State) : FineSteps t (clearPush t) := pointer_fine rfl
  unfold doLock
  split
  · exact .refl
  · exact ((Plain.lock true).one.trans (Plain.emptyOwners.one.trans (releaseButtons_plainSteps _))).fine.trans
      ((pushed _).trans (Plain.record _).one.fine)

theorem doUnlock_plainSteps (s : State) : PlainSteps s (doUnlock s) := by
  unfold doUnlock
  split
  · exact (Plain.lock false).one.trans (Plain.record _).one
  · exact .refl

theorem doToggle_plainSteps (k : Computer) (s : State) : PlainSteps s (doToggle k s) := by
  unfold doToggle
  split
  · refine (Plain.broadcast _ fun j h => .inl ?_).one
    rw [inSet_without, Bool.and_eq_true] at h
    exact h.1
  · split
    · next h =>
      refine (Plain.broadcast _ fun j hj => ?_).one
      unfold toggleAnswer at h
      rw [inSet_including, Bool.or_eq_true, decide_eq_true_eq] at hj
      rcases hj with hj | rfl
      · exact .inl hj
      · grind
    · exact .refl

theorem doShareFor_plainSteps (t : Nat) (cause : Cause) (s : State) : PlainSteps s (doShareFor t cause s).state := by
  unfold doShareFor
  repeat' split
  · exact .refl
  · exact .refl
  · exact (Plain.entry _ _).one.trans (changeSelection_plainSteps _ _)

theorem doShare_plainSteps (s : State) : PlainSteps s (doShare s).state := by
  unfold doShare
  split
  · exact changeSelection_plainSteps _ s
  · exact .refl

theorem runAction_fine (a : Action) (cause : Cause) (s : State) : FineSteps s (runAction a cause s).state := by
  cases a with
  | focus k => exact doFocus_fine k cause s
  | select k => exact doSelect_fine k cause s
  | cycle => exact doCycle_fine cause s
  | wake k => exact (wakeRequest_plainSteps k s).fine
  | applyPreset p => exact doPreset_fine p s
  | share => exact (doShare_plainSteps s).fine
  | shareScreen sc => exact (changeSelection_plainSteps (.screen sc) s).fine
  | shareFor t => exact (doShareFor_plainSteps t cause s).fine
  | unshare => exact (changeSelection_plainSteps .nothing s).fine
  | lock => exact doLock_fine s
  | unlock => exact (doUnlock_plainSteps s).fine
  | broadcastToggle k => exact (doToggle_plainSteps k s).fine
  | broadcastOff => exact (Plain.broadcast 0#8 (by simp)).one.fine
  | holdToggle => exact (Plain.modeWord _).one.fine

/-! The tables and the layout. -/

theorem rewriteWindow_fine (j : Input) (w : Window) (b : List Byte) (h : parseWindow b = some w) (s : State) :
    FineSteps s (rewriteWindow j w s) := by
  have written : FineSteps s (setWindow j w s) := (Piece.window j w b h).one
  unfold rewriteWindow
  split
  · exact written
  · exact written.trans (recheckPointer_fine _ _)

theorem commitLayout_fine (s : State) (h : layoutFault s.tables.staged = none) : FineSteps s (commitLayout s) := by
  refine (Piece.layout h).one.trans (FineSteps.trans (pointer_fine (t := clearMotion _) rfl) ?_)
  unfold commitLayout recheckAfterCommit
  repeat' split
  · exact .refl
  · exact pointer_fine rfl
  · exact relocate_fine _

/-! The rules for an invariant of every step. -/

/-- A compound change is a sequence of plain changes and pieces. -/
theorem Compound.fine {s t : State} (h : Compound s t) : FineSteps s t := by
  cases h with
  | powerOn image => exact (Piece.powerOn image).one
  | deskReset answers => exact (Piece.deskReset answers).one
  | action a cause h => exact runAction_fine a cause s
  | place => exact placementStep_fine s
  | motion held dx dy wheel => exact motionStep_fine held dx dy wheel s
  | sinkDetach sc => exact detachSink_fine sc s
  | window j w b h => exact rewriteWindow_fine j w b h s
  | layout h => exact commitLayout_fine s h
  | request sc src => exact (requestSource_fine sc src s).trans (recheckPointer_fine _ _)

/-- What plain and compound changes keep is kept by every step. -/
theorem step_keeps {P : State → Prop} (plain : ∀ s t, Plain s t → P s → P t)
    (compound : ∀ s t, Compound s t → P s → P t) {s t : State} (hs : P s) (h : step s = .next t) : P t :=
  keeps_of_steps (fun u v change => change.elim (plain u v) (compound u v)) (step_steps h) hs

/-- What plain changes and pieces keep is kept by every step. -/
theorem step_keeps_of_pieces {P : State → Prop} (plain : ∀ s t, Plain s t → P s → P t)
    (piece : ∀ s t, Piece s t → P s → P t) {s t : State} (hs : P s) (h : step s = .next t) : P t :=
  step_keeps plain
    (fun _ _ change => keeps_of_steps (fun u v fine => fine.elim (plain u v) (piece u v)) change.fine) hs h

end Sys2Proof.Safety
end

section
/-! PROOFS. What the two loads give (R186, R187), and what leaving the queueable states leaves alone: the readings that the
invariants of every step use. -/

namespace Sys2Proof.Safety

open Sys2Proof.Machine

/-! The loads. -/

/-- The image that a power-on reads, when the memory answers. -/
def imageAtPowerOn (image : Option (List Byte)) (s : State) : Option (List Byte) :=
  image.map (fun _ => imageOf (memoryAtPowerOn image s))

/-- The image that a desk reset reads, when the memory answers. -/
def imageAtReset (answers : Bool) (s : State) : Option (List Byte) :=
  if answers then some (imageOf s.image.memory) else none

theorem powerOn_eq (image : Option (List Byte)) (s : State) :
    powerOn image s =
      powerOnWith (imageAtPowerOn image s) (memoryAtPowerOn image s)
        { s with freeUses := s.freeUses + (if s.image.writing.isSome then 1 else 0) } := rfl

section
variable (image : Option (List Byte)) (answers : Bool) (s : State)

@[simp] theorem powerOn_tables : (powerOn image s).tables = tablesFrom (imageAtPowerOn image s) := rfl
@[simp] theorem powerOn_settings : (powerOn image s).settings = settingsFrom (imageAtPowerOn image s) := rfl
@[simp] theorem powerOn_console : (powerOn image s).console = emptyConsole := rfl
@[simp] theorem powerOn_keys : (powerOn image s).keys = emptyKeys := rfl
@[simp] theorem powerOn_recognizer : (powerOn image s).recognizer = .idle := rfl
@[simp] theorem powerOn_focusUnit :
    (powerOn image s).focusUnit = initialFocusUnit (tablesFrom (imageAtPowerOn image s)) := rfl
@[simp] theorem powerOn_pointer : (powerOn image s).pointer = offPointer := rfl
@[simp] theorem powerOn_video : (powerOn image s).video = emptyVideo (sourcesFrom (imageAtPowerOn image s)) := rfl
@[simp] theorem powerOn_journal : (powerOn image s).journal = emptyJournal := rfl
@[simp] theorem powerOn_foreign : (powerOn image s).foreign = 0 := rfl
@[simp] theorem powerOn_mismatches : (powerOn image s).mismatches = 0 := rfl
@[simp] theorem powerOn_memory : (powerOn image s).image.memory = memoryAtPowerOn image s := rfl

@[simp] theorem powerOn_port (k : Computer) : (powerOn image s).port k = portAtPowerOn (s.port k) := get_map _ _ _

@[simp] theorem powerOn_screen (sc : Screen) :
    (powerOn image s).screen sc = emptyScreen ((sourcesFrom (imageAtPowerOn image s)).get sc) := get_map _ _ _

theorem deskResetState_eq :
    deskResetState answers s =
      refreshLeds (freshPointer (requestSources (initialRequests (sourcesFrom (imageAtReset answers s)))
        (resetBlocks (loadImage (imageAtReset answers s) s)))) := rfl

@[simp] theorem deskResetState_tables : (deskResetState answers s).tables = tablesFrom (imageAtReset answers s) := by
  rw [deskResetState_eq]; simp; rfl
@[simp] theorem deskResetState_settings :
    (deskResetState answers s).settings = settingsFrom (imageAtReset answers s) := by
  rw [deskResetState_eq]; simp; rfl
@[simp] theorem deskResetState_keys : (deskResetState answers s).keys = emptyKeys := by
  rw [deskResetState_eq]; simp; rfl
@[simp] theorem deskResetState_recognizer : (deskResetState answers s).recognizer = .idle := by
  rw [deskResetState_eq]; simp; rfl
@[simp] theorem deskResetState_focusUnit :
    (deskResetState answers s).focusUnit = initialFocusUnit (tablesFrom (imageAtReset answers s)) := by
  rw [deskResetState_eq]; simp; rfl
@[simp] theorem deskResetState_journal : (deskResetState answers s).journal = emptyJournal := by
  rw [deskResetState_eq]; simp; rfl
@[simp] theorem deskResetState_foreign : (deskResetState answers s).foreign = 0 := by
  rw [deskResetState_eq]; simp; rfl
@[simp] theorem deskResetState_mismatches : (deskResetState answers s).mismatches = 0 := by
  rw [deskResetState_eq]; simp; rfl
@[simp] theorem deskResetState_errors : (deskResetState answers s).console.errors = 0 := by
  rw [deskResetState_eq]; simp; rfl
@[simp] theorem deskResetState_memory : (deskResetState answers s).image.memory = s.image.memory := by
  rw [deskResetState_eq]; simp; rfl
@[simp] theorem deskResetState_share :
    (deskResetState answers s).video.share = { s.video.share with selection := .nothing, repeats := 0, skips := 0 } := by
  rw [deskResetState_eq]; simp; rfl

end

/-! A port that has left the queueable states. -/

section
variable (k : Computer) (lost : Bool) (s : State)

@[simp] theorem departed_pending : (departed k lost s).pending = s.pending := by simp [departed]
@[simp] theorem departed_freeUses : (departed k lost s).freeUses = s.freeUses := by simp [departed]
@[simp] theorem departed_clock : (departed k lost s).clock = s.clock := by simp [departed]
@[simp] theorem departed_settings : (departed k lost s).settings = s.settings := by simp [departed]
@[simp] theorem departed_tables : (departed k lost s).tables = s.tables := by simp [departed]
@[simp] theorem departed_recognizer : (departed k lost s).recognizer = s.recognizer := by simp [departed]
@[simp] theorem departed_pointer : (departed k lost s).pointer = s.pointer := by simp [departed]
@[simp] theorem departed_video : (departed k lost s).video = s.video := by simp [departed]
@[simp] theorem departed_schedule : (departed k lost s).schedule = s.schedule := by simp [departed]
@[simp] theorem departed_engine : (departed k lost s).engine = s.engine := by simp [departed]
@[simp] theorem departed_journal : (departed k lost s).journal = s.journal := by simp [departed]
@[simp] theorem departed_image : (departed k lost s).image = s.image := by simp [departed]
@[simp] theorem departed_foreign : (departed k lost s).foreign = s.foreign := by simp [departed]
@[simp] theorem departed_mismatches : (departed k lost s).mismatches = s.mismatches := by simp [departed]
@[simp] theorem departed_errors : (departed k lost s).console.errors = s.console.errors := by simp [departed]

/-- The held-key table, the last snapshots and the button records are those without computer k (R107). -/
@[simp] theorem departed_keys : (departed k lost s).keys = (forgetOwner k s).keys := by simp [departed]; rfl

@[simp] theorem departed_focusUnit :
    (departed k lost s).focusUnit = { s.focusUnit with broadcast := without s.focusUnit.broadcast k } := by
  simp [departed]; rfl

/-- The port's record after R107, but for its result slot. -/
theorem departed_port (j : Computer) :
    (departed k lost s).port j =
      if j = k then { flushPort (departing lost (s.port k)) with leds := ledsOff, attempt := none } else s.port j := by
  have cleared (u : State) :
      (clearLeds k u).port j = if j = k then { u.port k with leds := ledsOff } else u.port j := by
    unfold clearLeds refreshLeds
    dsimp only
    repeat' split
    all_goals simp_all [port_onPort]
  unfold departed
  by_cases h : j = k
  · subst h
    simp [cleared, leaveBroadcast]
  · simp [port_onPort_of_ne _ _ _ _ h, cleared, h, leaveBroadcast]

end

end Sys2Proof.Safety
end

section
/-! PROOFS. The hotkey table (R23 to R27): when two entries go together, that R25's checks ask for it, that the load enters
only such entries, and the statement. -/

namespace Sys2Proof.Safety

open Sys2Proof.Machine

/-! Entries that go together. -/

/-- Two entries go together: their triggers differ, and neither LEADER sequence properly begins the other (R25). -/
def GoTogether (h g : Hotkey) : Prop :=
  h.trigger ≠ g.trigger ∧ (∀ keys ∈ leaderKeys h, isBegun keys g = false) ∧
    ∀ keys ∈ leaderKeys g, isBegun keys h = false

/-- An entry is no CHORD on the leader key (R25). -/
def SparesLeader (leaderKey : Byte) (h : Hotkey) : Prop :=
  ∀ modifiers key, h.trigger = .chord modifiers key → key ≠ leaderKey

theorem GoTogether.symm {h g : Hotkey} (c : GoTogether h g) : GoTogether g h := ⟨c.1.symm, c.2.2, c.2.1⟩

theorem mem_leaderKeys {h : Hotkey} {keys : List Byte} : keys ∈ leaderKeys h ↔ h.trigger = .leader keys := by
  unfold leaderKeys
  cases h.trigger <;> simp [eq_comm]

/-- A sequence does not properly begin itself. -/
theorem isBegun_self {h : Hotkey} {keys : List Byte} (hk : h.trigger = .leader keys) : isBegun keys h = false := by
  simp [isBegun, leaderKeys, hk, startsProperly]

/-- An entry that passes R25's checks goes together with every other one, and is no CHORD on the leader key. -/
theorem hotkeyConflict_none {others : List Hotkey} {leaderKey : Byte} {h : Hotkey}
    (passes : hotkeyConflict others leaderKey h = none) :
    (∀ o ∈ others, GoTogether h o) ∧ SparesLeader leaderKey h := by
  unfold hotkeyConflict at passes
  cases trigger : h.trigger with
  | leader keys =>
    simp only [trigger] at passes
    split at passes
    · cases passes
    · next fresh =>
      split at passes
      · cases passes
      · next apart =>
        refine ⟨fun o ho => ⟨fun e => fresh ?_, ?_, ?_⟩, fun m key chord => ?_⟩
        · exact List.any_eq_true.mpr ⟨o, ho, by simp [hasTrigger, ← e, trigger]⟩
        · intro ks hks
          rw [mem_leaderKeys, trigger, Trigger.leader.injEq] at hks
          subst hks
          by_contra begun
          exact apart (List.any_eq_true.mpr ⟨o, ho, by simp [Bool.eq_true_of_not_eq_false begun]⟩)
        · intro ks hks
          by_contra begun
          refine apart (List.any_eq_true.mpr ⟨o, ho, ?_⟩)
          have : startsProperly ks keys = true := by simpa [isBegun, leaderKeys, trigger] using begun
          simp [Option.mem_def.mp hks, this]
        · rw [trigger] at chord
          cases chord
  | chord modifiers key =>
    simp only [trigger] at passes
    split at passes
    · cases passes
    · next fresh =>
      split at passes
      · cases passes
      · next spares =>
        refine ⟨fun o ho => ⟨fun e => fresh ?_, ?_, ?_⟩, fun m key' chord => ?_⟩
        · exact List.any_eq_true.mpr ⟨o, ho, by simp [hasTrigger, ← e, trigger]⟩
        · intro ks hks
          rw [mem_leaderKeys, trigger] at hks
          cases hks
        · intro ks hks
          simp [isBegun, leaderKeys, trigger]
        · rw [trigger, Trigger.chord.injEq] at chord
          exact chord.2 ▸ spares

/-! The table. -/

/-- The occupied slots' entries. -/
theorem mem_hotkeyList {table : Vector (Option Hotkey) 32} {h : Hotkey} :
    h ∈ hotkeyList table ↔ ∃ i : Fin 32, table.get i = some h := by
  simp only [hotkeyList, List.mem_filterMap, id, exists_eq_right, Vector.mem_toList_iff, Vector.mem_iff_getElem]
  constructor
  · rintro ⟨i, hi, e⟩
    exact ⟨⟨i, hi⟩, e⟩
  · rintro ⟨i, e⟩
    exact ⟨i.val, i.isLt, e⟩

/-- The occupied slots' entries but one's. -/
theorem mem_otherHotkeys {s : State} {i : Fin 32} {h : Hotkey} :
    h ∈ otherHotkeys s i ↔ ∃ j, j ≠ i ∧ s.hotkey j = some h := by
  simp only [otherHotkeys, mem_hotkeyList, get_set]
  constructor
  · rintro ⟨j, e⟩
    split at e
    · cases e
    · next hj => exact ⟨j, hj, e⟩
  · rintro ⟨j, hj, e⟩
    exact ⟨j, by rw [if_neg hj]; exact e⟩

theorem hotkey_setHotkey (i : Fin 32) (h : Option Hotkey) (s : State) (j : Fin 32) :
    (setHotkey i h s).hotkey j = if j = i then h else s.hotkey j := get_set _ _ _ _

/-- The table is sound when its entries go together, pair by pair, and spare the leader key. -/
theorem hotkeysSound_iff {s : State} :
    HotkeysSound s ↔
      (∀ i j, i ≠ j → ∀ h ∈ s.hotkey i, ∀ g ∈ s.hotkey j, GoTogether h g) ∧
        ∀ i, ∀ h ∈ s.hotkey i, SparesLeader s.tables.modeSettings.leaderKey h := by
  constructor
  · rintro ⟨distinct, begun, chords⟩
    refine ⟨fun i j ne h hi g hj => ⟨distinct i j ne h hi g hj, fun keys hk => ?_, fun keys hk => ?_⟩, chords⟩
    · exact begun i j h hi g hj keys (mem_leaderKeys.mp hk)
    · exact begun j i g hj h hi keys (mem_leaderKeys.mp hk)
  · rintro ⟨together, spares⟩
    refine ⟨fun i j ne h hi g hj => (together i j ne h hi g hj).1, fun i j h hi g hj keys hk => ?_, spares⟩
    by_cases e : i = j
    · subst e
      obtain rfl : h = g := by simpa [Option.mem_def.mp hi] using hj
      exact isBegun_self hk
    · exact (together i j e h hi g hj).2.1 keys (mem_leaderKeys.mpr hk)

theorem HotkeysSound.congr {s t : State} (hs : HotkeysSound s) (hh : t.tables.hotkeys = s.tables.hotkeys)
    (hm : t.tables.modeSettings = s.tables.modeSettings) : HotkeysSound t := by
  have same (i : Fin 32) : t.hotkey i = s.hotkey i := by simp [State.hotkey, hh]
  rw [hotkeysSound_iff] at *
  simpa only [same, hm] using hs

/-- An entry that passes R25's checks keeps the table sound. -/
theorem HotkeysSound.setHotkey {s : State} (hs : HotkeysSound s) {i : Fin 32} {h : Hotkey}
    (passes : hotkeyConflict (otherHotkeys s i) s.tables.modeSettings.leaderKey h = none) :
    HotkeysSound (setHotkey i (some h) s) := by
  obtain ⟨together, spares⟩ := hotkeyConflict_none passes
  rw [hotkeysSound_iff] at *
  have other {j : Fin 32} {g : Hotkey} (ne : j ≠ i) (hg : g ∈ s.hotkey j) : GoTogether h g :=
    together g (mem_otherHotkeys.mpr ⟨j, ne, hg⟩)
  simp only [hotkey_setHotkey]
  refine ⟨fun a b ne x hx y hy => ?_, fun a x hx => ?_⟩
  · split at hx
    · next ha =>
      cases hx
      rw [if_neg (fun hb => ne (ha.trans hb.symm))] at hy
      exact other (fun hb => ne (ha.trans hb.symm)) hy
    · next ha =>
      split at hy
      · cases hy
        exact (other ha hx).symm
      · exact hs.1 a b ne x hx y hy
  · split at hx
    · cases hx
      exact spares
    · exact hs.2 a x hx

theorem HotkeysSound.deleteHotkey {s : State} (hs : HotkeysSound s) (i : Fin 32) :
    HotkeysSound (Machine.setHotkey i none s) := by
  rw [hotkeysSound_iff] at *
  simp only [hotkey_setHotkey]
  refine ⟨fun a b ne x hx y hy => ?_, fun a x hx => ?_⟩
  · split at hx
    · cases hx
    · split at hy
      · cases hy
      · exact hs.1 a b ne x hx y hy
  · split at hx
    · cases hx
    · exact hs.2 a x hx

/-- A leader key that no CHORD entry uses keeps the table sound (R26). -/
theorem HotkeysSound.modeSettings {s : State} (hs : HotkeysSound s) {m : ModeSettings}
    (free : chordUses s m.leaderKey = false) :
    HotkeysSound { s with tables := { s.tables with modeSettings := m } } := by
  rw [hotkeysSound_iff] at *
  refine ⟨hs.1, fun i h hi modifiers key chord used => ?_⟩
  have uses : chordUses s m.leaderKey = true :=
    List.any_eq_true.mpr ⟨h, mem_hotkeyList.mpr ⟨i, hi⟩, by simpa [chord] using used⟩
  rw [free] at uses
  cases uses

/-! The load (R27). -/

/-- What holds of a list of slots whose entries go together and spare the leader key. -/
def SlotsSound (leaderKey : Byte) (slots : List (Option Hotkey)) : Prop :=
  slots.Pairwise (fun a b => ∀ h ∈ a, ∀ g ∈ b, GoTogether h g) ∧ ∀ a ∈ slots, ∀ h ∈ a, SparesLeader leaderKey h

theorem SlotsSound.append {leaderKey : Byte} {slots : List (Option Hotkey)} (hs : SlotsSound leaderKey slots)
    {a : Option Hotkey} (ha : ∀ h ∈ a, (∀ o ∈ slots.filterMap id, GoTogether h o) ∧ SparesLeader leaderKey h) :
    SlotsSound leaderKey (slots ++ [a]) := by
  refine ⟨List.pairwise_append.mpr ⟨hs.1, List.pairwise_singleton _ _, fun b hb c hc h hh g hg => ?_⟩,
    fun b hb h hh => ?_⟩
  · obtain rfl := List.mem_singleton.mp hc
    exact ((ha g hg).1 h (List.mem_filterMap.mpr ⟨b, hb, hh⟩)).symm
  · rcases List.mem_append.mp hb with hb | hb
    · exact hs.2 b hb h hh
    · obtain rfl := List.mem_singleton.mp hb
      exact (ha h hh).2

/-- The load enters only entries that go together with those already entered. -/
theorem SlotsSound.enterHotkey {leaderKey : Byte} {slots : List (Option Hotkey)} (hs : SlotsSound leaderKey slots)
    (b : List Byte) : SlotsSound leaderKey (enterHotkey leaderKey slots b) := by
  unfold Machine.enterHotkey
  split
  · refine hs.append fun h hh => ?_
    split at hh
    · next passes =>
      cases hh
      exact hotkeyConflict_none (Option.isNone_iff_eq_none.mp passes)
    · cases hh
  · exact hs.append nofun

/-- The slots of a table, in a state that holds it with its leader key. -/
theorem hotkeysSound_of_slots {s : State} {slots : List (Option Hotkey)}
    (hs : SlotsSound s.tables.modeSettings.leaderKey slots) (ht : ∀ i, s.hotkey i = slots.getD i.val none) :
    HotkeysSound s := by
  rw [hotkeysSound_iff]
  have entry {i : Fin 32} {h : Hotkey} (hi : h ∈ s.hotkey i) : ∃ lt : i.val < slots.length, slots[i.val] = some h := by
    rw [Option.mem_def, ht, List.getD_eq_getElem?_getD] at hi
    by_cases lt : i.val < slots.length
    · exact ⟨lt, by simpa [lt] using hi⟩
    · simp [lt] at hi
  have ordered {i j : Fin 32} (lt : i < j) {h g : Hotkey} (hi : h ∈ s.hotkey i) (hj : g ∈ s.hotkey j) :
      GoTogether h g := by
    obtain ⟨bi, ei⟩ := entry hi
    obtain ⟨bj, ej⟩ := entry hj
    exact List.pairwise_iff_getElem.mp hs.1 i.val j.val bi bj lt h ei g ej
  refine ⟨fun i j ne h hi g hj => ?_, fun i h hi => ?_⟩
  · rcases lt_or_gt_of_ne ne with lt | lt
    · exact ordered lt hi hj
    · exact (ordered lt hj hi).symm
  · obtain ⟨bi, ei⟩ := entry hi
    exact hs.2 _ (List.getElem_mem bi) h ei

/-- The built-in entries are LEADER entries of one key each, all different (R185). -/
theorem slotsSound_default : SlotsSound defaultModeSettings.leaderKey defaultHotkeys.toList := by
  have apart : defaultHotkeys.toList.Pairwise (fun a b => ∀ h ∈ a, ∀ g ∈ b,
      h.trigger ≠ g.trigger ∧ (leaderKeys h).map List.length = some 1 ∧ (leaderKeys g).map List.length = some 1) := by
    decide
  have leaders : ∀ a ∈ defaultHotkeys.toList, ∀ h ∈ a, (leaderKeys h).isSome = true := by decide
  have alike {h g : Hotkey} (eh : (leaderKeys h).map List.length = some 1)
      (eg : (leaderKeys g).map List.length = some 1) : ∀ keys ∈ leaderKeys h, isBegun keys g = false := by
    intro keys hk
    obtain ⟨ks, hks, length⟩ := Option.map_eq_some_iff.mp eg
    have : keys.length = 1 := by simpa [Option.mem_def.mp hk] using eh
    simp [isBegun, hks, startsProperly, this, length]
  refine ⟨apart.imp fun pair h hh g hg => ?_, fun a ha h hh modifiers key chord => ?_⟩
  · obtain ⟨ne, eh, eg⟩ := pair h hh g hg
    exact ⟨ne, alike eh eg, alike eg eh⟩
  · have := leaders a ha h hh
    simp [leaderKeys, chord] at this

/-- The tables that an image gives hold a sound hotkey table. -/
theorem hotkeysSound_tablesFrom {s : State} (image : Option (List Byte)) (h : s.tables = tablesFrom image) :
    HotkeysSound s := by
  unfold tablesFrom at h
  cases valid : validTables image with
  | none =>
    rw [valid] at h
    refine hotkeysSound_of_slots (slots := defaultHotkeys.toList) (by rw [h]; exact slotsSound_default) fun i => ?_
    have : s.tables.hotkeys = defaultHotkeys := by rw [h]; rfl
    simp [State.hotkey, this, Vector.get_eq_getElem, List.getD_eq_getElem?_getD]
  | some b =>
    rw [valid] at h
    have loaded (leaderKey : Byte) (l : List (List Byte)) (slots : List (Option Hotkey))
        (hs : SlotsSound leaderKey slots) : SlotsSound leaderKey (l.foldl (enterHotkey leaderKey) slots) := by
      induction l generalizing slots with
      | nil => exact hs
      | cons x xs ih => exact ih _ (hs.enterHotkey x)
    have tables : s.tables = loadTables b := h
    refine hotkeysSound_of_slots
      (loaded s.tables.modeSettings.leaderKey ((List.range 32).map (recordBytes b 12 9)) [] ⟨.nil, nofun⟩) fun i => ?_
    rw [State.hotkey, tables]
    exact get_ofFn _ _

/-! Every step. -/

theorem Plain.hotkeysSound {s t : State} (h : Plain s t) (hs : HotkeysSound s) : HotkeysSound t := by
  cases h
  case modeSettings m free => exact hs.modeSettings free
  case hotkey i h passes => exact hs.setHotkey passes
  case deleteHotkey i => exact hs.deleteHotkey i
  case modeWord w => exact hs.congr rfl rfl
  case portSettings k p => exact hs.congr rfl rfl
  case preset p pr => exact hs.congr rfl rfl
  case staged sc p => exact hs.congr rfl rfl
  case revert => exact hs.congr rfl rfl
  all_goals exact hs.congr (by simp) (by simp)

theorem Piece.hotkeysSound {s t : State} (h : Piece s t) (hs : HotkeysSound s) : HotkeysSound t := by
  cases h
  case powerOn image => exact hotkeysSound_tablesFrom _ (powerOn_tables image s)
  case deskReset answers => exact hotkeysSound_tablesFrom _ (deskResetState_tables answers s)
  case window j w b p => exact hs.congr rfl rfl
  case layout p => exact hs.congr rfl rfl
  all_goals exact hs.congr (by simp) (by simp)

/-- Settles O59: R25's checks stand before every entry written or loaded, and R26's before every leader key. -/
theorem stepKeepsHotkeys : Obligations.StepKeepsHotkeys := by
  unfold Obligations.StepKeepsHotkeys
  exact fun s t hs h =>
    step_keeps_of_pieces (fun _ _ => Plain.hotkeysSound) (fun _ _ => Piece.hotkeysSound) hs h

end Sys2Proof.Safety
end

section
/-! PROOFS. The forms of the screens (R137, R150), of the windows (R89) and of the configuration memory: what each change
of the crosspoint, of a window record and of the memory keeps of them, and the statement. -/

namespace Sys2Proof.Safety

open Sys2Proof.Machine

/-! Screens. -/

theorem ScreensSettled.congr {s t : State} (hs : ScreensSettled s) (h : t.video = s.video) : ScreensSettled t := by
  unfold ScreensSettled State.screen at *
  rwa [h]

theorem ScreensSettled.setScreen {s : State} (hs : ScreensSettled s) {sc : Screen} {r : ScreenRecord}
    (hr : ScreenSettled r) : ScreensSettled (s.setScreen sc r) := by
  refine ⟨fun x => ?_, hs.2⟩
  rw [State.screen_setScreen]
  split
  · exact hr
  · exact hs.1 x

theorem ScreensSettled.setShare {s : State} (hs : ScreensSettled s) {r : ShareRecord}
    (hr : r.sink = none → r.shown = none) : ScreensSettled (s.setShare r) := ⟨hs.1, hr⟩

/-- A screen without content or sink is settled when nothing is pending. -/
theorem screenSettled_emptyScreen (source : Source) : ScreenSettled (emptyScreen source) :=
  ⟨fun _ => rfl, fun _ => rfl, fun _ => rfl⟩

theorem ScreenSettled.clearCounters {r : ScreenRecord} (hr : ScreenSettled r) : ScreenSettled (clearScreenCounters r) :=
  ⟨hr.pending, hr.shown, hr.border⟩

theorem ScreensSettled.attachSink {s : State} (hs : ScreensSettled s) (out : VideoOutput) (mode : VideoMode) :
    ScreensSettled (attachSink out mode s) := by
  cases out with
  | screen sc => exact hs.setScreen ⟨nofun, nofun, (hs.1 sc).border⟩
  | shareOut => exact hs.setShare nofun

theorem ScreensSettled.startShareFrame {s : State} (hs : ScreensSettled s) : ScreensSettled (startShareFrame s) := by
  unfold Machine.startShareFrame
  split
  · next sink present => exact hs.setShare (by simp [present])
  · exact hs

theorem ScreensSettled.request {s : State} (hs : ScreensSettled s) (sc : Screen) (src : Source) :
    ScreensSettled (requestSource sc src s) := by
  unfold requestSource requestOutcome
  by_cases same : intendedOf (s.screen sc) = src
  · simpa [same] using hs
  · by_cases present : (s.screen sc).sink.isSome = true
    · simp only [same, present, if_false, if_true]
      exact hs.setScreen
        ⟨fun absent => (Option.isSome_iff_ne_none.mp present absent).elim, (hs.1 sc).shown, (hs.1 sc).border⟩
    · simp only [same, present, if_false]
      refine ScreensSettled.congr ?_ (engineCommit_video _ _ _)
      exact hs.setScreen ⟨(hs.1 sc).pending, (hs.1 sc).shown, (hs.1 sc).border⟩

theorem ScreensSettled.requests {s : State} (hs : ScreensSettled s) (reqs : List (Screen × Source)) :
    ScreensSettled (requestSources reqs s) := by
  unfold requestSources
  induction reqs generalizing s with
  | nil => exact hs
  | cons q rest ih => exact ih (hs.request q.1 q.2)

theorem ScreensSettled.deskReset {s : State} (hs : ScreensSettled s) (answers : Bool) :
    ScreensSettled (deskResetState answers s) := by
  rw [deskResetState_eq]
  have reset : ScreensSettled (resetBlocks (loadImage (imageAtReset answers s) s)) := ?_
  · exact (reset.requests (initialRequests (sourcesFrom (imageAtReset answers s)))).congr (by simp)
  refine ⟨fun sc => ?_, hs.2⟩
  have cleared : (resetBlocks (loadImage (imageAtReset answers s) s)).screen sc = clearScreenCounters (s.screen sc) :=
    get_map _ _ _
  rw [cleared]
  exact (hs.1 sc).clearCounters

theorem Plain.screensSettled {s t : State} (h : Plain s t) (hs : ScreensSettled s) : ScreensSettled t := by
  cases h
  case input j r => exact ⟨hs.1, hs.2⟩
  case sinkAttach out mode => exact hs.attachSink out mode
  case shareDetach => exact hs.setShare fun _ => rfl
  case commit sc src pending => exact hs.setScreen ⟨fun _ => rfl, (hs.1 sc).shown, (hs.1 sc).border⟩
  case showScreen sc sink present =>
    exact hs.setScreen ⟨(hs.1 sc).pending, fun absent => (Option.some_ne_none _ (present.symm.trans absent)).elim, nofun⟩
  case showShare => exact hs.startShareFrame
  case selection sel => exact hs.setShare hs.2
  case clearCounters =>
    refine ⟨fun sc => ?_, hs.2⟩
    have cleared : (clearAllCounters s).screen sc = clearScreenCounters (s.screen sc) := get_map _ _ _
    rw [cleared]
    exact (hs.1 sc).clearCounters

  all_goals exact hs.congr (by simp)

theorem Piece.screensSettled {s t : State} (h : Piece s t) (hs : ScreensSettled s) : ScreensSettled t := by
  cases h
  case powerOn image =>
    refine ⟨fun sc => ?_, fun _ => rfl⟩
    rw [powerOn_screen]
    exact screenSettled_emptyScreen _
  case deskReset answers => exact hs.deskReset answers
  case pending sc src present =>
    exact hs.setScreen
      ⟨fun absent => (Option.isSome_iff_ne_none.mp present absent).elim, (hs.1 sc).shown, (hs.1 sc).border⟩
  case committed sc src absent => exact hs.setScreen ⟨(hs.1 sc).pending, (hs.1 sc).shown, (hs.1 sc).border⟩
  case blank sc pending => exact hs.setScreen ⟨fun _ => pending, fun _ => rfl, fun _ => rfl⟩
  all_goals exact hs.congr (by simp)

/-! Windows. -/

/-- One window lies inside the absolute space (R89). -/
def InSpace (w : Window) : Prop := 1 ≤ w.ww ∧ w.wx0 + w.ww ≤ 32768 ∧ 1 ≤ w.wh ∧ w.wy0 + w.wh ≤ 32768

theorem windowsInside_iff {s : State} : WindowsInside s ↔ ∀ j, InSpace (s.tables.windows.get j) := Iff.rfl

theorem inSpace_of_parseWindow {b : List Byte} {w : Window} (h : parseWindow b = some w) : InSpace w := by
  unfold parseWindow at h
  split at h
  · dsimp only at h
    split at h
    · next range =>
      cases h
      obtain ⟨ww, -, wh, -, right, bottom⟩ := range
      exact ⟨ww, right, wh, bottom⟩
    · cases h
  · cases h

theorem inSpace_loadWindow (b : List Byte) : InSpace (loadWindow b) := by
  simp only [InSpace, loadWindow, clampNat]
  omega

theorem inSpace_defaultWindows (j : Input) : InSpace (defaultWindows.get j) := by
  revert j
  unfold InSpace
  decide

theorem inSpace_tablesFrom (image : Option (List Byte)) (j : Input) : InSpace ((tablesFrom image).windows.get j) := by
  unfold tablesFrom
  cases validTables image with
  | none => exact inSpace_defaultWindows j
  | some b =>
    have : (loadTables b).windows.get j = loadWindow (recordBytes b 300 11 j.val) := get_ofFn _ _
    simp only [Option.map_some, Option.getD_some, this]
    exact inSpace_loadWindow _

theorem WindowsInside.congr {s t : State} (hs : WindowsInside s) (h : t.tables.windows = s.tables.windows) :
    WindowsInside t := by
  rw [windowsInside_iff] at *
  rwa [h]

theorem Plain.windowsInside {s t : State} (h : Plain s t) (hs : WindowsInside s) : WindowsInside t := by
  cases h
  case modeWord w => exact hs
  case modeSettings m free => exact hs
  case hotkey i h passes => exact hs
  case deleteHotkey i => exact hs
  case portSettings k p => exact hs
  case preset p pr => exact hs
  case staged sc p => exact hs
  case revert => exact hs
  all_goals exact hs.congr (by simp)

theorem Piece.windowsInside {s t : State} (h : Piece s t) (hs : WindowsInside s) : WindowsInside t := by
  cases h
  case powerOn image => exact windowsInside_iff.mpr fun j => by rw [powerOn_tables]; exact inSpace_tablesFrom _ j
  case deskReset answers =>
    exact windowsInside_iff.mpr fun j => by rw [deskResetState_tables]; exact inSpace_tablesFrom _ j
  case window j w b parsed =>
    refine windowsInside_iff.mpr fun i => ?_
    have : (setWindow j w s).tables.windows.get i = if i = j then w else s.tables.windows.get i := get_set _ _ _ _
    rw [this]
    split
    · exact inSpace_of_parseWindow parsed
    · exact windowsInside_iff.mp hs i
  case layout passes => exact hs
  all_goals exact hs.congr (by simp)

/-! The configuration memory. -/

theorem MemoryCanonical.congr {s t : State} (hs : MemoryCanonical s) (h : t.image.memory = s.image.memory) :
    MemoryCanonical t := by
  unfold MemoryCanonical at *
  rwa [h]

theorem Plain.memoryCanonical {s t : State} (h : Plain s t) (hs : MemoryCanonical s) : MemoryCanonical t := by
  cases h
  case beginWrite => exact hs.congr rfl
  case endWrite outcome written =>
    cases outcome with
    | succeeded => exact memoryWf_writeBlock hs _ _
    | failed left => exact memoryWf_writeBlock hs _ _
  all_goals exact hs.congr (by simp)

theorem Piece.memoryCanonical {s t : State} (h : Piece s t) (hs : MemoryCanonical s) : MemoryCanonical t := by
  cases h
  case powerOn image => exact memoryWf_memoryAtPowerOn hs image
  case deskReset answers => exact hs.congr (deskResetState_memory answers s)
  all_goals exact hs.congr (by simp)

/-- Settles O60: each of the three forms is kept by every plain change and every piece of a compound one. -/
theorem stepKeepsStores : Obligations.StepKeepsStores := by
  unfold Obligations.StepKeepsStores
  exact fun s t h =>
    ⟨fun hs => step_keeps_of_pieces (fun _ _ => Plain.screensSettled) (fun _ _ => Piece.screensSettled) hs h,
      fun hs => step_keeps_of_pieces (fun _ _ => Plain.windowsInside) (fun _ _ => Piece.windowsInside) hs h,
      fun hs => step_keeps_of_pieces (fun _ _ => Plain.memoryCanonical) (fun _ _ => Piece.memoryCanonical) hs h⟩

end Sys2Proof.Safety
end

section
/-! PROOFS. What a change can do to one port record: each plain change, and each piece but the two loads, is for every port
a sequence of changes of its record, or takes the port out of the queueable states. -/

namespace Sys2Proof.Safety

open Sys2Proof.Machine

/-- The changes of one port's record but for its LED state and its leaving the queueable states, where `managed` says
whether the port is in the management port set. -/
inductive PortStep (managed : Bool) (p : Port) : Port → Prop
  | offer (r : Report) : PortStep managed p (offerTo r p)
  | slot (x : Option ResultSlot) (h : x = none ∨ managed = true) : PortStep managed p { p with slot := x }
  | presence (raw : Bool) (debounce : Option Millis) : PortStep managed p { p with raw := raw, debounce := debounce }
  | arrival (h : p.sensed = false) : PortStep managed p { p with sensed := true, debounce := none, link := .attached }
  | departing (lost : Bool) (h : p.link.queueable = false) (hl : lost = true ∨ p.link ≠ .detached) :
      PortStep managed p (departing lost p)
  | moved (new : LinkState) (h : p.link = .attached ∨ p.link = .ready ∨ p.link = .suspended)
      (hn : new = .ready ∨ new = .suspended) : PortStep managed p { p with link := new }
  | awake (h : p.link = .waking) : PortStep managed p { p with attempt := none, link := .ready }
  | startWake (a : WakeAttempt) (h : p.link = .suspended) (ha : p.armed = true) (hs : a.signals = 1) :
      PortStep managed p { p with link := .waking, attempt := some a }
  | resent (a : WakeAttempt) (expiry : Millis) (h : p.attempt = some a) (hs : a.signals ≤ a.retryLimit) :
      PortStep managed p { p with attempt := some { a with signals := a.signals + 1, expiry := expiry } }
  | failed (h : p.link = .waking) :
      PortStep managed p
        (failureFlush { p with attempt := none, link := .suspended, sticky := { p.sticky with wakeFailed := true } })
  | delivered (r : Report) (rest : List Report) (h : p.queue = r :: rest) : PortStep managed p { p with queue := rest }
  | resyncEnded (added : List Report) (h : p.link = .ready) (hq : p.queue.length ≤ 4) (hn : added.length ≤ 2) :
      PortStep managed p
        (noteReports added
          { p with
            queue := p.queue ++ added
            resync := none
            resyncCount := bump p.resyncCount
            sticky := { p.sticky with resyncOccurred := true } })
  | armed (x : Bool) (h : p.link = .ready) : PortStep managed p { p with armed := x }
  | sticky (x : Sticky) : PortStep managed p { p with sticky := x }
  | uncounted : PortStep managed p { p with resyncCount := 0 }

/-- Changes of one port's record, one after the other. -/
abbrev PortSteps (managed : Bool) : Port → Port → Prop := Relation.ReflTransGen (PortStep managed)

section
variable {managed : Bool}

theorem PortStep.one {p q : Port} (h : PortStep managed p q) : PortSteps managed p q := .single h

theorem portSteps_of_eq {p q : Port} (h : q = p) : PortSteps managed p q := h ▸ .refl

theorem PortSteps.trans {p q r : Port} (h : PortSteps managed p q) (g : PortSteps managed q r) :
    PortSteps managed p r := Relation.ReflTransGen.trans h g

theorem port_of_ports {s t : State} (h : t.ports = s.ports) (k : Computer) : t.port k = s.port k := by
  unfold State.port
  rw [h]

/-- A change of one port is one for every port. -/
theorem portSteps_onPort {k : Computer} {f : Port → Port} {s : State}
    (h : PortSteps managed (s.port k) (f (s.port k))) (j : Computer) :
    PortSteps managed (s.port j) ((onPort k f s).port j) := by
  rw [port_onPort]
  split
  · next e => exact e ▸ h
  · exact .refl

/-! Reports. -/

theorem notePair_frame (r : Report) (p : Port) : notePair r p = { p with lastPair := (notePair r p).lastPair } := by
  unfold notePair
  split <;> rfl

theorem noteReports_frame (rs : List Report) (p : Port) :
    noteReports rs p = { p with lastPair := (noteReports rs p).lastPair } := by
  unfold noteReports
  induction rs generalizing p with
  | nil => rfl
  | cons r rest ih => rw [List.foldl_cons, ih, notePair_frame]

theorem portSteps_offer (k : Computer) (r : Report) (s : State) (j : Computer) :
    PortSteps managed (s.port j) ((offer k r s).port j) :=
  portSteps_onPort ((PortStep.offer r).one) j

theorem portSteps_foldl {α : Type} (f : State → α → State) (j : Computer)
    (h : ∀ t x, PortSteps managed (t.port j) ((f t x).port j)) (l : List α) (s : State) :
    PortSteps managed (s.port j) ((l.foldl f s).port j) := by
  induction l generalizing s with
  | nil => exact .refl
  | cons x rest ih => exact (h s x).trans (ih _)

theorem portSteps_refreshSnapshot (k : Computer) (s : State) (j : Computer) :
    PortSteps managed (s.port j) ((refreshSnapshot k s).port j) := by
  unfold refreshSnapshot
  split
  · exact .refl
  · rw [port_offer]
    split
    · next e => exact e ▸ (PortStep.offer _).one
    · exact .refl

theorem portSteps_refreshSnapshots (ks : ComputerSet) (s : State) (j : Computer) :
    PortSteps managed (s.port j) ((refreshSnapshots ks s).port j) := by
  refine portSteps_foldl _ j (fun t k => ?_) _ _
  split
  · exact portSteps_refreshSnapshot k t j
  · exact .refl

/-- A change of the held-key table followed by snapshots. -/
theorem portSteps_setHeld (ks : ComputerSet) (es : List HeldKey) (s : State) (j : Computer) :
    PortSteps managed (s.port j) ((refreshSnapshots ks (s.setHeld es)).port j) :=
  portSteps_refreshSnapshots ks (s.setHeld es) j

theorem portSteps_carryModifiers (previous : Option Computer) (k : Computer) (s : State) (j : Computer) :
    PortSteps managed (s.port j) ((carryModifiers previous k s).port j) := by
  unfold carryModifiers
  repeat' split
  · exact .refl
  · exact portSteps_setHeld _ _ s j
  · exact .refl

/-! Wake requests. -/

theorem portSteps_startWake (k : Computer) (s : State) (h : (s.port k).link = .suspended)
    (ha : (s.port k).armed = true) (j : Computer) : PortSteps managed (s.port j) ((startWake k s).port j) := by
  simp only [startWake, record_port, port_onPort, State.send_port]
  split
  · next e =>
    subst e
    exact (PortStep.startWake _ h ha rfl).one
  · exact .refl

theorem wakeAnswer_accepted {p : Port} (h : wakeAnswer p = .accepted) : p.link = .suspended ∧ p.armed = true := by
  unfold wakeAnswer at h
  split at h
  · next link =>
    split at h
    · next armed => exact ⟨link, armed⟩
    · cases h
  all_goals cases h

theorem portSteps_wakeOnFocus (k : Computer) (s : State) (j : Computer) :
    PortSteps managed (s.port j) ((wakeOnFocus k s).port j) := by
  unfold wakeOnFocus wakeRequest
  repeat' split
  · next accepted =>
    obtain ⟨link, armed⟩ := wakeAnswer_accepted accepted
    exact portSteps_startWake k s link armed j
  · exact .refl
  · exact .refl

/-! Result slots. -/

theorem portSteps_writeSlot (k : Computer) (r : ResultSlot) (s : State) (j : Computer) :
    PortSteps (s.isManagement j) (s.port j) ((writeSlot k r s).port j) := by
  rw [port_writeSlot]
  split
  · next h =>
    obtain ⟨rfl, inside⟩ := h
    exact (PortStep.slot _ (.inr inside)).one
  · exact .refl

theorem portSteps_engineCommit (sc : Screen) (src : Source) (s : State) (j : Computer) :
    PortSteps (s.isManagement j) (s.port j) ((engineCommit sc src s).port j) := by
  unfold engineCommit
  dsimp only
  repeat' split
  · exact .refl
  · exact portSteps_writeSlot _ _ _ j
  all_goals exact .refl

theorem portSteps_requestSources (reqs : List (Screen × Source)) (s : State) (j : Computer) :
    PortSteps (s.isManagement j) (s.port j) ((requestSources reqs s).port j) := by
  have one (q : Screen × Source) (t : State) :
      PortSteps (t.isManagement j) (t.port j) ((requestSource q.1 q.2 t).port j) := by
    unfold requestSource
    cases requestOutcome t q.1 q.2 with
    | noChange => exact .refl
    | pending => exact .refl
    | committed => exact portSteps_engineCommit _ _ (t.setScreen _ _) j
  unfold requestSources
  induction reqs generalizing s with
  | nil => exact .refl
  | cons q rest ih =>
    have later := ih (requestSource q.1 q.2 s)
    have managed : (requestSource q.1 q.2 s).isManagement j = s.isManagement j := by simp [State.isManagement]
    rw [managed] at later
    exact (one q s).trans later

theorem portSteps_focusChange (k : Computer) (cause : Cause) (s : State) (j : Computer) :
    PortSteps managed (s.port j) ((focusChange k cause s).port j) := by
  have carried : PortSteps managed (s.port j)
      ((carryModifiers s.focusUnit.focus k { s with focusUnit := { s.focusUnit with focus := some k } }).port j) :=
    portSteps_carryModifiers _ k { s with focusUnit := { s.focusUnit with focus := some k } } j
  refine carried.trans (PortSteps.trans (portSteps_of_eq (port_of_ports ?_ j)) (portSteps_wakeOnFocus k _ j))
  simp

end

/-- A port after an LED output report (R116). -/
theorem takeLedReport_port (k : Computer) (leds : Leds) (s : State) (j : Computer) :
    (takeLedReport k leds s).port j =
      if j = k ∧ (s.port k).link = .ready then { s.port k with leds := leds } else s.port j := by
  unfold takeLedReport
  by_cases link : (s.port k).link = .ready
  · have taken : (if s.focusUnit.focus = some k then refreshLeds (onPort k (fun p => { p with leds := leds }) s)
        else onPort k (fun p => { p with leds := leds }) s).ports = (onPort k (fun p => { p with leds := leds }) s).ports := by
      split
      · exact refreshLeds_ports _
      · rfl
    rw [if_pos link, port_of_ports taken, port_onPort]
    simp only [and_iff_left link]
  · simp [link]

/-- The changes of a port's record leave its LED state. -/
theorem PortSteps.leds {m : Bool} {p q : Port} (h : PortSteps m p q) : q.leds = p.leds := by
  induction h with
  | refl => rfl
  | tail _ last ih =>
    rw [← ih]
    cases last
    case offer r => rw [offerTo_frame]
    case departing lost outside reached => cases lost <;> rfl
    case resyncEnded added link few two => rw [noteReports_frame]
    all_goals rfl

/-! Every change. -/

/-- What a plain change does to a port: changes of its record, or it leaves the queueable states, or it takes an LED
report. -/
theorem Plain.port {s t : State} (h : Plain s t) (j : Computer) :
    PortSteps (s.isManagement j) (s.port j) (t.port j) ∨
      (∃ lost, s.queueable j = true ∧ t = Safety.departed j lost s) ∨ ∃ leds, t = takeLedReport j leds s := by
  cases h
  case departed k lost queueable =>
    by_cases e : j = k
    · subst e
      exact .inr (.inl ⟨lost, queueable, rfl⟩)
    · exact .inl (portSteps_of_eq (by rw [departed_port, if_neg e]))
  case press slot usage claimed new room => exact .inl (portSteps_setHeld _ _ s j)
  case release p => exact .inl (portSteps_setHeld _ _ s j)
  case ageing slot usage =>
    refine .inl ?_
    unfold ageEntry
    repeat' split
    · exact portSteps_setHeld _ _ s j
    all_goals exact .refl
  case emptyOwners => exact .inl (portSteps_setHeld _ _ s j)
  case offer k r => exact .inl (portSteps_offer k r s j)
  case writeSlot k r => exact .inl (portSteps_writeSlot k r s j)
  case emptySlot k => exact .inl (portSteps_onPort ((PortStep.slot none (.inl rfl)).one) j)
  case presence k present =>
    refine .inl (portSteps_onPort (?_) j)
    split
    · exact .refl
    · exact (PortStep.presence _ _).one
  case arrival k absent => exact .inl (portSteps_onPort ((PortStep.arrival absent).one) j)
  case departing k lost outside reached =>
    exact .inl (portSteps_onPort ((PortStep.departing lost outside reached).one) j)
  case configured k link =>
    exact .inl (portSteps_onPort ((PortStep.moved .ready (.inl link) (.inl rfl)).one) j)
  case suspended k link =>
    exact .inl (portSteps_onPort ((PortStep.moved .suspended (.inr (.inl link)) (.inr rfl)).one) j)
  case resumed k link =>
    exact .inl (portSteps_onPort ((PortStep.moved .ready (.inr (.inr link)) (.inl rfl)).one) j)
  case awake k link => exact .inl (portSteps_onPort ((PortStep.awake link).one) j)
  case startWake k link armed => exact .inl (portSteps_startWake k s link armed j)
  case resendWake k a attempt below =>
    refine .inl ?_
    unfold Machine.resendWake
    rw [port_onPort]
    split
    · next e =>
      subst e
      exact (PortStep.resent a _ attempt below).one
    · exact .refl
  case failWake k link => exact .inl (portSteps_onPort ((PortStep.failed link).one) j)
  case deliver k r rest queue => exact .inl (portSteps_onPort ((PortStep.delivered r rest queue).one) j)
  case endResync k acc link few =>
    refine .inl (portSteps_onPort ((PortStep.resyncEnded _ link few ?_).one) j)
    unfold resyncReports
    split <;> simp
  case ledReport k leds =>
    by_cases e : j = k
    · subst e
      exact .inr (.inr ⟨leds, rfl⟩)
    · exact .inl (portSteps_of_eq (by rw [takeLedReport_port, if_neg (fun h => e h.1)]))
  case arm k armed link => exact .inl (portSteps_onPort ((PortStep.armed armed link).one) j)
  case clearConditions ks =>
    refine .inl ?_
    have cleared := get_ofFn (fun k => if inSet ks k then { s.port k with sticky := noSticky } else s.port k) j
    refine PortSteps.trans ?_ (portSteps_of_eq cleared)
    split
    · exact (PortStep.sticky noSticky).one
    · exact .refl
  case clearCounters =>
    refine .inl ?_
    have cleared : (clearAllCounters s).port j = { s.port j with resyncCount := 0 } := get_map _ _ _
    exact cleared ▸ PortStep.uncounted.one
  all_goals exact .inl (portSteps_of_eq (port_of_ports (by simp) j))

/-- A port after a desk reset: its rule for the new management port set, and then what the commits of the initial sources
write into its slot. -/
theorem deskResetState_port (answers : Bool) (s : State) (j : Computer) :
    PortSteps ((deskResetState answers s).isManagement j)
      (portAtDeskReset ((deskResetState answers s).isManagement j) (s.port j))
      ((deskResetState answers s).port j) := by
  have eq := deskResetState_eq answers s
  generalize loaded : loadImage (imageAtReset answers s) s = u at eq
  have managed : (deskResetState answers s).isManagement j = (resetBlocks u).isManagement j := by
    rw [eq]
    simp [State.isManagement]
  have same : (deskResetState answers s).port j =
      (requestSources (initialRequests (sourcesFrom (imageAtReset answers s))) (resetBlocks u)).port j :=
    port_of_ports (by rw [eq]; simp) j
  have reset : (resetBlocks u).port j = portAtDeskReset ((resetBlocks u).isManagement j) (u.port j) := get_ofFn _ _
  have before : u.port j = s.port j := by rw [← loaded]; rfl
  rw [same, managed, ← before, ← reset]
  exact portSteps_requestSources _ _ j

/-- What a piece other than the two loads does to a port. -/
theorem Piece.port {s t : State} (h : Piece s t) (j : Computer) :
    PortSteps (s.isManagement j) (s.port j) (t.port j) ∨ (∃ image, t = Machine.powerOn image s) ∨
      ∃ answers, t = deskResetState answers s := by
  cases h
  case powerOn image => exact .inr (.inl ⟨image, rfl⟩)
  case deskReset answers => exact .inr (.inr ⟨answers, rfl⟩)
  case focus k cause => exact .inl (portSteps_focusChange k cause s j)
  all_goals exact .inl (portSteps_of_eq (port_of_ports (by simp) j))

end Sys2Proof.Safety
end

section
/-! PROOFS. The ports' records (R100, R102, R107, R108, R122, R168, R191): what each change of one keeps, and the statement. -/

namespace Sys2Proof.Safety

open Sys2Proof.Machine

/-! Invariants of one record, lifted to every step. -/

/-- What holds of a record `p` of a port that is in the management port set or not. -/
abbrev PortProperty := Bool → Port → Prop

/-- A property of port records that every change of one record keeps, whether the port leaves the queueable states or the
part is started again. -/
structure KeptByPorts (P : PortProperty) : Prop where
  step : ∀ m p q, PortStep m p q → P m p → P m q
  departed : ∀ m lost p, p.link.queueable = true → P m p →
    P m { flushPort (departing lost p) with leds := ledsOff, attempt := none }
  leds : ∀ m p x, P m p → P m { p with leds := x }
  powerOn : ∀ m p, P m (portAtPowerOn p)
  deskReset : ∀ m n p, P m p → P n (portAtDeskReset n p)

/-- Every port record has a property. -/
def OfPorts (P : PortProperty) (s : State) : Prop := ∀ k, P (s.isManagement k) (s.port k)

theorem KeptByPorts.steps {P : PortProperty} (kept : KeptByPorts P) {m : Bool} {p q : Port} (h : PortSteps m p q)
    (hp : P m p) : P m q := by
  induction h with
  | refl => exact hp
  | tail _ last ih => exact kept.step m _ _ last ih

theorem Plain.ofPorts {P : PortProperty} (kept : KeptByPorts P) {s t : State} (h : Plain s t) (hs : OfPorts P s) :
    OfPorts P t := by
  intro k
  have settings : t.settings = s.settings := by cases h <;> simp
  have managed : t.isManagement k = s.isManagement k := by simp [State.isManagement, settings]
  rw [managed]
  rcases h.port k with changes | ⟨lost, queueable, rfl⟩ | ⟨leds, rfl⟩
  · exact kept.steps changes (hs k)
  · rw [departed_port, if_pos rfl]
    exact kept.departed _ lost _ queueable (hs k)
  · rw [takeLedReport_port]
    split
    · exact kept.leds _ _ leds (hs k)
    · exact hs k

theorem Piece.settings {s t : State} (h : Piece s t) :
    t.settings = s.settings ∨ (∃ image, t = Machine.powerOn image s) ∨ ∃ answers, t = deskResetState answers s := by
  cases h
  case powerOn image => exact .inr (.inl ⟨image, rfl⟩)
  case deskReset answers => exact .inr (.inr ⟨answers, rfl⟩)
  all_goals exact .inl (by simp)

theorem Piece.ofPorts {P : PortProperty} (kept : KeptByPorts P) {s t : State} (h : Piece s t) (hs : OfPorts P s) :
    OfPorts P t := by
  have started (image : Option (List Byte)) : OfPorts P (Machine.powerOn image s) := fun k => by
    rw [powerOn_port]
    exact kept.powerOn _ _
  have reset (answers : Bool) : OfPorts P (deskResetState answers s) := fun k =>
    kept.steps (deskResetState_port answers s k) (kept.deskReset _ _ _ (hs k))
  rcases h.settings with settings | ⟨image, eq⟩ | ⟨answers, eq⟩
  · intro k
    rcases h.port k with changes | ⟨image, eq⟩ | ⟨answers, eq⟩
    · have managed : t.isManagement k = s.isManagement k := by simp [State.isManagement, settings]
      rw [managed]
      exact kept.steps changes (hs k)
    · rw [eq]
      exact started image k
    · rw [eq]
      exact reset answers k
  · rw [eq]
    exact started image
  · rw [eq]
    exact reset answers

/-- What every change of one record keeps is kept by every step. -/
theorem ofPorts_step {P : PortProperty} (kept : KeptByPorts P) {s t : State} (h : step s = .next t) (hs : OfPorts P s) :
    OfPorts P t :=
  step_keeps_of_pieces (fun _ _ change => change.ofPorts kept) (fun _ _ change => change.ofPorts kept) hs h

/-! Queues. -/

theorem mergeTail_length {queue merged : List Report} {r : Report} (h : mergeTail queue r = some merged) :
    merged.length = queue.length := by
  unfold mergeTail at h
  split at h
  · cases h
  · next tail last =>
    obtain ⟨m, -, rfl⟩ := Option.map_eq_some_iff.mp h
    have : queue ≠ [] := fun e => by simp [e] at last
    have := List.length_pos_iff.mpr this
    simp
    omega

theorem enqueue_length (r : Report) (p : Port) (h : p.queue.length ≤ 8) : (enqueue r p).queue.length ≤ 8 := by
  unfold enqueue
  repeat' split
  · exact h
  · next merged => exact (mergeTail_length merged).trans_le h
  · next room => simpa [Config.queueCapacity] using room
  · exact h

theorem offerTo_length (r : Report) (p : Port) (h : p.queue.length ≤ 8) : (offerTo r p).queue.length ≤ 8 := by
  unfold offerTo
  split
  · exact enqueue_length _ _ (by rw [notePair_frame]; exact h)
  · exact h

theorem enqueue_frame (r : Report) (p : Port) :
    enqueue r p = { p with queue := (enqueue r p).queue, resync := (enqueue r p).resync } := by
  unfold enqueue
  repeat' split
  all_goals rfl

/-- Links that are queueable stand in no rule of the other links. -/
theorem PresenceAgrees.reached {p q : Port} (hp : PresenceAgrees p) (link : p.link ≠ .detached)
    (linked : q.link ≠ .detached) (sensed : q.sensed = p.sensed) : PresenceAgrees q := by
  unfold PresenceAgrees at *
  simp_all

theorem PresenceAgrees.congr {p q : Port} (hp : PresenceAgrees p) (link : q.link = p.link)
    (sensed : q.sensed = p.sensed) : PresenceAgrees q := by
  unfold PresenceAgrees at *
  rwa [link, sensed]

theorem ne_detached_of_queueable {l : LinkState} (h : l.queueable = true) : l ≠ .detached := by
  rintro rfl
  cases h

theorem presence_departing {p : Port} (hp : PresenceAgrees p) (lost : Bool) (hl : lost = true ∨ p.link ≠ .detached) :
    PresenceAgrees (departing lost p) := by
  cases lost with
  | true => exact ⟨fun _ => rfl, fun _ => rfl⟩
  | false =>
    have : p.link ≠ .detached := by simpa using hl
    exact hp.reached this nofun rfl

/-- Every change of a record keeps the sensed presence and the link state in agreement (R102). -/
theorem keptByPorts_presence : KeptByPorts (fun _ p => PresenceAgrees p) where
  step := by
    intro m p q change hp
    cases change
    case offer r => exact hp.congr (by rw [offerTo_frame]) (by rw [offerTo_frame])
    case arrival absent => exact ⟨nofun, nofun⟩
    case departing lost outside reached => exact presence_departing hp lost reached
    case moved new old next =>
      refine hp.reached ?_ ?_ rfl
      · rcases old with h | h | h <;> simp [h]
      · rcases next with h | h <;> simp [h]
    case awake link => exact hp.reached (by simp [link]) nofun rfl
    case startWake a link armed one => exact hp.reached (by simp [link]) nofun rfl
    case failed link => exact hp.reached (by simp [link]) nofun rfl
    case resyncEnded added link few two =>
      exact hp.congr (by rw [noteReports_frame]) (by rw [noteReports_frame])
    all_goals exact hp
  departed := fun _ lost p queueable hp =>
    (presence_departing hp lost (.inr (ne_detached_of_queueable queueable))).congr rfl rfl
  leds := fun _ _ _ hp => hp.congr rfl rfl
  powerOn := fun _ _ => ⟨fun _ => rfl, fun _ => rfl⟩
  deskReset := fun _ _ p hp => by
    unfold portAtDeskReset
    dsimp only
    split <;> exact hp

/-- A property that the changes of a record keep while the sensed presence agrees with the link state. -/
theorem keptByPorts_and_presence {P : PortProperty}
    (step : ∀ m p q, PortStep m p q → PresenceAgrees p → P m p → P m q)
    (departed : ∀ m lost p, p.link.queueable = true → P m p →
      P m { flushPort (departing lost p) with leds := ledsOff, attempt := none })
    (leds : ∀ m p x, P m p → P m { p with leds := x }) (powerOn : ∀ m p, P m (portAtPowerOn p))
    (deskReset : ∀ m n p, P m p → P n (portAtDeskReset n p)) :
    KeptByPorts (fun m p => PresenceAgrees p ∧ P m p) where
  step m p q change hp := ⟨keptByPorts_presence.step m p q change hp.1, step m p q change hp.1 hp.2⟩
  departed m lost p queueable hp :=
    ⟨keptByPorts_presence.departed m lost p queueable hp.1, departed m lost p queueable hp.2⟩
  leds m p x hp := ⟨keptByPorts_presence.leds m p x hp.1, leds m p x hp.2⟩
  powerOn m p := ⟨keptByPorts_presence.powerOn m p, powerOn m p⟩
  deskReset m n p hp := ⟨keptByPorts_presence.deskReset m n p hp.1, deskReset m n p hp.2⟩

theorem link_of_absent {p : Port} (hp : PresenceAgrees p) (absent : p.sensed = false) : p.link = .detached :=
  hp.mp absent

/-! Queues, RESYNC and last pairs (R107, R108). -/

/-- The queue's bound, and nothing queued on a port that is not queueable. -/
structure QueueSettled (p : Port) : Prop where
  length : p.queue.length ≤ 8
  outside : p.link.queueable = false → p.queue = [] ∧ p.resync = none ∧ p.lastPair = none

theorem portsSettled_iff {s : State} :
    PortsSettled s ↔ OfPorts (fun _ p => PresenceAgrees p ∧ QueueSettled p) s := by
  constructor
  · exact fun hs k =>
      ⟨(hs k).presence, (hs k).length, fun h => ⟨(hs k).queue h, (hs k).resync h, (hs k).pair h⟩⟩
  · intro hs k
    obtain ⟨presence, length, outside⟩ := hs k
    exact ⟨presence, length, fun h => (outside h).1, fun h => (outside h).2.1, fun h => (outside h).2.2⟩

theorem QueueSettled.of_queueable {p : Port} (h : p.link.queueable = true) (length : p.queue.length ≤ 8) :
    QueueSettled p := ⟨length, fun outside => by rw [h] at outside; cases outside⟩

theorem QueueSettled.offerTo {p : Port} (hp : QueueSettled p) (r : Report) : QueueSettled (offerTo r p) := by
  by_cases h : p.link.queueable = true
  · exact .of_queueable (by rw [offerTo_frame]; exact h) (offerTo_length r p hp.length)
  · rw [offerTo_of_not_queueable r p (by simpa using h)]
    exact hp

/-- A flushed port holds nothing that is queued. -/
theorem queueSettled_flushPort (p : Port) : QueueSettled (flushPort p) := ⟨by simp [flushPort], fun _ => ⟨rfl, rfl, rfl⟩⟩

theorem QueueSettled.congr {p q : Port} (hp : QueueSettled p) (link : q.link.queueable = p.link.queueable)
    (queue : q.queue = p.queue) (resync : q.resync = p.resync) (pair : q.lastPair = p.lastPair) : QueueSettled q :=
  ⟨by rw [queue]; exact hp.length, by rw [link, queue, resync, pair]; exact hp.outside⟩

theorem PortStep.queueSettled {m : Bool} {p q : Port} (change : PortStep m p q) (presence : PresenceAgrees p)
    (hp : QueueSettled p) : QueueSettled q := by
  cases change
  case offer r => exact hp.offerTo r
  case arrival absent =>
    have nothing := hp.outside (by rw [link_of_absent presence absent]; rfl)
    exact ⟨hp.length, fun _ => nothing⟩
  case departing lost outside reached =>
    have nothing := hp.outside outside
    cases lost <;> exact ⟨hp.length, fun _ => nothing⟩
  case moved new old next =>
    exact .of_queueable (by rcases next with h | h <;> simp [h, LinkState.queueable]) hp.length
  case awake link => exact .of_queueable rfl hp.length
  case startWake a link armed one => exact .of_queueable rfl hp.length
  case failed link => exact .of_queueable rfl (Nat.zero_le _)
  case delivered r rest queue =>
    have length := hp.length
    rw [queue, List.length_cons] at length
    refine ⟨by dsimp only; omega, fun outside => ?_⟩
    have := (hp.outside outside).1
    rw [queue] at this
    cases this
  case resyncEnded added link few two =>
    rw [noteReports_frame]
    exact .of_queueable (by simp [link, LinkState.queueable]) (by simp; omega)
  all_goals exact hp.congr rfl rfl rfl rfl

theorem keptByPorts_queues : KeptByPorts (fun _ p => PresenceAgrees p ∧ QueueSettled p) :=
  keptByPorts_and_presence (fun _ _ _ => PortStep.queueSettled)
    (fun _ lost p _ _ => (queueSettled_flushPort (departing lost p)).congr rfl rfl rfl rfl)
    (fun _ _ _ hp => hp.congr rfl rfl rfl rfl)
    (fun _ _ => ⟨Nat.zero_le _, fun _ => ⟨rfl, rfl, rfl⟩⟩)
    (fun _ _ p hp => by
      unfold portAtDeskReset
      dsimp only
      split
      · next queueable => exact .of_queueable queueable (Nat.zero_le _)
      · exact hp.congr rfl rfl rfl rfl)

/-! Wake attempts (R122). -/

/-- An attempt exists exactly while the link is WAKING, the port armed, the signals within their limit. -/
structure AttemptSettled (p : Port) : Prop where
  attempt : p.link = .waking ↔ p.attempt.isSome = true
  armed : p.link = .waking → p.armed = true
  signals : ∀ a ∈ p.attempt, 1 ≤ a.signals ∧ a.signals ≤ a.retryLimit + 1

theorem wakesSettled_iff {s : State} :
    WakesSettled s ↔ OfPorts (fun _ p => PresenceAgrees p ∧ AttemptSettled p) s := by
  constructor
  · exact fun hs k => ⟨(hs k).presence, (hs k).attempt, (hs k).armed, (hs k).signals⟩
  · intro hs k
    obtain ⟨presence, attempt, armed, signals⟩ := hs k
    exact ⟨presence, attempt, armed, signals⟩

/-- A port that is not WAKING and has no attempt. -/
theorem AttemptSettled.quiet {p : Port} (link : p.link ≠ .waking) (attempt : p.attempt = none) : AttemptSettled p :=
  ⟨by simp [link, attempt], fun h => absurd h link, by simp [attempt]⟩

theorem AttemptSettled.attempt_none {p : Port} (hp : AttemptSettled p) (link : p.link ≠ .waking) : p.attempt = none := by
  have := hp.attempt
  simp_all

theorem AttemptSettled.congr {p q : Port} (hp : AttemptSettled p) (link : q.link = p.link)
    (attempt : q.attempt = p.attempt) (armed : q.armed = p.armed) : AttemptSettled q :=
  ⟨by rw [link, attempt]; exact hp.attempt, by rw [link, armed]; exact hp.armed, by rw [attempt]; exact hp.signals⟩

theorem PortStep.attemptSettled {m : Bool} {p q : Port} (change : PortStep m p q) (presence : PresenceAgrees p)
    (hp : AttemptSettled p) : AttemptSettled q := by
  cases change
  case offer r => exact hp.congr (by rw [offerTo_frame]) (by rw [offerTo_frame]) (by rw [offerTo_frame])
  case arrival absent =>
    have link := link_of_absent presence absent
    exact .quiet nofun (hp.attempt_none (by simp [link]))
  case departing lost outside reached =>
    have none := hp.attempt_none (fun link => by simp [link, LinkState.queueable] at outside)
    cases lost <;> exact .quiet nofun none
  case moved new old next =>
    have none := hp.attempt_none (by rcases old with h | h | h <;> simp [h])
    exact .quiet (by rcases next with h | h <;> simp [h]) none
  case awake link => exact .quiet nofun rfl
  case startWake a link armed one =>
    refine ⟨by simp, fun _ => armed, fun b hb => ?_⟩
    obtain rfl := Option.some.inj hb
    omega
  case resent a expiry attempt below =>
    refine ⟨by have := hp.attempt; simp_all, hp.armed, fun b hb => ?_⟩
    obtain rfl := Option.some.inj hb
    dsimp only
    omega
  case failed link => exact .quiet nofun rfl
  case resyncEnded added link few two =>
    rw [noteReports_frame]
    exact hp.congr rfl rfl rfl
  case armed x link => exact ⟨hp.attempt, fun waking => by simp [link] at waking, hp.signals⟩
  all_goals exact hp.congr rfl rfl rfl

theorem keptByPorts_attempts : KeptByPorts (fun _ p => PresenceAgrees p ∧ AttemptSettled p) :=
  keptByPorts_and_presence (fun _ _ _ => PortStep.attemptSettled)
    (fun _ lost p _ _ => .quiet (by cases lost <;> nofun) rfl)
    (fun _ _ _ hp => hp.congr rfl rfl rfl)
    (fun _ _ => .quiet nofun rfl)
    (fun _ _ p hp => by
      unfold portAtDeskReset
      dsimp only
      split <;> exact hp.congr rfl rfl rfl)

/-! Result slots (R168). -/

/-- A port outside the management port set has an EMPTY slot. -/
def SlotManaged (m : Bool) (p : Port) : Prop := m = false → p.slot = none

theorem slotsManaged_iff {s : State} : SlotsManaged s ↔ OfPorts SlotManaged s := Iff.rfl

theorem SlotManaged.congr {m : Bool} {p q : Port} (hp : SlotManaged m p) (slot : q.slot = p.slot) : SlotManaged m q := by
  unfold SlotManaged at *
  rwa [slot]

theorem keptByPorts_slots : KeptByPorts SlotManaged where
  step := by
    intro m p q change hp
    cases change
    case offer r => exact hp.congr (by rw [offerTo_frame])
    case slot x written =>
      rintro rfl
      exact written.resolve_right nofun
    case departing lost outside reached => cases lost <;> exact hp.congr rfl
    case resyncEnded added link few two => exact hp.congr (by rw [noteReports_frame])
    all_goals exact hp.congr rfl
  departed := fun _ lost p _ hp => by cases lost <;> exact hp.congr rfl
  leds := fun _ _ _ hp => hp.congr rfl
  powerOn := fun _ _ _ => rfl
  deskReset := fun _ n p _ => by
    rintro rfl
    rfl

/-- Settles O54: three properties of a port's record, each kept by every change of one. -/
theorem stepKeepsPorts : Obligations.StepKeepsPorts := by
  unfold Obligations.StepKeepsPorts
  intro s t h
  rw [portsSettled_iff, portsSettled_iff, wakesSettled_iff, wakesSettled_iff, slotsManaged_iff, slotsManaged_iff]
  exact ⟨ofPorts_step keptByPorts_queues h, ofPorts_step keptByPorts_attempts h, ofPorts_step keptByPorts_slots h⟩

end Sys2Proof.Safety
end

section
/-! PROOFS. The lists and counters within their figures (R7, R189, R191), block by block, and the statement. -/

namespace Sys2Proof.Safety

open Sys2Proof.Machine

theorem bump_le (n : Nat) : bump n ≤ 65535 := Nat.min_le_right _ _

theorem bumpIf_le {b : Bool} {n : Nat} (h : n ≤ 65535) : bumpIf b n ≤ 65535 := by
  unfold bumpIf
  split
  · exact bump_le n
  · exact h

/-! The blocks. -/

/-- The held-key table and the overflow counter. -/
def KeysBounded (s : State) : Prop := s.keys.held.length ≤ 24 ∧ s.keys.overflow ≤ 65535

/-- The journal's records. -/
def JournalBounded (s : State) : Prop := s.journal.records.length ≤ 32

/-- The counters of the console and of the management link. -/
def CountersBounded (s : State) : Prop := s.console.errors ≤ 65535 ∧ s.foreign ≤ 65535 ∧ s.mismatches ≤ 65535

/-- The frame counters of one screen or of X. -/
def FramesBounded (repeats skips : Nat) : Prop := repeats ≤ 65535 ∧ skips ≤ 65535

/-- The frame counters of the crosspoint. -/
def VideoBounded (s : State) : Prop :=
  (∀ sc, FramesBounded (s.screen sc).repeats (s.screen sc).skips) ∧
    FramesBounded s.video.share.repeats s.video.share.skips

theorem bounded_iff {s : State} :
    Bounded s ↔
      KeysBounded s ∧ JournalBounded s ∧ CountersBounded s ∧ VideoBounded s ∧
        OfPorts (fun _ p => p.resyncCount ≤ 65535) s := by
  constructor
  · exact fun h =>
      ⟨⟨h.held, h.overflow⟩, h.journal, ⟨h.errors, h.foreign, h.mismatches⟩,
        ⟨fun sc => ⟨h.repeats sc, h.skips sc⟩, h.shareRepeat, h.shareSkip⟩, h.resync⟩
  · rintro ⟨⟨held, overflow⟩, journal, ⟨errors, foreign, mismatches⟩, ⟨screens, repeats, skips⟩, ports⟩
    exact ⟨held, journal, errors, overflow, foreign, mismatches, ports, fun sc => (screens sc).1, fun sc => (screens sc).2,
      repeats, skips⟩

/-! Keys. -/

theorem KeysBounded.congr {s t : State} (hs : KeysBounded s) (length : t.keys.held.length = s.keys.held.length)
    (overflow : t.keys.overflow = s.keys.overflow) : KeysBounded t := by
  unfold KeysBounded at *
  rwa [length, overflow]

theorem KeysBounded.of_keys {s t : State} (hs : KeysBounded s) (keys : t.keys = s.keys) : KeysBounded t :=
  hs.congr (by rw [keys]) (by rw [keys])

/-! The focus change's keys: the modifier carry's alone (R53). -/

/-- Focus passes to k, before the effects of R52. -/
def focused (k : Computer) (s : State) : State := { s with focusUnit := { s.focusUnit with focus := some k } }

theorem focusChange_keys (k : Computer) (cause : Cause) (s : State) :
    (focusChange k cause s).keys = (carryModifiers s.focusUnit.focus k (focused k s)).keys := by
  simp [focusChange, focused]

/-- The held-key table after the modifier carry (R53). -/
theorem carryModifiers_held (previous : Option Computer) (k : Computer) (s : State) :
    (carryModifiers previous k s).keys.held =
      match previous with
      | some f => if carrySet s then s.keys.held.map (carryEntry s f k) else s.keys.held
      | none => s.keys.held := by
  cases previous with
  | none => rfl
  | some f =>
    unfold carryModifiers
    by_cases carry : carrySet s = true
    · by_cases any : s.keys.held.any (isCarried f) = true
      · simp [carry, any]
      · have idle : s.keys.held.map (carryEntry s f k) = s.keys.held := by
          refine (List.map_congr_left fun e he => ?_).trans (List.map_id _)
          have : isCarried f e = false := by
            by_contra carried
            exact any (List.any_eq_true.mpr ⟨e, he, by simpa using carried⟩)
          simp [carryEntry, this]
        simp [carry, any, idle]
    · simp [carry]

theorem Plain.keysBounded {s t : State} (h : Plain s t) (hs : KeysBounded s) : KeysBounded t := by
  cases h
  case press slot usage claimed new room =>
    refine ⟨?_, by simpa using hs.2⟩
    simp
    omega
  case overflow => exact ⟨hs.1, bump_le _⟩
  case release p => exact ⟨by simpa using (List.length_filter_le _ _).trans hs.1, by simpa using hs.2⟩
  case ageing slot usage =>
    unfold ageEntry
    repeat' split
    · exact hs.congr (by simp) (by simp)
    all_goals exact hs
  case emptyOwners => exact hs.congr (by simp [Machine.emptyOwners]) (by simp [Machine.emptyOwners])
  case buttons owners h => exact hs
  case departed k lost queueable => exact hs.congr (by simp [forgetOwner]) (by simp [forgetOwner])
  case clearCounters => exact ⟨hs.1, Nat.zero_le _⟩
  all_goals exact hs.of_keys (by simp)

theorem Piece.keysBounded {s t : State} (h : Piece s t) (hs : KeysBounded s) : KeysBounded t := by
  have empty {u : State} (h : u.keys = emptyKeys) : KeysBounded u := by
    unfold KeysBounded
    rw [h]
    exact ⟨Nat.zero_le _, Nat.zero_le _⟩
  cases h
  case powerOn image => exact empty (powerOn_keys image s)
  case deskReset answers => exact empty (deskResetState_keys answers s)
  case focus k cause =>
    refine hs.congr ?_ (by simp)
    rw [focusChange_keys, carryModifiers_held]
    repeat' split
    · simp [focused]
    all_goals rfl
  all_goals exact hs.of_keys (by simp)

/-! The journal. -/

theorem journalBounded_record {s : State} (hs : JournalBounded s) (event : JournalEvent) :
    JournalBounded (record event s) := by
  unfold JournalBounded record at *
  dsimp only
  split
  · next room => simpa [Config.journalCapacity] using room
  · exact hs

theorem JournalBounded.congr {s t : State} (hs : JournalBounded s) (h : t.journal = s.journal) : JournalBounded t := by
  unfold JournalBounded at *
  rwa [h]

theorem journalBounded_startWake {s : State} (hs : JournalBounded s) (k : Computer) : JournalBounded (startWake k s) :=
  journalBounded_record (s := onPort k _ (s.send (.wakeSignal k))) hs _

theorem journalBounded_wakeOnFocus {s : State} (hs : JournalBounded s) (k : Computer) :
    JournalBounded (wakeOnFocus k s) := by
  unfold wakeOnFocus wakeRequest
  repeat' split
  · exact journalBounded_startWake hs k
  all_goals exact hs

theorem Plain.journalBounded {s t : State} (h : Plain s t) (hs : JournalBounded s) : JournalBounded t := by
  cases h
  case record event => exact journalBounded_record hs event
  case readOut => exact (List.drop_sublist _ _).length_le.trans hs
  case startWake k link armed => exact journalBounded_startWake hs k
  all_goals exact hs.congr (by simp)

theorem Piece.journalBounded {s t : State} (h : Piece s t) (hs : JournalBounded s) : JournalBounded t := by
  cases h
  case powerOn image => exact Nat.zero_le _
  case deskReset answers =>
    unfold JournalBounded
    rw [deskResetState_journal]
    exact Nat.zero_le _
  case focus k cause =>
    unfold focusChange
    refine journalBounded_wakeOnFocus (journalBounded_record (hs.congr ?_) _) _
    simp
  all_goals exact hs.congr (by simp)

/-! The counters. -/

theorem Plain.countersBounded {s t : State} (h : Plain s t) (hs : CountersBounded s) : CountersBounded t := by
  obtain ⟨errors, foreign, mismatches⟩ := hs
  cases h
  case consoleError => exact ⟨bump_le _, foreign, mismatches⟩
  case foreign => exact ⟨errors, bump_le _, mismatches⟩
  case mismatch => exact ⟨errors, foreign, bump_le _⟩
  case clearCounters => exact ⟨Nat.zero_le _, Nat.zero_le _, Nat.zero_le _⟩
  all_goals exact ⟨by simpa using errors, by simpa using foreign, by simpa using mismatches⟩

theorem Piece.countersBounded {s t : State} (h : Piece s t) (hs : CountersBounded s) : CountersBounded t := by
  obtain ⟨errors, foreign, mismatches⟩ := hs
  cases h
  case powerOn image => exact ⟨Nat.zero_le _, Nat.zero_le _, Nat.zero_le _⟩
  case deskReset answers => exact ⟨by simp, by simp, by simp⟩
  all_goals exact ⟨by simpa using errors, by simpa using foreign, by simpa using mismatches⟩

/-! The frame counters. -/

theorem VideoBounded.congr {s t : State} (hs : VideoBounded s) (h : t.video = s.video) : VideoBounded t := by
  unfold VideoBounded State.screen at *
  rwa [h]

theorem VideoBounded.setScreen {s : State} (hs : VideoBounded s) {sc : Screen} {r : ScreenRecord}
    (hr : FramesBounded r.repeats r.skips) : VideoBounded (s.setScreen sc r) := by
  refine ⟨fun x => ?_, hs.2⟩
  rw [State.screen_setScreen]
  split
  · exact hr
  · exact hs.1 x

theorem VideoBounded.startShareFrame {s : State} (hs : VideoBounded s) : VideoBounded (startShareFrame s) := by
  unfold Machine.startShareFrame
  split
  · exact ⟨hs.1, bumpIf_le hs.2.1, bumpIf_le hs.2.2⟩
  · exact hs

theorem VideoBounded.attachSink {s : State} (hs : VideoBounded s) (out : VideoOutput) (mode : VideoMode) :
    VideoBounded (attachSink out mode s) := by
  cases out with
  | screen sc => exact hs.setScreen (hs.1 sc)
  | shareOut => exact hs

theorem Plain.videoBounded {s t : State} (h : Plain s t) (hs : VideoBounded s) : VideoBounded t := by
  cases h
  case input j r => exact hs
  case sinkAttach out mode => exact hs.attachSink out mode
  case shareDetach => exact hs
  case commit sc src pending => exact hs.setScreen (hs.1 sc)
  case showScreen sc sink present => exact hs.setScreen ⟨bumpIf_le (hs.1 sc).1, bumpIf_le (hs.1 sc).2⟩
  case showShare => exact hs.startShareFrame
  case selection sel => exact hs
  case clearCounters =>
    refine ⟨fun sc => ?_, Nat.zero_le _, Nat.zero_le _⟩
    have cleared : (clearAllCounters s).screen sc = clearScreenCounters (s.screen sc) := get_map _ _ _
    rw [cleared]
    exact ⟨Nat.zero_le _, Nat.zero_le _⟩
  all_goals exact hs.congr (by simp)

theorem VideoBounded.requests {s : State} (hs : VideoBounded s) (reqs : List (Screen × Source)) :
    VideoBounded (requestSources reqs s) := by
  have request (sc : Screen) (src : Source) {u : State} (hu : VideoBounded u) : VideoBounded (requestSource sc src u) := by
    unfold requestSource
    cases requestOutcome u sc src with
    | noChange => exact hu
    | pending => exact hu.setScreen (hu.1 sc)
    | committed =>
      exact (hu.setScreen (sc := sc) (r := { u.screen sc with committed := src }) (hu.1 sc)).congr (by simp)
  unfold requestSources
  induction reqs generalizing s with
  | nil => exact hs
  | cons q rest ih => exact ih (request q.1 q.2 hs)

theorem videoBounded_deskReset (answers : Bool) (s : State) : VideoBounded (deskResetState answers s) := by
  have reset : VideoBounded (resetBlocks (loadImage (imageAtReset answers s) s)) := by
    refine ⟨fun sc => ?_, Nat.zero_le _, Nat.zero_le _⟩
    have cleared : (resetBlocks (loadImage (imageAtReset answers s) s)).screen sc = clearScreenCounters (s.screen sc) :=
      get_map _ _ _
    rw [cleared]
    exact ⟨Nat.zero_le _, Nat.zero_le _⟩
  rw [deskResetState_eq]
  exact (reset.requests (initialRequests (sourcesFrom (imageAtReset answers s)))).congr (by simp)

theorem Piece.videoBounded {s t : State} (h : Piece s t) (hs : VideoBounded s) : VideoBounded t := by
  cases h
  case powerOn image =>
    refine ⟨fun sc => ?_, Nat.zero_le _, Nat.zero_le _⟩
    rw [powerOn_screen]
    exact ⟨Nat.zero_le _, Nat.zero_le _⟩
  case deskReset answers => exact videoBounded_deskReset answers s
  case pending sc src present => exact hs.setScreen (hs.1 sc)
  case committed sc src absent => exact hs.setScreen (hs.1 sc)
  case blank sc pending => exact hs.setScreen (hs.1 sc)
  all_goals exact hs.congr (by simp)

/-! The ports' RESYNC counters. -/

theorem keptByPorts_resyncCount : KeptByPorts (fun _ p => p.resyncCount ≤ 65535) where
  step := by
    intro m p q change hp
    cases change
    case offer r => rwa [offerTo_frame]
    case departing lost outside reached => cases lost <;> exact hp
    case resyncEnded added link few two =>
      rw [noteReports_frame]
      exact bump_le _
    case uncounted => exact Nat.zero_le _
    all_goals exact hp
  departed := fun _ lost p _ hp => by cases lost <;> exact hp
  leds := fun _ _ _ hp => hp
  powerOn := fun _ _ => Nat.zero_le _
  deskReset := fun _ _ _ _ => Nat.zero_le _

/-- Settles O53: block by block, every list and counter stays within its figure. -/
theorem stepKeepsBounds : Obligations.StepKeepsBounds := by
  unfold Obligations.StepKeepsBounds
  intro s t hs h
  obtain ⟨keys, journal, counters, video, ports⟩ := bounded_iff.mp hs
  exact bounded_iff.mpr
    ⟨step_keeps_of_pieces (fun _ _ => Plain.keysBounded) (fun _ _ => Piece.keysBounded) keys h,
      step_keeps_of_pieces (fun _ _ => Plain.journalBounded) (fun _ _ => Piece.journalBounded) journal h,
      step_keeps_of_pieces (fun _ _ => Plain.countersBounded) (fun _ _ => Piece.countersBounded) counters h,
      step_keeps_of_pieces (fun _ _ => Plain.videoBounded) (fun _ _ => Piece.videoBounded) video h,
      ofPorts_step keptByPorts_resyncCount h ports⟩

end Sys2Proof.Safety
end

section
/-! PROOFS. The console LED notice (R21): the value last sent is the present one after every change, and the statement. -/

namespace Sys2Proof.Safety

open Sys2Proof.Machine

/-- The LED value stands while neither the kind of the recognizer's state, nor the focus, nor a port's LED state
changes. -/
theorem ledValue_congr {s t : State}
    (recognizer : (commandTime t.recognizer).isSome = (commandTime s.recognizer).isSome)
    (focus : t.focusUnit.focus = s.focusUnit.focus) (leds : ∀ k, (t.port k).leds = (s.port k).leds) :
    ledValue t = ledValue s := by
  unfold ledValue
  rw [focus]
  simp only [leds]
  cases ht : t.recognizer <;> cases hs : s.recognizer
  all_goals simp [ht, hs, commandTime] at recognizer ⊢

theorem ledsCurrent_sendLeds (s : State) : LedsCurrent (sendLeds s) := rfl

theorem ledsCurrent_refreshLeds (s : State) : LedsCurrent (refreshLeds s) := by
  unfold refreshLeds
  split
  · next current => exact current.symm
  · exact ledsCurrent_sendLeds s

theorem LedsCurrent.congr {s t : State} (hs : LedsCurrent s) (sent : t.console.ledSent = s.console.ledSent)
    (recognizer : (commandTime t.recognizer).isSome = (commandTime s.recognizer).isSome)
    (focus : t.focusUnit.focus = s.focusUnit.focus) (leds : ∀ k, (t.port k).leds = (s.port k).leds) :
    LedsCurrent t := by
  unfold LedsCurrent at *
  rw [sent, ledValue_congr recognizer focus leds, hs]

/-- With the console, the recognizer and the focus as they were, and no LED state changed. -/
theorem LedsCurrent.congr' {s t : State} (hs : LedsCurrent s) (console : t.console = s.console)
    (recognizer : t.recognizer = s.recognizer) (focus : t.focusUnit.focus = s.focusUnit.focus)
    (leds : ∀ k, (t.port k).leds = (s.port k).leds) : LedsCurrent t :=
  hs.congr (by rw [console]) (by rw [recognizer]) focus leds

/-- When the LED state of one port becomes another and the notice is refreshed for the focus (R107, R116). -/
theorem LedsCurrent.setLeds {s : State} (hs : LedsCurrent s) (k : Computer) (leds : Leds) :
    LedsCurrent
      (if s.focusUnit.focus = some k then refreshLeds (onPort k (fun p => { p with leds := leds }) s)
       else onPort k (fun p => { p with leds := leds }) s) := by
  split
  · exact ledsCurrent_refreshLeds _
  · next other =>
    have value : ledValue (onPort k (fun p => { p with leds := leds }) s) = ledValue s := by
      unfold ledValue
      rw [onPort_recognizer, onPort_focusUnit]
      cases focus : s.focusUnit.focus with
      | none => rfl
      | some f =>
        have : f ≠ k := fun e => other (e ▸ focus)
        simp only [port_onPort_of_ne _ _ _ _ this]
    unfold LedsCurrent at *
    rw [value]
    exact hs

/-- A change of a port that leaves its LED state. -/
theorem LedsCurrent.onPort {s : State} (hs : LedsCurrent s) (k : Computer) (f : Port → Port)
    (leds : (f (s.port k)).leds = (s.port k).leds) : LedsCurrent (onPort k f s) := by
  refine hs.congr' rfl rfl rfl fun j => ?_
  rw [port_onPort]
  split
  · next e => rw [leds, e]
  · rfl

theorem LedsCurrent.departed {s : State} (hs : LedsCurrent s) (k : Computer) (lost : Bool) :
    LedsCurrent (departed k lost s) := by
  have flushed : LedsCurrent (Machine.onPort k flushPort (Machine.onPort k (departing lost) s)) :=
    (hs.onPort k (departing lost) (by cases lost <;> rfl)).onPort k flushPort rfl
  have forgotten : LedsCurrent
      (leaveBroadcast k (forgetOwner k (Machine.onPort k flushPort (Machine.onPort k (departing lost) s)))) :=
    flushed.congr' rfl rfl rfl fun _ => rfl
  have cleared : LedsCurrent (clearLeds k
      (leaveBroadcast k (forgetOwner k (Machine.onPort k flushPort (Machine.onPort k (departing lost) s))))) :=
    forgotten.setLeds k ledsOff
  exact cleared.onPort k (fun p => { p with attempt := none }) rfl

theorem LedsCurrent.takeLedReport {s : State} (hs : LedsCurrent s) (k : Computer) (leds : Leds) :
    LedsCurrent (takeLedReport k leds s) := by
  unfold Machine.takeLedReport
  split
  · exact hs.setLeds k leds
  · exact hs

/-- What a plain change does to the LED states of the ports. -/
theorem Plain.port_leds {s t : State} (h : Plain s t) :
    (∃ k lost, t = Safety.departed k lost s) ∨ (∃ k leds, t = Machine.takeLedReport k leds s) ∨
      ∀ k, (t.port k).leds = (s.port k).leds := by
  by_cases left : ∃ k lost, t = Safety.departed k lost s
  · exact .inl left
  by_cases reported : ∃ k leds, t = Machine.takeLedReport k leds s
  · exact .inr (.inl reported)
  refine .inr (.inr fun k => ?_)
  rcases h.port k with changes | ⟨lost, -, eq⟩ | ⟨leds, eq⟩
  · exact changes.leds
  · exact absurd ⟨k, lost, eq⟩ left
  · exact absurd ⟨k, leds, eq⟩ reported

theorem LedsCurrent.returnToIdle {s : State} (hs : LedsCurrent s) : LedsCurrent (returnToIdle s) := by
  unfold Machine.returnToIdle
  split
  · exact ledsCurrent_refreshLeds _
  · next other =>
    refine hs.congr rfl ?_ rfl fun _ => rfl
    cases r : s.recognizer
    case command buffer expiry => exact absurd r (other buffer expiry)
    all_goals rfl

theorem Plain.ledsCurrent {s t : State} (h : Plain s t) (hs : LedsCurrent s) : LedsCurrent t := by
  rcases h.port_leds with ⟨k, lost, rfl⟩ | ⟨k, leds, rfl⟩ | leds
  · exact hs.departed k lost
  · exact hs.takeLedReport k leds
  cases h
  case slot i d => exact hs.congr rfl rfl rfl leds
  case consoleError => exact hs.congr rfl rfl rfl leds
  case recognizer r same => exact hs.congr rfl same rfl leds
  case enterCommand => exact ledsCurrent_refreshLeds _
  case returnToIdle => exact hs.returnToIdle
  case consoleReset => exact ledsCurrent_sendLeds _
  case leds => exact ledsCurrent_sendLeds _
  case lock locked => exact hs.congr' rfl rfl rfl leds
  case broadcast ks h => exact hs.congr' rfl rfl rfl leds
  case departed k lost queueable => exact hs.departed k lost
  case ledReport k x => exact hs.takeLedReport k x
  case clearCounters => exact hs.congr rfl rfl rfl leds
  all_goals exact hs.congr' (by simp) (by simp) (by simp) leds

theorem ledsCurrent_focusChange (s : State) (k : Computer) (cause : Cause) : LedsCurrent (focusChange k cause s) := by
  unfold Machine.focusChange
  refine (ledsCurrent_refreshLeds (placeForFocus cause k (clearMotion (adjustBroadcast s.focusUnit.focus k
    (carryModifiers s.focusUnit.focus k (focused k s)))))).congr' (by simp [focused]) (by simp [focused])
    (by simp [focused]) fun j => ?_
  exact (portSteps_wakeOnFocus (managed := true) k _ j).leds

theorem Piece.ledsCurrent {s t : State} (h : Piece s t) (hs : LedsCurrent s) : LedsCurrent t := by
  cases h
  case powerOn image =>
    have dark (k : Computer) : ((Machine.powerOn image s).port k).leds = ledsOff := by rw [powerOn_port]; rfl
    unfold LedsCurrent ledValue
    rw [powerOn_recognizer, powerOn_console]
    dsimp only
    split
    · rfl
    · exact (dark _).symm
  case deskReset answers => exact ledsCurrent_refreshLeds _
  case focus k cause => exact ledsCurrent_focusChange s k cause
  all_goals exact hs.congr' (by simp) (by simp) (by simp) fun k => by rw [port_of_ports (s := s) (by simp) k]

/-- Settles O57: the notice is refreshed wherever its value can change. -/
theorem stepKeepsLeds : Obligations.StepKeepsLeds := by
  unfold Obligations.StepKeepsLeds
  exact fun s t hs h => step_keeps_of_pieces (fun _ _ => Plain.ledsCurrent) (fun _ _ => Piece.ledsCurrent) hs h

end Sys2Proof.Safety
end

section
/-! PROOFS. The held-key table and the last snapshots (R7, R10 to R15): a change of the table makes afresh the snapshot of
every computer whose owned keys it changes, and the statement. -/

namespace Sys2Proof.Safety

open Sys2Proof.Machine

/-! What a snapshot depends on. -/

theorem modifiersOf_eq (es : List HeldKey) :
    modifiersOf es =
      (es.map HeldKey.usage).foldl (fun m u => if isModifier u then m ||| modifierBit u else m) 0#8 := by
  rw [List.foldl_map]
  rfl

theorem keysOf_eq (es : List HeldKey) :
    keysOf es = firstOccurrences ((es.map HeldKey.usage).filter (fun u => !isModifier u)) := by
  simp [keysOf, List.filter_map, Function.comp_def]

/-- A snapshot depends on the usages that the computer owns alone. -/
theorem snapshotFrom_congr {a b : List HeldKey} {k : Computer}
    (h : (ownedBy a k).map HeldKey.usage = (ownedBy b k).map HeldKey.usage) : snapshotFrom a k = snapshotFrom b k := by
  simp only [snapshotFrom, modifiersOf_eq, keysOf_eq, h]

/-- Entries changed one by one, none in its usage or in whether the computer owns it. -/
theorem snapshotFrom_map {held : List HeldKey} {f : HeldKey → HeldKey} {k : Computer}
    (usage : ∀ e, (f e).usage = e.usage) (owned : ∀ e ∈ held, inSet (f e).owners k = inSet e.owners k) :
    snapshotFrom (held.map f) k = snapshotFrom held k := by
  apply snapshotFrom_congr
  unfold ownedBy
  rw [List.filter_map, List.map_map]
  have same : held.filter ((fun e => inSet e.owners k) ∘ f) = held.filter (fun e => inSet e.owners k) :=
    List.filter_congr owned
  rw [same]
  exact List.map_congr_left fun e _ => usage e

theorem snapshotFrom_of_none_owned {held : List HeldKey} {k : Computer} (h : ∀ e ∈ held, inSet e.owners k = false) :
    snapshotFrom held k = emptySnapshot := by
  have : ownedBy held k = [] := List.filter_eq_nil_iff.mpr fun e he => by simp [h e he]
  rw [snapshotFrom, this]
  decide

/-! Distinct entries. -/

theorem HeldDistinct.map {held : List HeldKey} (h : HeldDistinct held) {f : HeldKey → HeldKey}
    (slot : ∀ e, (f e).slot = e.slot) (usage : ∀ e, (f e).usage = e.usage) : HeldDistinct (held.map f) :=
  List.pairwise_map.mpr (h.imp fun different => by simpa only [slot, usage] using different)

theorem HeldDistinct.append {held : List HeldKey} (h : HeldDistinct held) {e : HeldKey}
    (new : held.any (isHeldAs e.slot e.usage) = false) : HeldDistinct (held ++ [e]) := by
  refine List.pairwise_append.mpr ⟨h, List.pairwise_singleton _ _, fun a ha b hb same => ?_⟩
  obtain rfl := List.mem_singleton.mp hb
  have := List.any_eq_false.mp new a ha
  simp [isHeldAs, same] at this

/-- Two entries are one when their slot and usage are. -/
theorem HeldDistinct.same_entry {held : List HeldKey} (h : HeldDistinct held) {a b : HeldKey} (ha : a ∈ held)
    (hb : b ∈ held) (ne : a ≠ b) : ¬ (a.slot = b.slot ∧ a.usage = b.usage) := by
  have : Std.Symm (fun a b : HeldKey => ¬ (a.slot = b.slot ∧ a.usage = b.usage)) :=
    ⟨fun _ _ different same => different ⟨same.1.symm, same.2.symm⟩⟩
  exact List.Pairwise.forall h ha hb ne

/-! Changes of the table. -/

theorem SnapshotsCurrent.congr {s t : State} (hs : SnapshotsCurrent s) (held : t.keys.held = s.keys.held)
    (snapshots : t.keys.snapshots = s.keys.snapshots) : SnapshotsCurrent t :=
  ⟨by rw [held]; exact hs.distinct, fun k => by
    rw [State.snapshot, held, snapshots]
    exact hs.current k⟩

/-- The table changes and the snapshots of every computer whose own snapshot changes are made. -/
theorem SnapshotsCurrent.setHeld {s : State} (hs : SnapshotsCurrent s) {es : List HeldKey} {ks : ComputerSet}
    (distinct : HeldDistinct es)
    (others : ∀ k, inSet ks k = false → snapshotFrom es k = snapshotFrom s.keys.held k) :
    SnapshotsCurrent (refreshSnapshots ks (s.setHeld es)) := by
  refine ⟨by simpa using distinct, fun k => ?_⟩
  rw [refreshSnapshots_snapshots, refreshSnapshots_snapshot]
  split
  · rfl
  · next outside =>
    have := hs.current k
    rw [State.snapshot, ← others k (by simpa using outside)] at this
    exact this

theorem SnapshotsCurrent.press {s : State} (hs : SnapshotsCurrent s) {e : HeldKey}
    (new : s.keys.held.any (isHeldAs e.slot e.usage) = false) :
    SnapshotsCurrent (refreshSnapshots e.owners (s.setHeld (s.keys.held ++ [e]))) :=
  hs.setHeld (hs.distinct.append new) fun k outside => snapshotFrom_congr (by simp [ownedBy, outside])

theorem SnapshotsCurrent.releaseEntries {s : State} (hs : SnapshotsCurrent s) (p : HeldKey → Bool) :
    SnapshotsCurrent (releaseEntries p s) := by
  refine hs.setHeld (List.Pairwise.filter _ hs.distinct) fun k outside => snapshotFrom_congr ?_
  congr 1
  unfold ownedBy
  rw [List.filter_filter]
  refine List.filter_congr fun e he => ?_
  by_cases owned : inSet e.owners k = true
  · have : p e = false := by
      by_contra released
      have := inSet_ownersOf (s.keys.held.filter p) k |>.mpr
        ⟨e, List.mem_filter.mpr ⟨he, by simpa using released⟩, owned⟩
      rw [outside] at this
      cases this
    simp [owned, this]
  · simp [owned]

theorem SnapshotsCurrent.ageEntry {s : State} (hs : SnapshotsCurrent s) (slot : Slot) (usage : Byte) :
    SnapshotsCurrent (ageEntry slot usage s) := by
  unfold Machine.ageEntry
  repeat' split
  · next e found aged =>
    refine hs.setHeld (hs.distinct.map (fun x => by split <;> rfl) (fun x => by split <;> rfl)) fun k outside =>
      snapshotFrom_map (fun x => by split <;> rfl) fun x hx => ?_
    split
    · next same =>
      have he := List.mem_of_find?_eq_some found
      have at_e := List.find?_some found
      have : x = e := by
        by_contra ne
        have alike := hs.distinct.same_entry hx he ne
        simp_all [isHeldAs]
      rw [this, outside]
      exact inSet_zero k
    · rfl
  · exact hs
  · exact hs

theorem SnapshotsCurrent.emptyOwners {s : State} (hs : SnapshotsCurrent s) : SnapshotsCurrent (emptyOwners s) := by
  refine hs.setHeld (hs.distinct.map (fun _ => rfl) fun _ => rfl) fun k outside =>
    snapshotFrom_map (fun _ => rfl) fun e he => ?_
  rw [inSet_zero]
  by_contra owned
  have := (inSet_ownersOf s.keys.held k).mpr ⟨e, he, by simpa using Ne.symm owned⟩
  rw [outside] at this
  cases this

theorem SnapshotsCurrent.forgetOwner {s : State} (hs : SnapshotsCurrent s) (k : Computer) :
    SnapshotsCurrent (forgetOwner k s) := by
  refine ⟨hs.distinct.map (fun _ => rfl) fun _ => rfl, fun j => ?_⟩
  have set : (Machine.forgetOwner k s).keys.snapshots.get j =
      if j = k then emptySnapshot else s.keys.snapshots.get j := get_set _ _ _ _
  rw [set]
  split
  · next e =>
    refine (snapshotFrom_of_none_owned fun x hx => ?_).symm
    obtain ⟨y, -, rfl⟩ := List.mem_map.mp hx
    simp [e]
  · next e =>
    rw [hs.current j]
    exact (snapshotFrom_map (held := s.keys.held) (f := fun x => { x with owners := without x.owners k })
      (fun _ => rfl) fun x _ => by simp [e]).symm

/-- The modifier carry edits the entries of f, and makes the snapshots of f and k (R53). -/
theorem SnapshotsCurrent.carryModifiers {s : State} (hs : SnapshotsCurrent s) (previous : Option Computer) (k : Computer) :
    SnapshotsCurrent (carryModifiers previous k s) := by
  unfold Machine.carryModifiers
  repeat' split
  · exact hs
  · next f _ =>
    have slot (e : HeldKey) : (carryEntry s f k e).slot = e.slot := by unfold carryEntry; split <;> rfl
    have usage (e : HeldKey) : (carryEntry s f k e).usage = e.usage := by unfold carryEntry; split <;> rfl
    refine hs.setHeld (hs.distinct.map slot usage) fun j outside => snapshotFrom_map usage fun e _ => ?_
    have apart : j ≠ f ∧ j ≠ k := by simpa [inSet_single] using outside
    unfold carryEntry carriedOwners
    repeat' split
    · simp [apart]
    · simp [apart]
    · rfl
  · exact hs

/-! Every step. -/

theorem Plain.snapshotsCurrent {s t : State} (h : Plain s t) (hs : SnapshotsCurrent s) : SnapshotsCurrent t := by
  cases h
  case press slot usage claimed new room => exact hs.press new
  case overflow => exact hs.congr rfl rfl
  case release p => exact hs.releaseEntries p
  case ageing slot usage => exact hs.ageEntry slot usage
  case emptyOwners => exact hs.emptyOwners
  case buttons owners h => exact hs.congr rfl rfl
  case departed k lost queueable =>
    exact (hs.forgetOwner k).congr (by rw [departed_keys]) (by rw [departed_keys])
  case clearCounters => exact hs.congr rfl rfl
  all_goals exact hs.congr (by simp) (by simp)

theorem snapshotsCurrent_emptyKeys {s : State} (h : s.keys = emptyKeys) : SnapshotsCurrent s := by
  refine ⟨by rw [h]; exact .nil, fun k => ?_⟩
  rw [State.snapshot, h, snapshotFrom_of_none_owned (held := emptyKeys.held) nofun]
  exact get_replicate _ _

theorem Piece.snapshotsCurrent {s t : State} (h : Piece s t) (hs : SnapshotsCurrent s) : SnapshotsCurrent t := by
  cases h
  case powerOn image => exact snapshotsCurrent_emptyKeys (powerOn_keys image s)
  case deskReset answers => exact snapshotsCurrent_emptyKeys (deskResetState_keys answers s)
  case focus k cause =>
    have before : SnapshotsCurrent (focused k s) := hs.congr rfl rfl
    exact (before.carryModifiers s.focusUnit.focus k).congr (by rw [focusChange_keys]) (by rw [focusChange_keys])
  all_goals exact hs.congr (by simp) (by simp)

/-- Settles O56: every change of the held-key table makes the snapshots that it changes. -/
theorem stepKeepsSnapshots : Obligations.StepKeepsSnapshots := by
  unfold Obligations.StepKeepsSnapshots
  exact fun s t hs h =>
    step_keeps_of_pieces (fun _ _ => Plain.snapshotsCurrent) (fun _ _ => Piece.snapshotsCurrent) hs h

end Sys2Proof.Safety
end

section
/-! PROOFS. Owners, buttons and the broadcast set stay within queueable ports and one domain (R7, R8, R53, R54, R58, R107),
and the statement. -/

namespace Sys2Proof.Safety

open Sys2Proof.Machine

/-! Queueable ports stay so. -/

theorem PortSteps.queueable {m : Bool} {p q : Port} (h : PortSteps m p q) (hp : PresenceAgrees p)
    (linked : p.link.queueable = true) : q.link.queueable = true := by
  have both : PresenceAgrees q ∧ q.link.queueable = true := by
    induction h with
    | refl => exact ⟨hp, linked⟩
    | tail _ last ih =>
      obtain ⟨presence, before⟩ := ih
      refine ⟨keptByPorts_presence.step _ _ _ last presence, ?_⟩
      cases last
      case offer r => rwa [offerTo_frame]
      case arrival absent => rw [link_of_absent presence absent] at before; cases before
      case departing lost outside reached => rw [outside] at before; cases before
      case moved new old next => rcases next with h | h <;> rw [h] <;> rfl
      case resyncEnded added link few two => rwa [noteReports_frame]
      all_goals first | exact before | rfl
  exact both.2

/-- What a plain change does to the queueable ports. -/
theorem Plain.port_queueable {s t : State} (h : Plain s t) (presence : ∀ k, PresenceAgrees (s.port k)) :
    (∃ k lost, t = Safety.departed k lost s) ∨ ∀ k, s.queueable k = true → t.queueable k = true := by
  by_cases left : ∃ k lost, t = Safety.departed k lost s
  · exact .inl left
  refine .inr fun k linked => ?_
  rcases h.port k with changes | ⟨lost, -, eq⟩ | ⟨leds, eq⟩
  · exact changes.queueable (presence k) linked
  · exact absurd ⟨k, lost, eq⟩ left
  · rw [eq, State.queueable, takeLedReport_port]
    split <;> exact linked

theorem queueable_of_ports {s t : State} (h : t.ports = s.ports) (k : Computer) (linked : s.queueable k = true) :
    t.queueable k = true := by
  rw [State.queueable, port_of_ports h k]
  exact linked

/-! One entry. -/

/-- The owners of one entry are queueable and of one domain, and a suppressed or stale entry has none. -/
structure EntryFenced (s : State) (e : HeldKey) : Prop where
  queueable : ∀ k, inSet e.owners k = true → s.queueable k = true
  suppressed : e.suppressed = true ∨ e.stale = true → e.owners = 0#8
  oneDomain : ∀ j k, inSet e.owners j = true → inSet e.owners k = true → s.domainOf j = s.domainOf k

/-- An entry with no owner. -/
theorem entryFenced_of_none {s : State} {e : HeldKey} (h : e.owners = 0#8) : EntryFenced s e :=
  ⟨fun k => by simp [h], fun _ => h, fun j k => by simp [h]⟩

theorem EntryFenced.without {s : State} {e : HeldKey} (h : EntryFenced s e) (k : Computer) :
    EntryFenced s { e with owners := without e.owners k } := by
  refine ⟨fun j hj => h.queueable j (by simp_all), fun quiet => ?_, fun i j hi hj => h.oneDomain i j (by simp_all) (by simp_all)⟩
  have := h.suppressed quiet
  rw [this, without_of_not _ _ (inSet_zero k)]

theorem domainOf_congr {s t : State} (settings : t.settings = s.settings) (k : Computer) : t.domainOf k = s.domainOf k := by
  simp [State.domainOf, settings]

theorem EntryFenced.congr {s t : State} {e : HeldKey} (h : EntryFenced s e) (settings : t.settings = s.settings)
    (queueable : ∀ k, inSet e.owners k = true → s.queueable k = true → t.queueable k = true) : EntryFenced t e :=
  ⟨fun k hk => queueable k hk (h.queueable k hk), h.suppressed,
    fun j k hj hk => by simpa only [domainOf_congr settings] using h.oneDomain j k hj hk⟩

/-! The state but for the presence of its ports. -/

/-- Entries, buttons and the broadcast set are fenced. -/
structure Fenced (s : State) : Prop where
  entries : ∀ e ∈ s.keys.held, EntryFenced s e
  buttons : ∀ b k, s.keys.buttons.get b = some k → s.queueable k = true
  broadcast : BroadcastFenced s

theorem ownersFenced_iff {s : State} : OwnersFenced s ↔ OfPorts (fun _ p => PresenceAgrees p) s ∧ Fenced s := by
  constructor
  · exact fun h =>
      ⟨h.presence, fun e he => ⟨h.queueable e he, h.suppressed e he, h.oneDomain e he⟩, h.buttons, h.broadcast⟩
  · rintro ⟨presence, entries, buttons, broadcast⟩
    exact ⟨presence, fun e he => (entries e he).queueable, fun e he => (entries e he).suppressed,
      fun e he => (entries e he).oneDomain, buttons, broadcast⟩

theorem BroadcastFenced.congr {s t : State} (hs : BroadcastFenced s) (settings : t.settings = s.settings)
    (focus : t.focusUnit.focus = s.focusUnit.focus) (broadcast : t.focusUnit.broadcast = s.focusUnit.broadcast)
    (queueable : ∀ k, s.queueable k = true → t.queueable k = true) : BroadcastFenced t := by
  have domain : t.domainOf = s.domainOf := funext (domainOf_congr settings)
  intro k hk
  rw [broadcast] at hk
  obtain ⟨other, inside, linked⟩ := hs k hk
  rw [focus, domain]
  exact ⟨other, inside, queueable k linked⟩

/-- The held-key table becomes one of fenced entries, and nothing else that the fence speaks of changes. -/
theorem Fenced.withHeld {s t : State} (hs : Fenced s) (settings : t.settings = s.settings)
    (focus : t.focusUnit.focus = s.focusUnit.focus) (broadcast : t.focusUnit.broadcast = s.focusUnit.broadcast)
    (buttons : t.keys.buttons = s.keys.buttons) (queueable : ∀ k, s.queueable k = true → t.queueable k = true)
    (held : ∀ e ∈ t.keys.held, EntryFenced s e) : Fenced t :=
  ⟨fun e he => (held e he).congr settings fun k _ => queueable k,
    fun b k hb => queueable k (hs.buttons b k (by rwa [buttons] at hb)),
    hs.broadcast.congr settings focus broadcast queueable⟩

theorem Fenced.congr {s t : State} (hs : Fenced s) (settings : t.settings = s.settings)
    (focus : t.focusUnit.focus = s.focusUnit.focus) (broadcast : t.focusUnit.broadcast = s.focusUnit.broadcast)
    (keys : t.keys = s.keys) (queueable : ∀ k, s.queueable k = true → t.queueable k = true) : Fenced t :=
  hs.withHeld settings focus broadcast (by rw [keys]) queueable (by rw [keys]; exact hs.entries)

/-- A new press goes to the focus computer and the broadcast set, as far as their ports are queueable (R8). -/
theorem Fenced.newHeldKey {s : State} (hs : Fenced s) (slot : Slot) (usage : Byte) (claimed : Bool) :
    EntryFenced s (newHeldKey s slot usage claimed) := by
  by_cases quiet : (claimed || s.focusUnit.locked) = true
  · exact entryFenced_of_none (by simp [Machine.newHeldKey, pressOwners, quiet])
  cases focus : s.focusUnit.focus with
  | none => exact entryFenced_of_none (by simp [Machine.newHeldKey, pressOwners, focus])
  | some f =>
    have owners : (Machine.newHeldKey s slot usage claimed).owners = including s.focusUnit.broadcast f &&& queueableSet s := by
      simp [Machine.newHeldKey, pressOwners, focus, quiet]
    have owned {k : Computer} (hk : inSet (Machine.newHeldKey s slot usage claimed).owners k = true) :
        s.domainOf k = s.domainOf f ∧ s.queueable k = true := by
      simp only [owners, inSet_and, inSet_including, queueableSet, inSet_setOf, Bool.and_eq_true, Bool.or_eq_true,
        decide_eq_true_eq] at hk
      obtain ⟨member | rfl, linked⟩ := hk
      · have domain := (hs.broadcast k member).2.1
        rw [focus] at domain
        exact ⟨(Option.some.inj domain).symm, linked⟩
      · exact ⟨rfl, linked⟩
    exact ⟨fun k hk => (owned hk).2, fun h => absurd (by simpa [Machine.newHeldKey] using h) quiet,
      fun j k hj hk => (owned hj).1.trans (owned hk).1.symm⟩

theorem Fenced.ageEntry {s : State} (hs : Fenced s) (slot : Slot) (usage : Byte) : ∀ e ∈ (ageEntry slot usage s).keys.held,
    EntryFenced s e := by
  unfold Machine.ageEntry
  repeat' split
  · intro e he
    rw [refreshSnapshots_held, State.setHeld_held] at he
    obtain ⟨x, hx, rfl⟩ := List.mem_map.mp he
    split
    · exact entryFenced_of_none rfl
    · exact hs.entries x hx
  · exact hs.entries
  · exact hs.entries

theorem Fenced.broadcastTo {s : State} (hs : Fenced s) {ks : ComputerSet}
    (h : ∀ k, inSet ks k = true → inSet s.focusUnit.broadcast k = true ∨
      (s.focusUnit.focus ≠ some k ∧ inFocusDomain s k = true ∧ s.queueable k = true)) :
    Fenced (setBroadcast ks s) := by
  refine ⟨fun e he => (hs.entries e he).congr rfl fun _ _ linked => linked, hs.buttons, fun k hk => ?_⟩
  rcases h k hk with member | ⟨other, domain, linked⟩
  · exact hs.broadcast k member
  · exact ⟨other, of_decide_eq_true domain, linked⟩

theorem Fenced.departed {s : State} (hs : Fenced s) (k : Computer) (lost : Bool) : Fenced (Safety.departed k lost s) := by
  have settings := departed_settings k lost s
  have queueable (j : Computer) (ne : j ≠ k) (linked : s.queueable j = true) : (Safety.departed k lost s).queueable j = true := by
    rw [State.queueable, departed_port, if_neg ne]
    exact linked
  refine ⟨fun e he => ?_, fun b j hb => ?_, fun j hj => ?_⟩
  · rw [departed_keys] at he
    obtain ⟨x, hx, rfl⟩ := List.mem_map.mp he
    refine ((hs.entries x hx).without k).congr settings fun j hj => queueable j ?_
    simp at hj
    exact hj.2
  · rw [departed_keys] at hb
    have hb : (s.keys.buttons.map (fun o => if o = some k then none else o)).get b = some j := hb
    rw [get_map] at hb
    split at hb
    · cases hb
    · next other => exact queueable j (fun e => other (e ▸ hb)) (hs.buttons b j hb)
  · rw [departed_focusUnit] at hj ⊢
    have hj : inSet s.focusUnit.broadcast j = true ∧ j ≠ k := by simpa using hj
    obtain ⟨other, inside, linked⟩ := hs.broadcast j hj.1
    have domain : (Safety.departed k lost s).domainOf = s.domainOf := funext (domainOf_congr settings)
    rw [domain]
    exact ⟨other, inside, queueable j hj.2 linked⟩

theorem Plain.fenced {s t : State} (h : Plain s t) (presence : ∀ k, PresenceAgrees (s.port k)) (hs : Fenced s) :
    Fenced t := by
  rcases h.port_queueable presence with ⟨k, lost, rfl⟩ | queueable
  · exact hs.departed k lost
  cases h
  case press slot usage claimed new room =>
    refine hs.withHeld (by simp) (by simp) (by simp) (by simp) queueable fun e he => ?_
    rw [refreshSnapshots_held, State.setHeld_held] at he
    rcases List.mem_append.mp he with he | he
    · exact hs.entries e he
    · obtain rfl := List.mem_singleton.mp he
      exact hs.newHeldKey slot usage claimed
  case overflow => exact hs.withHeld rfl rfl rfl rfl queueable hs.entries
  case release p =>
    refine hs.withHeld (by simp) (by simp) (by simp) (by simp) queueable fun e he => ?_
    rw [releaseEntries_held] at he
    exact hs.entries e (List.mem_filter.mp he).1
  case ageing slot usage =>
    exact hs.withHeld (by simp) (by simp) (by simp) (by simp) queueable (hs.ageEntry slot usage)
  case emptyOwners =>
    refine hs.withHeld (by simp) (by simp) (by simp) (by simp [Machine.emptyOwners]) queueable fun e he => ?_
    rw [Machine.emptyOwners, refreshSnapshots_held, State.setHeld_held] at he
    obtain ⟨x, -, rfl⟩ := List.mem_map.mp he
    exact entryFenced_of_none rfl
  case buttons owners h =>
    refine ⟨fun e he => (hs.entries e he).congr rfl fun k _ => queueable k, fun b k hb => ?_,
      hs.broadcast.congr rfl rfl rfl queueable⟩
    rcases h b k hb with before | linked
    · exact hs.buttons b k before
    · exact linked
  case lock locked => exact hs.congr rfl rfl rfl rfl queueable
  case broadcast ks h => exact hs.broadcastTo h
  case departed k lost linked => exact hs.departed k lost
  case clearCounters => exact hs.withHeld rfl rfl rfl rfl queueable hs.entries
  all_goals exact hs.congr (by simp) (by simp) (by simp) (by simp) queueable

/-! The focus change (R53, R54). -/

theorem focusChange_focusUnit (k : Computer) (cause : Cause) (s : State) :
    (focusChange k cause s).focusUnit =
      { s.focusUnit with
        focus := some k
        broadcast :=
          if s.focusUnit.focus.map s.domainOf = some (s.domainOf k) then without s.focusUnit.broadcast k else 0#8 } := by
  have domain : (carryModifiers s.focusUnit.focus k (focused k s)).domainOf = s.domainOf :=
    funext (domainOf_congr (by simp [focused]))
  have unit : (carryModifiers s.focusUnit.focus k (focused k s)).focusUnit = { s.focusUnit with focus := some k } := by
    simp [focused]
  have adjusted : (focusChange k cause s).focusUnit =
      (adjustBroadcast s.focusUnit.focus k (carryModifiers s.focusUnit.focus k (focused k s))).focusUnit := by
    simp [focusChange, focused]
  rw [adjusted, adjustBroadcast, domain, unit]

theorem EntryFenced.carry {s : State} {e : HeldKey} (h : EntryFenced s e) (f k : Computer) :
    EntryFenced s (carryEntry s f k e) := by
  unfold carryEntry
  split
  · next carried =>
    have owned : inSet e.owners f = true := by
      simp only [isCarried, Bool.and_eq_true] at carried
      exact carried.2
    unfold carriedOwners
    split
    · next goes =>
      obtain ⟨domain, linked⟩ := goes
      have member {j : Computer} (hj : inSet (including (Machine.without e.owners f) k) j = true) :
          s.queueable j = true ∧ s.domainOf j = s.domainOf f := by
        simp only [inSet_including, inSet_without, Bool.or_eq_true, Bool.and_eq_true, decide_eq_true_eq] at hj
        rcases hj with ⟨hj, -⟩ | rfl
        · exact ⟨h.queueable j hj, h.oneDomain j f hj owned⟩
        · exact ⟨linked, domain⟩
      refine ⟨fun j hj => (member hj).1, fun quiet => ?_, fun i j hi hj => (member hi).2.trans (member hj).2.symm⟩
      rw [h.suppressed quiet, inSet_zero] at owned
      cases owned
    · exact h.without f
  · exact h

theorem Fenced.focusChange {s : State} (hs : Fenced s) (presence : ∀ k, PresenceAgrees (s.port k)) (k : Computer)
    (cause : Cause) : Fenced (focusChange k cause s) := by
  have queueable (j : Computer) (linked : s.queueable j = true) : (Machine.focusChange k cause s).queueable j = true :=
    (portSteps_focusChange (managed := true) k cause s j).queueable (presence j) linked
  have settings : (Machine.focusChange k cause s).settings = s.settings := by simp
  refine ⟨fun e he => ?_, fun b j hb => ?_, fun j hj => ?_⟩
  · rw [focusChange_keys, carryModifiers_held] at he
    refine EntryFenced.congr ?_ settings fun j _ => queueable j
    split at he
    · next f _ =>
      split at he
      · obtain ⟨x, hx, rfl⟩ := List.mem_map.mp he
        exact (hs.entries x hx).carry f k
      · exact hs.entries e he
    · exact hs.entries e he
  · have buttons : (Machine.focusChange k cause s).keys.buttons = s.keys.buttons := by simp
    rw [buttons] at hb
    exact queueable j (hs.buttons b j hb)
  · have domain : (Machine.focusChange k cause s).domainOf = s.domainOf := funext (domainOf_congr settings)
    rw [focusChange_focusUnit] at hj ⊢
    rw [domain]
    dsimp only at hj ⊢
    split at hj
    · next near =>
      have hj : inSet s.focusUnit.broadcast j = true ∧ j ≠ k := by simpa using hj
      obtain ⟨-, inside, linked⟩ := hs.broadcast j hj.1
      exact ⟨fun e => hj.2 (Option.some.inj e).symm, near.symm.trans inside, queueable j linked⟩
    · rw [inSet_zero] at hj
      cases hj

theorem fenced_start {s : State} (keys : s.keys = emptyKeys) (broadcast : s.focusUnit.broadcast = 0#8) : Fenced s := by
  refine ⟨by rw [keys]; exact nofun, fun b k hb => ?_, fun k hk => ?_⟩
  · rw [keys] at hb
    have : emptyKeys.buttons.get b = none := get_replicate _ _
    rw [this] at hb
    cases hb
  · rw [broadcast, inSet_zero] at hk
    cases hk

theorem Piece.fenced {s t : State} (h : Piece s t) (presence : ∀ k, PresenceAgrees (s.port k)) (hs : Fenced s) :
    Fenced t := by
  cases h
  case powerOn image => exact fenced_start (powerOn_keys image s) rfl
  case deskReset answers =>
    exact fenced_start (deskResetState_keys answers s) (by rw [deskResetState_focusUnit]; rfl)
  case focus k cause => exact hs.focusChange presence k cause
  all_goals exact hs.congr (by simp) (by simp) (by simp) (by simp) (queueable_of_ports (by simp))

/-- Settles O55: the fence and the presence of every port are kept together. -/
theorem stepKeepsDomainsApart : Obligations.StepKeepsDomainsApart := by
  unfold Obligations.StepKeepsDomainsApart
  intro s t hs h
  rw [ownersFenced_iff] at *
  exact step_keeps_of_pieces (P := fun s => OfPorts (fun _ p => PresenceAgrees p) s ∧ Fenced s)
    (fun _ _ change hs => ⟨change.ofPorts keptByPorts_presence hs.1, change.fenced hs.1 hs.2⟩)
    (fun _ _ change hs => ⟨change.ofPorts keptByPorts_presence hs.1, change.fenced hs.1 hs.2⟩) hs h

end Sys2Proof.Safety
end

section
/-! PROOFS. Where the pointer stands (R66, R69, R72, R84): the two properties of O58, each kept with or without the other.
Every change that moves the pointer, or that changes what it stands on, is followed with both at once. -/

namespace Sys2Proof.Safety

open Sys2Proof.Machine

/-- The two properties of the pointer, each as far as it is asked for. -/
structure Good (onFocus within : Prop) (s : State) : Prop where
  onFocus : onFocus → PointerOnFocus s
  within : within → PointerInside s

/-- What a state must have for the pointer to be placed on it anew. -/
structure Free (onFocus within : Prop) (s : State) : Prop where
  headed : onFocus → s.pointer.headless = false
  layout : within → layoutFault s.tables.committed = none

/-! Screens that stand. -/

theorem isFocusScreen_iff {s : State} {sc : Screen} :
    isFocusScreen s sc = true ↔ ∃ f, s.focusUnit.focus = some f ∧ enterableOf s f sc = true := by
  unfold isFocusScreen
  cases s.focusUnit.focus <;> simp

theorem enterableOf_iff {s : State} {k : Computer} {sc : Screen} :
    enterableOf s k sc = true ↔
      (s.placement sc).enabled = true ∧ (s.screen sc).sink.isSome = true ∧ screenComputer s sc = some k := by
  unfold enterableOf enterable
  simp only [Bool.and_eq_true, decide_eq_true_eq]
  constructor
  · rintro ⟨⟨⟨enabled, sink⟩, -⟩, computer⟩
    exact ⟨enabled, sink, computer⟩
  · rintro ⟨enabled, sink, computer⟩
    exact ⟨⟨⟨enabled, sink⟩, by simp [computer]⟩, computer⟩

theorem enterableOf_of_enterable {s : State} {c : Computer} {sc : Screen} (h : enterable s sc = true)
    (computer : screenComputer s sc = some c) : enterableOf s c sc = true := by
  simp [enterableOf, h, computer]

/-- One screen stands from one state to another: what made it enterable for a computer still does. -/
structure ScreenStands (s t : State) (sc : Screen) : Prop where
  placement : t.placement sc = s.placement sc
  sink : (s.screen sc).sink.isSome = true → (t.screen sc).sink.isSome = true
  computer : screenComputer t sc = screenComputer s sc

theorem ScreenStands.enterableOf {s t : State} {sc : Screen} (h : ScreenStands s t sc) {k : Computer}
    (hs : enterableOf s k sc = true) : enterableOf t k sc = true := by
  rw [enterableOf_iff] at *
  obtain ⟨enabled, sink, computer⟩ := hs
  exact ⟨by rwa [h.placement], h.sink sink, by rwa [h.computer]⟩

theorem ScreenStands.isFocusScreen {s t : State} {sc : Screen} (h : ScreenStands s t sc)
    (focus : t.focusUnit.focus = s.focusUnit.focus) (hs : isFocusScreen s sc = true) : isFocusScreen t sc = true := by
  rw [isFocusScreen_iff] at *
  obtain ⟨f, at_f, enters⟩ := hs
  exact ⟨f, by rw [focus, at_f], h.enterableOf enters⟩

/-- A screen stands when the layout, the windows and its own intended source do, and it loses no sink. -/
theorem screenStands_of {s t : State} {sc : Screen} (committed : t.tables.committed = s.tables.committed)
    (windows : t.tables.windows = s.tables.windows)
    (intended : intendedOf (t.screen sc) = intendedOf (s.screen sc))
    (sink : (s.screen sc).sink.isSome = true → (t.screen sc).sink.isSome = true) : ScreenStands s t sc := by
  refine ⟨by rw [State.placement, committed]; rfl, sink, ?_⟩
  unfold screenComputer computerOf State.window
  rw [intended, windows]

theorem screenStands_of_screens {s t : State} (committed : t.tables.committed = s.tables.committed)
    (windows : t.tables.windows = s.tables.windows) (screens : t.video.screens = s.video.screens) (sc : Screen) :
    ScreenStands s t sc := by
  have same : t.screen sc = s.screen sc := by simp [State.screen, screens]
  exact screenStands_of committed windows (by rw [same]) (by rw [same]; exact id)

/-! Placements and places. -/

/-- In a layout that passes the checks every enabled screen has a size (R66). -/
theorem size_of_layout {layout : Vector Placement 8} (h : layoutFault layout = none) {sc : Screen}
    (enabled : (layout.get sc).enabled = true) : 64 ≤ (layout.get sc).w ∧ 64 ≤ (layout.get sc).h := by
  have none_at := List.findSome?_eq_none_iff.mp h sc (mem_eight sc)
  have fault : screenFault layout sc = none := Option.map_eq_none_iff.mp none_at
  unfold screenFault at fault
  dsimp only at fault
  split at fault
  · next off => exact absurd enabled off
  · split at fault
    · cases fault
    · next allowed =>
      have : sizeAllowed (layout.get sc) = true := by
        by_contra small
        exact allowed fun both => small both.1
      simp only [sizeAllowed, Bool.and_eq_true, decide_eq_true_eq] at this
      exact ⟨this.1.1.1, this.1.2⟩

theorem inside_centreOf {sc : Screen} {box : Placement} (enabled : box.enabled = true) (w : 64 ≤ box.w) (h : 64 ≤ box.h) :
    inside box (centreOf sc box) := by
  refine ⟨enabled, ?_, ?_, ?_, ?_⟩ <;> simp only [centreOf] <;> omega

theorem layoutFault_tablesFrom (image : Option (List Byte)) : layoutFault (tablesFrom image).committed = none := by
  have default : layoutFault defaultLayout = none := by decide
  unfold tablesFrom
  cases validTables image with
  | none => exact default
  | some b =>
    change layoutFault (loadLayout b) = none
    unfold loadLayout
    dsimp only
    split
    · next passes => exact Option.isNone_iff_eq_none.mp passes
    · exact default

/-! The pointer stays where it is. -/

section
variable {onFocus within : Prop}

/-- The pointer stays and so does every screen that it can stand on. -/
theorem Good.stands {s t : State} (hs : Good onFocus within s) (committed : t.tables.committed = s.tables.committed)
    (focus : t.focusUnit.focus = s.focusUnit.focus) (place : t.pointer.place = s.pointer.place)
    (headless : t.pointer.headless = s.pointer.headless) (screens : ∀ sc, ScreenStands s t sc) : Good onFocus within t := by
  refine ⟨fun asked => ?_, fun asked => ?_⟩
  · obtain ⟨onScreen, off⟩ := hs.onFocus asked
    rw [PointerOnFocus, place, headless]
    exact ⟨fun p hp => (screens _).isFocusScreen focus (onScreen p hp), off⟩
  · obtain ⟨layout, insides⟩ := hs.within asked
    rw [PointerInside, place, committed]
    exact ⟨layout, fun p hp => (screens _).placement ▸ insides p hp⟩

/-- Nothing that the pointer's properties speak of changes. -/
theorem Good.congr {s t : State} (hs : Good onFocus within s) (committed : t.tables.committed = s.tables.committed)
    (windows : t.tables.windows = s.tables.windows) (screens : t.video.screens = s.video.screens)
    (focus : t.focusUnit.focus = s.focusUnit.focus) (place : t.pointer.place = s.pointer.place)
    (headless : t.pointer.headless = s.pointer.headless) : Good onFocus within t :=
  hs.stands committed focus place headless (screenStands_of_screens committed windows screens)

/-- A pointer that is ON may be placed anew. -/
theorem Good.free {s : State} (hs : Good onFocus within s) {p : Place} (place : s.pointer.place = some p) :
    Free onFocus within s := by
  refine ⟨fun asked => ?_, fun asked => (hs.within asked).1⟩
  by_contra headless
  have := (hs.onFocus asked).2 (by simpa using headless)
  rw [place] at this
  cases this

/-! The pointer is placed. -/

/-- The pointer goes OFF. -/
theorem good_off {s t : State} (h : within → layoutFault s.tables.committed = none) (place : t.pointer.place = none)
    (committed : t.tables.committed = s.tables.committed) : Good onFocus within t := by
  refine ⟨fun _ => ⟨by simp [place], fun _ => place⟩, fun asked => ⟨by rw [committed]; exact h asked, by simp [place]⟩⟩

/-- The pointer stands at place p of an enterable screen of the focus computer, not headless. -/
theorem good_placed {t : State} {p : Place} (place : t.pointer.place = some p)
    (headed : onFocus → t.pointer.headless = false) (screen : onFocus → isFocusScreen t p.screen = true)
    (layout : within → layoutFault t.tables.committed = none) (at_p : within → inside (t.placement p.screen) p) :
    Good onFocus within t := by
  refine ⟨fun asked => ⟨fun q hq => ?_, fun headless => ?_⟩, fun asked => ⟨layout asked, fun q hq => ?_⟩⟩
  · rw [Option.mem_def, place, Option.some.injEq] at hq
    exact hq ▸ screen asked
  · rw [headed asked] at headless
    cases headless
  · rw [Option.mem_def, place, Option.some.injEq] at hq
    exact hq ▸ at_p asked

/-- The centre of an enterable screen lies inside it. -/
theorem inside_centre {s : State} (layout : layoutFault s.tables.committed = none) {k : Computer} {sc : Screen}
    (enters : enterableOf s k sc = true) : inside (s.placement sc) (centreOf sc (s.placement sc)) := by
  have enabled := (enterableOf_iff.mp enters).1
  obtain ⟨w, h⟩ := size_of_layout layout enabled
  exact inside_centreOf enabled w h

theorem Free.placeAtCentre {s : State} (hs : Free onFocus within s) {f : Computer} {sc : Screen}
    (focus : s.focusUnit.focus = some f) (enters : enterableOf s f sc = true) :
    Good onFocus within (placeAtCentre sc s) :=
  good_placed rfl hs.headed (fun _ => isFocusScreen_iff.mpr ⟨f, focus, enters⟩) hs.layout
    fun asked => inside_centre (hs.layout asked) enters

/-- A warp places the pointer on the focus computer, or takes it off-plane (R83). -/
theorem good_warp {s : State} {k : Computer} (focus : s.focusUnit.focus = some k)
    (layout : within → layoutFault s.tables.committed = none) : Good onFocus within (warp k s) := by
  unfold warp
  split
  · next sc lowest =>
    have enters : enterableOf s k sc = true := (find?_eight.mp lowest).1
    exact good_placed rfl (fun _ => rfl) (fun _ => isFocusScreen_iff.mpr ⟨k, focus, enters⟩) layout
      fun asked => inside_centre (layout asked) enters
  · exact good_off layout rfl rfl

/-! The focus change. -/

/-- Before its placement a focus change leaves every screen as it was. -/
theorem focusChange_eq (k : Computer) (cause : Cause) (s : State) :
    ∃ u, focusChange k cause s = wakeOnFocus k (record (.focus s.focusUnit.focus k cause)
        (refreshLeds (placeForFocus cause k u))) ∧
      u.focusUnit.focus = some k ∧ u.tables = s.tables ∧ u.video = s.video ∧ u.pointer.place = s.pointer.place := by
  refine ⟨_, rfl, ?_, ?_, ?_, ?_⟩
  · simp [adjustBroadcast]
  · simp
  · simp
  · simp [clearMotion]

/-- A focus change of an action or a preset warps the pointer. -/
theorem good_focusChange {s : State} (layout : within → layoutFault s.tables.committed = none) (k : Computer)
    {cause : Cause} (h : cause ≠ .glide ∧ cause ≠ .relocate) : Good onFocus within (focusChange k cause s) := by
  obtain ⟨u, eq, focus, tables, -⟩ := focusChange_eq k cause s
  have warped : Good onFocus within (placeForFocus cause k u) := by
    have := good_warp (onFocus := onFocus) (within := within) focus (by rwa [tables])
    cases cause
    case glide => exact absurd rfl h.1
    case relocate => exact absurd rfl h.2
    all_goals exact this
  rw [eq]
  exact warped.congr (by simp) (by simp) (by simp) (by simp) (by simp) (by simp)

/-- A focus change of the glide unit keeps the place given on the new focus computer's screen. -/
theorem good_focusChange_kept {s : State} {p : Place} {c : Computer} (place : s.pointer.place = some p)
    (enters : enterableOf s c p.screen = true) (layout : within → layoutFault s.tables.committed = none)
    (at_p : within → inside (s.placement p.screen) p) {cause : Cause} (h : cause = .glide ∨ cause = .relocate) :
    Good onFocus within (focusChange c cause s) := by
  obtain ⟨u, eq, focus, tables, video, stays⟩ := focusChange_eq c cause s
  have stands := screenStands_of_screens (s := s) (t := u) (by rw [tables]) (by rw [tables]) (by rw [video])
  have kept : placeForFocus cause c u = clearHeadless u := by rcases h with rfl | rfl <;> rfl
  have placed : Good onFocus within (placeForFocus cause c u) := by
    rw [kept]
    exact good_placed (t := clearHeadless u) (stays.trans place) (fun _ => rfl)
      (fun _ => isFocusScreen_iff.mpr ⟨c, focus, (stands _).enterableOf enters⟩)
      (fun asked => (congrArg (fun x => layoutFault x.committed) tables).trans (layout asked))
      (fun asked => by
        have : u.placement p.screen = s.placement p.screen := (stands _).placement
        exact this ▸ at_p asked)
  rw [eq]
  exact placed.congr (by simp) (by simp) (by simp) (by simp) (by simp) (by simp)

/-! Relocation and the re-check. -/

theorem good_relocateTo {s : State} (layout : within → layoutFault s.tables.committed = none) {sc : Screen}
    {c : Computer} (computer : screenComputer s sc = some c) (enters : enterable s sc = true) :
    Good onFocus within (relocateTo sc s) := by
  have enters := enterableOf_of_enterable enters computer
  unfold relocateTo
  rw [computer]
  exact good_focusChange_kept (s := placeAtCentre sc s) rfl enters layout
    (fun asked => inside_centre (layout asked) enters) (.inr rfl)

/-- The screen near the focus is an enterable one with a computer. -/
theorem lowestScreenNear_some {s : State} {f : Computer} {sc : Screen} (h : lowestScreenNear s f = some sc) :
    enterable s sc = true ∧ ∃ c, screenComputer s sc = some c := by
  have found := (find?_eight.mp h).1
  simp only [Bool.and_eq_true] at found
  obtain ⟨enters, near⟩ := found
  refine ⟨enters, ?_⟩
  unfold screenInDomain at near
  split at near
  · next c computer => exact ⟨c, computer⟩
  · cases near

theorem Free.relocate {s : State} (hs : Free onFocus within s) : Good onFocus within (relocate s) := by
  unfold Machine.relocate
  repeat' split
  · exact good_off hs.layout rfl rfl
  · next f focus _ sc lowest => exact hs.placeAtCentre focus (find?_eight.mp lowest).1
  · next f _ sc near =>
    obtain ⟨enters, c, computer⟩ := lowestScreenNear_some near
    exact good_relocateTo hs.layout computer enters
  · exact good_off hs.layout rfl rfl

/-- The re-check after a change that concerns the screens of a test: the others stand as they did (R84). -/
theorem good_recheck {u : State} {concerned : Screen → Bool} (headless : onFocus → u.pointer.headless = true →
      u.pointer.place = none) (within_u : within → PointerInside u)
    (others : onFocus → ∀ p ∈ u.pointer.place, concerned p.screen = false → isFocusScreen u p.screen = true) :
    Good onFocus within (recheckPointer concerned u) := by
  unfold recheckPointer
  split
  · next p place =>
    split
    · refine Free.relocate ⟨fun asked => ?_, fun asked => (within_u asked).1⟩
      by_contra h
      have := headless asked (by simpa using h)
      rw [place] at this
      cases this
    · next stays =>
      refine ⟨fun asked => ⟨fun q hq => ?_, headless asked⟩, within_u⟩
      by_cases c : concerned q.screen = true
      · rw [Option.mem_def, place, Option.some.injEq] at hq
        subst hq
        by_contra off
        exact stays ⟨c, off⟩
      · exact others asked q hq (by simpa using c)
  · next place => exact ⟨fun asked => ⟨by simp [place], fun _ => place⟩, within_u⟩

/-- A re-check of a pointer that stands well. -/
theorem Good.recheck {u : State} (hu : Good onFocus within u) (concerned : Screen → Bool) :
    Good onFocus within (recheckPointer concerned u) :=
  good_recheck (fun asked => (hu.onFocus asked).2) hu.within fun asked p hp _ => (hu.onFocus asked).1 p hp

/-- A change that leaves the pointer, the layout and every screen but those of a test, and the re-check of those. -/
theorem Good.recheckAfter {s u : State} (hs : Good onFocus within s) {concerned : Screen → Bool}
    (pointer : u.pointer = s.pointer) (focus : u.focusUnit.focus = s.focusUnit.focus)
    (committed : u.tables.committed = s.tables.committed)
    (others : ∀ sc, concerned sc = false → ScreenStands s u sc) : Good onFocus within (recheckPointer concerned u) := by
  refine good_recheck (fun asked => ?_) (fun asked => ?_) fun asked p hp free => ?_
  · rw [pointer]
    exact (hs.onFocus asked).2
  · obtain ⟨layout, insides⟩ := hs.within asked
    have same (sc : Screen) : u.placement sc = s.placement sc := by simp [State.placement, committed]
    rw [PointerInside, pointer, committed]
    exact ⟨layout, fun p hp => same _ ▸ insides p hp⟩
  · rw [pointer] at hp
    exact (others _ free).isFocusScreen focus ((hs.onFocus asked).1 p hp)

end

end Sys2Proof.Safety
end

section
/-! PROOFS. The walk of the pointer (R75 to R82), and O58. -/

namespace Sys2Proof.Safety

open Sys2Proof.Machine

/-! Places of a walk. -/

/-- A place moved on one axis within its screen stays inside it. -/
theorem inside_moveTo {box : Placement} {p : Place} (h : inside box p) {a : Axis} {v : Int} (low : spanLow a box ≤ v)
    (high : v ≤ spanHigh a box) : inside box (moveTo a v p) := by
  obtain ⟨enabled, x0, x1, y0, y1⟩ := h
  cases a <;> simp only [spanLow, spanHigh] at low high <;> simp only [inside, moveTo] <;>
    exact ⟨enabled, by omega, by omega, by omega, by omega⟩

/-- A place moved to an edge of its screen. -/
theorem inside_edge {box : Placement} {p : Place} (h : inside box p) (a : Axis) (toHigh : Bool) :
    inside box (moveTo a (edgeOf a toHigh box) p) := by
  have span : spanLow a box ≤ spanHigh a box := by
    obtain ⟨-, x0, x1, y0, y1⟩ := h
    cases a <;> simp only [spanLow, spanHigh] <;> omega
  unfold edgeOf
  split
  · exact inside_moveTo h span le_rfl
  · exact inside_moveTo h le_rfl span

/-- The screen found at a point holds the place there (R71). -/
theorem inside_of_screenAt {s : State} {x y : Int} {n : Screen} (h : screenAt s x y = some n) :
    0 ≤ x ∧ 0 ≤ y ∧ inside (s.placement n) { screen := n, x := x.toNat, y := y.toNat } := by
  unfold screenAt at h
  split at h
  · next plane =>
    have covered := (find?_eight.mp h).1
    simp only [covers, Bool.and_eq_true, decide_eq_true_eq] at covered
    simp only [spanLow, spanHigh] at covered
    obtain ⟨⟨⟨⟨enabled, x0⟩, x1⟩, y0⟩, y1⟩ := covered
    exact ⟨plane.1, plane.2.2.1, enabled, by dsimp only; omega, by dsimp only; omega, by dsimp only; omega,
      by dsimp only; omega⟩
  · cases h

/-- The place one unit beyond an edge lies inside the neighbour (R71, R79). -/
theorem inside_entry {s : State} {a : Axis} {v : Int} {p : Place} {n : Screen} (h : neighbourAt s a v p = some n) :
    inside (s.placement n) { moveTo a v p with screen := n } := by
  cases a with
  | x => simpa [moveTo] using (inside_of_screenAt h).2.2
  | y => simpa [moveTo] using (inside_of_screenAt h).2.2

section
variable {onFocus within : Prop}

/-- The pointer moves on its own screen. -/
theorem Good.move {s : State} (hs : Good onFocus within s) {p q : Place} (place : s.pointer.place = some p)
    (screen : q.screen = p.screen) (push : Option Push)
    (moved : inside (s.placement p.screen) p → inside (s.placement p.screen) q) :
    Good onFocus within (setPlace q push s) :=
  good_placed rfl (hs.free place).headed (fun asked => screen ▸ (hs.onFocus asked).1 p place)
    (fun asked => (hs.within asked).1) fun asked => screen ▸ moved ((hs.within asked).2 p place)

/-- The pointer enters another screen of the same computer (R79). -/
theorem Good.enter {s : State} (hs : Good onFocus within s) {p entry : Place} (place : s.pointer.place = some p)
    (enters : enterable s entry.screen = true) (same : screenComputer s entry.screen = screenComputer s p.screen)
    (push : Option Push) (at_entry : inside (s.placement entry.screen) entry) :
    Good onFocus within (setPlace entry push s) := by
  refine good_placed rfl (hs.free place).headed (fun asked => ?_) (fun asked => (hs.within asked).1) fun _ => at_entry
  obtain ⟨f, focus, stood⟩ := isFocusScreen_iff.mp ((hs.onFocus asked).1 p place)
  exact isFocusScreen_iff.mpr
    ⟨f, focus, enterableOf_of_enterable enters (same.trans (enterableOf_iff.mp stood).2.2)⟩

theorem Good.pushAgainst {s : State} (hs : Good onFocus within s) {p q entry : Place}
    (place : s.pointer.place = some p) (screen : q.screen = p.screen)
    (moved : inside (s.placement p.screen) p → inside (s.placement p.screen) q) {n : Screen} {c : Computer}
    (onto : entry.screen = n) (enters : enterable s n = true) (computer : screenComputer s n = some c)
    (at_entry : inside (s.placement n) entry) (held : Bool) (a : Axis) (toHigh : Bool) (m : Nat) :
    Good onFocus within (pushAgainst held a toHigh m n c q entry s).state := by
  subst onto
  unfold Machine.pushAgainst
  dsimp only
  repeat' split
  · exact hs.move place screen _ moved
  · exact hs.move place screen _ moved
  · exact good_focusChange_kept (s := setPlace entry none s) rfl (enterableOf_of_enterable enters computer)
      (fun asked => (hs.within asked).1) (fun _ => at_entry) (.inl rfl)

/-- A walk keeps the pointer on the focus computer's screens, or takes the focus with it (R78 to R81). -/
theorem Good.walk {s : State} (hs : Good onFocus within s) (held : Bool) (a : Axis) (target : Int) (visits : Nat) :
    Good onFocus within (walk held a target visits s).state := by
  induction visits generalizing s with
  | zero => exact hs
  | succ visits ih =>
    unfold Machine.walk
    split
    · exact hs
    · next p place =>
      dsimp only
      split
      · next span =>
        exact hs.move place (by cases a <;> rfl) _ fun h => inside_moveTo h span.1 span.2
      · have atEdge (toHigh : Bool) (push : Option Push) : Good onFocus within
            (setPlace (moveTo a (edgeOf a toHigh (s.placement p.screen)) p) push s) :=
          hs.move place (by cases a <;> rfl) _ fun h => inside_edge h a toHigh
        split
        · exact atEdge _ _
        · next n neighbour =>
          split
          · exact atEdge _ _
          · next open_ =>
            have enters : enterable s n = true := by simpa using open_
            have at_entry := inside_entry neighbour
            split
            · next same => exact ih (hs.enter place enters same _ at_entry)
            · split
              · next c computer =>
                exact hs.pushAgainst (n := n) place (by cases a <;> rfl) (fun h => inside_edge h a _) rfl enters computer
                  at_entry held a _ _
              · exact atEdge _ _

theorem Good.walkAxis {s : State} (hs : Good onFocus within s) (held : Bool) (a : Axis) (units : Int) :
    Good onFocus within (walkAxis held a units s).state := by
  unfold Machine.walkAxis
  repeat' split
  · exact hs
  · exact hs.walk held a _ 8
  · exact hs

theorem Good.walkBoth {s : State} (hs : Good onFocus within s) (held : Bool) (ux uy : Int) :
    Good onFocus within (walkBoth held ux uy s).state := by
  unfold Machine.walkBoth
  dsimp only
  split
  · exact hs.walkAxis held .x ux
  · exact (hs.walkAxis held .x ux).walkAxis held .y uy

theorem Good.setResidues {s : State} (hs : Good onFocus within s) (rx ry : Int) :
    Good onFocus within (setResidues rx ry s) :=
  hs.congr rfl rfl rfl rfl rfl rfl

theorem Good.motionStep {s : State} (hs : Good onFocus within s) (held : Bool) (dx dy wheel : Int) :
    Good onFocus within (motionStep held dx dy wheel s).1 := by
  unfold Machine.motionStep useMotion
  repeat' split
  · exact hs.setResidues 0 0
  · exact hs.setResidues 0 0
  · exact hs.setResidues _ _
  · exact (hs.setResidues _ _).walkBoth held _ _

/-- The placement step of a pointer report (R74). -/
theorem Good.placementStep {s : State} (hs : Good onFocus within s) : Good onFocus within (placementStep s) := by
  have layout (asked : within) := (hs.within asked).1
  unfold Machine.placementStep
  repeat' split
  · next f _ focus _ sc lowest =>
    have enters : enterableOf s f sc = true := (find?_eight.mp lowest).1
    exact good_placed rfl (fun _ => rfl) (fun _ => isFocusScreen_iff.mpr ⟨f, focus, enters⟩) layout
      fun asked => inside_centre (layout asked) enters
  · exact hs
  · next near =>
    obtain ⟨enters, c, computer⟩ := lowestScreenNear_some near
    exact good_relocateTo layout computer enters
  · exact hs
  · exact hs

/-! Source requests. -/

/-- Source requests leave a screen whose every request is for its intended source. -/
theorem requestSources_screen {reqs : List (Screen × Source)} {s : State} {sc : Screen}
    (h : ∀ q ∈ reqs, q.1 = sc → intendedOf (s.screen sc) = q.2) : (requestSources reqs s).screen sc = s.screen sc := by
  unfold requestSources
  induction reqs generalizing s with
  | nil => rfl
  | cons q rest ih =>
    have first : (requestSource q.1 q.2 s).screen sc = s.screen sc := by
      rw [screen_requestSource]
      split
      · next e =>
        have same := h q (List.mem_cons_self ..) e.symm
        rw [e] at same
        rw [requestOutcome, if_pos same, e]
      · rfl
    rw [List.foldl_cons, ih, first]
    intro r hr e
    rw [first]
    exact h r (List.mem_cons_of_mem _ hr) e

/-- A screen among no touched ones has its intended source asked for only. -/
theorem intended_of_untouched {s : State} {reqs : List (Screen × Source)} {sc : Screen}
    (h : isTouched (touchedByAll s reqs) sc = false) : ∀ q ∈ reqs, q.1 = sc → intendedOf (s.screen sc) = q.2 := by
  rintro ⟨x, src⟩ hq rfl
  dsimp only at h ⊢
  by_contra other
  have touched : ∃ t ∈ touchedBy s x src, t.screen = x := by
    unfold touchedBy
    cases outcome : requestOutcome s x src with
    | noChange =>
      unfold requestOutcome at outcome
      rw [if_neg other] at outcome
      split at outcome <;> cases outcome
    | pending => simp
    | committed => simp
  obtain ⟨t, ht, at_x⟩ := touched
  have : isTouched (touchedByAll s reqs) x = true :=
    List.any_eq_true.mpr ⟨t, List.mem_flatMap.mpr ⟨(x, src), hq, ht⟩, decide_eq_true at_x⟩
  rw [h] at this
  cases this

theorem requestSources_pointer_tables (reqs : List (Screen × Source)) (s : State) :
    (requestSources reqs s).pointer = s.pointer ∧ (requestSources reqs s).tables = s.tables ∧
      (requestSources reqs s).focusUnit = s.focusUnit := ⟨by simp, by simp, by simp⟩

/-- A screen that requests do not touch stands. -/
theorem screenStands_requestSources {s : State} {reqs : List (Screen × Source)} {sc : Screen}
    (h : isTouched (touchedByAll s reqs) sc = false) : ScreenStands s (requestSources reqs s) sc := by
  have same := requestSources_screen (intended_of_untouched h)
  exact screenStands_of (by simp) (by simp) (by rw [same]) (by rw [same]; exact id)

/-! The loads, the actions that change the focus, and presets. -/

theorem good_deskReset (answers : Bool) (s : State) : Good onFocus within (deskResetState answers s) := by
  have tables := deskResetState_tables answers s
  rw [deskResetState_eq] at tables ⊢
  generalize requestSources (initialRequests (sourcesFrom (imageAtReset answers s)))
    (resetBlocks (loadImage (imageAtReset answers s) s)) = u at *
  have layout : layoutFault u.tables.committed = none := by
    have same : u.tables = tablesFrom (imageAtReset answers s) := by simpa [freshPointer] using tables
    rw [same]
    exact layoutFault_tablesFrom _
  have fresh : Good onFocus within (freshPointer u) := by
    cases lowest : u.focusUnit.focus.bind (lowestScreenOf u) with
    | none => exact good_off (s := u) (fun _ => layout) (by simp [freshPointer, lowest]) rfl
    | some sc =>
      obtain ⟨f, focus, found⟩ := Option.bind_eq_some_iff.mp lowest
      have enters : enterableOf u f sc = true := (find?_eight.mp found).1
      exact good_placed (t := freshPointer u) (p := centreOf sc (u.placement sc)) (by simp [freshPointer, lowest])
        (fun _ => rfl) (fun _ => isFocusScreen_iff.mpr ⟨f, focus, enters⟩) (fun _ => layout)
        fun _ => inside_centre layout enters
  exact fresh.congr (by simp) (by simp) (by simp) (by simp) (by simp) (by simp)

theorem good_powerOn (image : Option (List Byte)) (s : State) : Good onFocus within (Machine.powerOn image s) := by
  refine good_off (s := Machine.powerOn image s) (fun _ => ?_) rfl rfl
  rw [powerOn_tables]
  exact layoutFault_tablesFrom _

theorem Good.doFocus {s : State} (hs : Good onFocus within s) (k : Computer) {cause : Cause}
    (h : cause ≠ .glide ∧ cause ≠ .relocate) : Good onFocus within (doFocus k cause s) := by
  unfold Machine.doFocus
  split
  · exact good_focusChange (fun asked => (hs.within asked).1) k h
  · exact hs

theorem Good.doSelect {s : State} (hs : Good onFocus within s) (k : Computer) {cause : Cause}
    (h : cause ≠ .glide ∧ cause ≠ .relocate) : Good onFocus within (doSelect k cause s).state := by
  unfold Machine.doSelect
  split
  · exact hs
  · refine Good.recheck ?_ _
    have layout (asked : within) : layoutFault (requestSources (homeRequests s k) s).tables.committed = none := by
      rw [(requestSources_pointer_tables _ s).2.1]
      exact (hs.within asked).1
    unfold selectFocus
    split
    · next focus =>
      exact (good_warp (onFocus := onFocus) focus layout).congr (by simp) (by simp) (by simp) (by simp) (by simp) (by simp)
    · exact good_focusChange layout k h

theorem presetFocus_cases (pr : Preset) (s : State) :
    presetFocus pr s = s ∨ ∃ k, presetFocus pr s = focusChange k .preset s := by
  unfold presetFocus
  split
  · next k _ =>
    unfold Machine.doFocus
    split
    · exact .inr ⟨k, rfl⟩
    · exact .inl rfl
  · exact .inl rfl

theorem presetShare_screens (pr : Preset) (s : State) : (presetShare pr s).video.screens = s.video.screens := by
  unfold presetShare changeSelection
  repeat' split
  all_goals rfl

/-- Requests after a journal record, and the share of a preset: only the touched screens do not stand (R149). -/
theorem screenStands_preset {s : State} (p : PresetIndex) (pr : Preset) {sc : Screen}
    (h : isTouched (touchedByAll s (presetRequests pr)) sc = false) :
    ScreenStands s (presetShare pr (requestSources (presetRequests pr) (record (.preset p) s))) sc := by
  have outcomes : touchedByAll (record (.preset p) s) (presetRequests pr) = touchedByAll s (presetRequests pr) := rfl
  have same : (requestSources (presetRequests pr) (record (.preset p) s)).screen sc = s.screen sc :=
    requestSources_screen (s := record (.preset p) s) (intended_of_untouched (outcomes ▸ h))
  have shared : (presetShare pr (requestSources (presetRequests pr) (record (.preset p) s))).screen sc = s.screen sc := by
    rw [← same, State.screen, presetShare_screens]
    rfl
  exact screenStands_of (by simp) (by simp) (by rw [shared]) (by rw [shared]; exact id)

theorem Good.doPreset {s : State} (hs : Good onFocus within s) (p : PresetIndex) :
    Good onFocus within (doPreset p s).state := by
  have layout (asked : within) :
      layoutFault (presetShare (s.preset p) (requestSources (presetRequests (s.preset p)) (record (.preset p) s))).tables.committed = none := by
    simpa using (hs.within asked).1
  unfold Machine.doPreset
  dsimp only
  rcases presetFocus_cases (s.preset p)
    (presetShare (s.preset p) (requestSources (presetRequests (s.preset p)) (record (.preset p) s))) with eq | ⟨k, eq⟩
  · rw [eq]
    exact hs.recheckAfter (by simp) (by simp) (by simp) fun sc free => screenStands_preset p (s.preset p) free
  · rw [eq]
    exact (good_focusChange layout k (cause := .preset) ⟨by decide, by decide⟩).recheck _

/-! Plain changes. -/

theorem Good.attachSink {s : State} (hs : Good onFocus within s) (out : VideoOutput) (mode : VideoMode) :
    Good onFocus within (attachSink out mode s) := by
  cases out with
  | screen sc =>
    refine hs.stands rfl rfl rfl rfl fun x => screenStands_of rfl rfl ?_ ?_
    · simp only [Machine.attachSink, State.screen_setScreen]
      split
      · next e => rw [e]; rfl
      · rfl
    · simp only [Machine.attachSink, State.screen_setScreen]
      split
      · exact fun _ => rfl
      · exact id
  | shareOut => exact hs.congr rfl rfl rfl rfl rfl rfl

/-- A screen's record changes in neither its intended source nor its sink. -/
theorem Good.setScreen {s : State} (hs : Good onFocus within s) {sc : Screen} {r : ScreenRecord}
    (intended : intendedOf r = intendedOf (s.screen sc)) (sink : r.sink = (s.screen sc).sink) :
    Good onFocus within (s.setScreen sc r) := by
  refine hs.stands rfl rfl rfl rfl fun x => screenStands_of rfl rfl ?_ ?_
  · rw [State.screen_setScreen]
    split
    · next e => rw [e, intended]
    · rfl
  · rw [State.screen_setScreen]
    split
    · next e => rw [e, sink]; exact id
    · exact id

theorem Plain.good {s t : State} (h : Plain s t) (hs : Good onFocus within s) : Good onFocus within t := by
  cases h
  case sinkAttach out mode => exact hs.attachSink out mode
  case commit sc src pending => exact hs.setScreen (by simp [intendedOf, pending]) rfl
  case showScreen sc sink present => exact hs.setScreen rfl rfl
  case showShare =>
    refine hs.congr (by simp) (by simp) ?_ (by simp) (by simp) (by simp)
    unfold startShareFrame
    split <;> rfl
  case clearCounters =>
    refine hs.stands rfl rfl rfl rfl fun sc => ?_
    have cleared : (clearAllCounters s).screen sc = clearScreenCounters (s.screen sc) := get_map _ _ _
    exact screenStands_of rfl rfl (by rw [cleared]; rfl) (by rw [cleared]; exact id)
  case input j r => exact hs.congr rfl rfl rfl rfl rfl rfl
  case shareDetach => exact hs.congr rfl rfl rfl rfl rfl rfl
  case selection sel => exact hs.congr rfl rfl rfl rfl rfl rfl
  case modeWord w => exact hs.congr rfl rfl rfl rfl rfl rfl
  case modeSettings m free => exact hs.congr rfl rfl rfl rfl rfl rfl
  case hotkey i h sound => exact hs.congr rfl rfl rfl rfl rfl rfl
  case deleteHotkey i => exact hs.congr rfl rfl rfl rfl rfl rfl
  case portSettings k p => exact hs.congr rfl rfl rfl rfl rfl rfl
  case preset p pr => exact hs.congr rfl rfl rfl rfl rfl rfl
  case staged sc p => exact hs.congr rfl rfl rfl rfl rfl rfl
  case revert => exact hs.congr rfl rfl rfl rfl rfl rfl
  case lock locked => exact hs.congr rfl rfl rfl rfl rfl rfl
  case broadcast ks inside => exact hs.congr rfl rfl rfl rfl rfl rfl
  all_goals exact hs.congr (by simp) (by simp) (by simp) (by simp) (by simp) (by simp)

/-! Compound changes. -/

theorem Good.plainSteps {s t : State} (hs : Good onFocus within s) (h : PlainSteps s t) : Good onFocus within t :=
  keeps_of_steps (R := Plain) (fun _ _ change => change.good) h hs

theorem Good.doLock {s : State} (hs : Good onFocus within s) : Good onFocus within (doLock s) := by
  unfold Machine.doLock
  split
  · exact hs
  · exact hs.congr (by simp) (by simp) (by simp) (by simp) (by simp [clearPush]) (by simp [clearPush])

/-- An action of a hotkey, of management or of the schedule. -/
theorem Good.runAction {s : State} (hs : Good onFocus within s) (a : Action) {cause : Cause}
    (h : cause ≠ .glide ∧ cause ≠ .relocate) : Good onFocus within (runAction a cause s).state := by
  cases a with
  | focus k => exact hs.doFocus k h
  | select k => exact hs.doSelect k h
  | cycle =>
    unfold Machine.runAction doCycle
    dsimp only
    split
    · exact good_focusChange (fun asked => (hs.within asked).1) _ h
    · exact hs
  | wake k => exact hs.plainSteps (wakeRequest_plainSteps k s)
  | applyPreset p => exact hs.doPreset p
  | share => exact hs.plainSteps (doShare_plainSteps s)
  | shareScreen sc => exact hs.plainSteps (changeSelection_plainSteps _ s)
  | shareFor t => exact hs.plainSteps (doShareFor_plainSteps t cause s)
  | unshare => exact hs.plainSteps (changeSelection_plainSteps _ s)
  | lock => exact hs.doLock
  | unlock => exact hs.plainSteps (doUnlock_plainSteps s)
  | broadcastToggle k => exact hs.plainSteps (doToggle_plainSteps k s)
  | broadcastOff => exact hs.congr rfl rfl rfl rfl rfl rfl
  | holdToggle => exact hs.congr rfl rfl rfl rfl rfl rfl

/-- A sink detach blanks its own screen alone (R139). -/
theorem Good.detachSink {s : State} (hs : Good onFocus within s) (sc : Screen) :
    Good onFocus within (detachSink (.screen sc) s) := by
  unfold Machine.detachSink
  dsimp only
  split
  · refine hs.recheckAfter (by simp) (by simp) (by simp) fun x free => ?_
    have ne : x ≠ sc := by simpa using free
    have same : (blankScreen sc (commitPending sc s)).screen x = s.screen x := by
      rw [blankScreen, State.screen_setScreen, if_neg ne, screen_commitPending, if_neg ne]
    exact screenStands_of (by simp) (by simp) (by rw [same]) (by rw [same]; exact id)
  · exact hs

/-- A window record concerns the screens that show its input, when its computer changes (R91). -/
theorem Good.rewriteWindow {s : State} (hs : Good onFocus within s) (j : Input) (w : Window) :
    Good onFocus within (rewriteWindow j w s) := by
  have window (i : Input) : (setWindow j w s).window i = if i = j then w else s.window i := get_set _ _ _ _
  unfold Machine.rewriteWindow
  split
  · next same =>
    refine hs.stands rfl rfl rfl rfl fun sc => ⟨rfl, id, ?_⟩
    change computerOf (setWindow j w s) (intendedOf (s.screen sc)) = computerOf s (intendedOf (s.screen sc))
    unfold computerOf
    split
    · rfl
    · rw [window]
      split
      · next e => rw [same, e]
      · rfl
  · refine hs.recheckAfter rfl rfl rfl fun sc free => ⟨rfl, id, ?_⟩
    change computerOf (setWindow j w s) (intendedOf (s.screen sc)) = computerOf s (intendedOf (s.screen sc))
    unfold computerOf
    split
    · rfl
    · next i shown =>
      have : i ≠ j := by
        rintro rfl
        simp [showsInput, shown] at free
      rw [window, if_neg this]

theorem inside_keepOffset {old new : Placement} {p : Place} (enabled : new.enabled = true) (w : 64 ≤ new.w)
    (h : 64 ≤ new.h) : inside new (keepOffset old new p) := by
  refine ⟨enabled, ?_, ?_, ?_, ?_⟩ <;> simp only [keepOffset] <;> omega

/-- A layout that passes the checks is put in force and the pointer re-checked (R67). -/
theorem Good.commitLayout {s : State} (hs : Good onFocus within s) (passes : layoutFault s.tables.staged = none) :
    Good onFocus within (commitLayout s) := by
  have headed (p : Place) (place : s.pointer.place = some p) (asked : onFocus) : s.pointer.headless = false :=
    (hs.free place).headed asked
  unfold Machine.commitLayout recheckAfterCommit
  split
  · next place =>
    exact good_off (s := clearMotion { s with tables := { s.tables with committed := s.tables.staged } })
      (fun _ => passes) place rfl
  · next p place =>
    split
    · next stands =>
      obtain ⟨f, focus, enters⟩ := isFocusScreen_iff.mp stands
      have enabled := (enterableOf_iff.mp enters).1
      obtain ⟨w, h⟩ := size_of_layout (layout := s.tables.staged) passes enabled
      exact good_placed rfl (headed p place) (fun _ => stands) (fun _ => passes) fun _ => inside_keepOffset enabled w h
    · exact Free.relocate ⟨headed p place, fun _ => passes⟩

/-- A source request concerns the screen that it touches (R140). -/
theorem Good.request {s : State} (hs : Good onFocus within s) (sc : Screen) (src : Source) :
    Good onFocus within (recheckPointer (isTouched (touchedBy s sc src)) (requestSource sc src s)) := by
  have all : touchedByAll s [(sc, src)] = touchedBy s sc src := by simp [touchedByAll]
  rw [← all]
  exact hs.recheckAfter (by simp) (by simp) (by simp) fun x free => screenStands_requestSources (reqs := [(sc, src)]) free

theorem Compound.good {s t : State} (h : Compound s t) (hs : Good onFocus within s) : Good onFocus within t := by
  cases h with
  | powerOn image => exact good_powerOn image s
  | deskReset answers => exact good_deskReset answers s
  | action a cause h => exact hs.runAction a h
  | place => exact hs.placementStep
  | motion held dx dy wheel => exact hs.motionStep held dx dy wheel
  | sinkDetach sc => exact hs.detachSink sc
  | window j w b h => exact hs.rewriteWindow j w
  | layout h => exact hs.commitLayout h
  | request sc src => exact hs.request sc src

end

theorem good_step {onFocus within : Prop} {s t : State} (hs : Good onFocus within s) (h : step s = .next t) :
    Good onFocus within t :=
  step_keeps (fun _ _ => Plain.good) (fun _ _ => Compound.good) hs h

/-- Settles O58: each of the two properties alone is followed through every plain and every compound change. -/
theorem stepKeepsPointer : Obligations.StepKeepsPointer := by
  unfold Obligations.StepKeepsPointer
  exact fun s t h =>
    ⟨fun hs => (good_step (onFocus := True) (within := False) ⟨fun _ => hs, False.elim⟩ h).onFocus trivial,
      fun hs => (good_step (onFocus := False) (within := True) ⟨False.elim, fun _ => hs⟩ h).within trivial⟩

end Sys2Proof.Safety
end

section
/-! PROOFS. What every command keeps (R43, R157, R170, R184): it completes, and leaves the queue, the clock and the settings to
the few commands that the rules name. -/

namespace Sys2Proof.Safety

open Sys2Proof.Machine

/-- What a report that cannot be taken does (R3). -/
def discardReport (bytes : List Byte) (s : State) : State := if cannotBeTaken bytes s then countConsoleError s else s

theorem discardReport_eq (bytes : List Byte) (s : State) :
    discardReport bytes s = { s with console := (discardReport bytes s).console } := by
  unfold discardReport
  cases cannotBeTaken bytes s <;> rfl

theorem discardReport_pending (bytes : List Byte) (s : State) : (discardReport bytes s).pending = s.pending := by
  rw [discardReport_eq]

theorem discardReport_clock (bytes : List Byte) (s : State) : (discardReport bytes s).clock = s.clock := by
  rw [discardReport_eq]

theorem discardReport_settings (bytes : List Byte) (s : State) : (discardReport bytes s).settings = s.settings := by
  rw [discardReport_eq]

/-- What an event does; a management row is no event. -/
def eventOf : Instr → State → State
  | .powerOn image => powerOn image
  | .millisecondTick => fun s => takeDue (advanceClock s)
  | .consoleKeyboardReport slot modifiers fields => takeKeyboardReport slot modifiers fields.toList
  | .consolePointerReport slot buttons dx dy wheel => takePointerReport slot buttons dx dy wheel
  | .consoleReportDiscarded bytes => discardReport bytes
  | .deviceAttach slot deviceClass => attachDevice slot deviceClass
  | .deviceDetach slot => detachEvent slot
  | .consoleLinkRestart => resetConsole
  | .heldKeyAgeing slot usage => ageEntry slot usage
  | .leaderTimerExpiry => expireLeader
  | .commandTimerExpiry => expireCommand
  | .presenceLineChange port present => changePresence port present
  | .presenceDebounceExpiry port => expireDebounce port
  | .configure port => moveLink port .attached .ready
  | .suspend port => moveLink port .ready .suspended
  | .resume port => resumePort port
  | .busReset port => resetBus port
  | .poll port => pollPort port
  | .ledOutputReport port leds => takeLedReport port leds
  | .managementResultRead port => readResult port
  | .foreignManagementReport port => takeForeign port
  | .deskMismatch port deskMatch => takeMismatch port deskMatch
  | .badCommand r code => takeBadCommand code r
  | .armRemoteWake port => armPort port true
  | .disarmRemoteWake port => armPort port false
  | .wakeTimerExpiry port => expireWake port
  | .signalFound input mode => findSignal input mode
  | .signalLost input => loseSignal input
  | .frameComplete input => countFrame input
  | .sinkAttach output mode => attachSink output mode
  | .sinkDetach output => detachSink output
  | .frameStart screen => startFrame screen
  | .shareOutFrameStart => startShareFrame
  | .scheduledEntryFire index => fireIfDue index
  | .memoryWriteComplete outcome => endWrite outcome
  | _ => id

/-- Every row that is no management row does what its event does. -/
theorem exec_event (i : Instr) (s : State) (h : commandOf i = none) : exec i s = .next (eventOf i s) := by
  cases i <;> cases h <;> rfl

/-! What an event keeps. -/

/-- An input's event changes the input records alone (R136). -/
theorem countFrame_frame (j : Input) (s : State) : countFrame j s = { s with video := (countFrame j s).video } := by
  unfold countFrame
  split <;> rfl

/-- A report with no command's code changes a slot or a counter alone (R120, R167, R169). -/
theorem takeBadCommand_frame (code : Byte) (r : CommandReport) (s : State) :
    takeBadCommand code r s =
      { s with
        ports := (takeBadCommand code r s).ports
        foreign := (takeBadCommand code r s).foreign
        mismatches := (takeBadCommand code r s).mismatches } := by
  unfold takeBadCommand writeSlot dropReport
  repeat' split
  all_goals rfl

@[simp] theorem countFrame_pending (j : Input) (s : State) : (countFrame j s).pending = s.pending := by
  rw [countFrame_frame]
@[simp] theorem takeBadCommand_pending (code : Byte) (r : CommandReport) (s : State) :
    (takeBadCommand code r s).pending = s.pending := by
  rw [takeBadCommand_frame]
@[simp] theorem countFrame_clock (j : Input) (s : State) : (countFrame j s).clock = s.clock := by
  rw [countFrame_frame]
@[simp] theorem takeBadCommand_clock (code : Byte) (r : CommandReport) (s : State) :
    (takeBadCommand code r s).clock = s.clock := by
  rw [takeBadCommand_frame]
@[simp] theorem countFrame_settings (j : Input) (s : State) : (countFrame j s).settings = s.settings := by
  rw [countFrame_frame]
@[simp] theorem takeBadCommand_settings (code : Byte) (r : CommandReport) (s : State) :
    (takeBadCommand code r s).settings = s.settings := by
  rw [takeBadCommand_frame]

theorem eventOf_pending (i : Instr) (s : State) : (eventOf i s).pending = s.pending := by
  cases i
  case powerOn image => rfl
  case consoleReportDiscarded bytes => exact discardReport_pending bytes s
  case signalFound j mode => rfl
  case signalLost j => rfl
  all_goals
    delta eventOf
    dsimp only
    simp

theorem eventOf_clock (i : Instr) (s : State) (tick : i ≠ .millisecondTick) (on : ∀ image, i ≠ .powerOn image) :
    (eventOf i s).clock = s.clock := by
  cases i
  case powerOn image => exact absurd rfl (on image)
  case millisecondTick => exact absurd rfl tick
  case consoleReportDiscarded bytes => exact discardReport_clock bytes s
  case signalFound j mode => rfl
  case signalLost j => rfl
  all_goals
    delta eventOf
    dsimp only
    simp

theorem eventOf_settings (i : Instr) (s : State) (on : ∀ image, i ≠ .powerOn image) :
    (eventOf i s).settings = s.settings := by
  cases i
  case powerOn image => exact absurd rfl (on image)
  case consoleReportDiscarded bytes => exact discardReport_settings bytes s
  case signalFound j mode => rfl
  case signalLost j => rfl
  all_goals
    delta eventOf
    dsimp only
    simp

/-! What a management row keeps. -/

theorem bodyOf_pending (i : Instr) (s : State) : (bodyOf i s).state.pending = s.pending := by
  cases i <;> simp [bodyOf]

theorem bodyOf_clock (i : Instr) (s : State) : (bodyOf i s).state.clock = s.clock := by
  cases i <;> simp [bodyOf]

theorem bodyOf_settings (i : Instr) (s : State) (reset : ∀ r b, i ≠ .deskReset r b) :
    (bodyOf i s).state.settings = s.settings := by
  cases i
  case deskReset r b => exact absurd rfl (reset r b)
  all_goals simp [bodyOf]

theorem takeCommand_pending (c : CommandSpec) (body : State → Reply) (r : CommandReport) (s : State)
    (h : (body s).state.pending = s.pending) : (takeCommand c body r s).pending = s.pending :=
  takeCommand_reading State.pending (by simp) (by simp) c body r s h

theorem takeCommand_clock (c : CommandSpec) (body : State → Reply) (r : CommandReport) (s : State)
    (h : (body s).state.clock = s.clock) : (takeCommand c body r s).clock = s.clock :=
  takeCommand_reading State.clock (by simp) (by simp) c body r s h

theorem takeCommand_settings (c : CommandSpec) (body : State → Reply) (r : CommandReport) (s : State)
    (h : (body s).state.settings = s.settings) : (takeCommand c body r s).settings = s.settings :=
  takeCommand_reading State.settings (by simp) (by simp) c body r s h

/-! The statements. -/

/-- Settles O1. -/
theorem stepTakesFrontCommand : Obligations.StepTakesFrontCommand := by
  unfold Obligations.StepTakesFrontCommand
  exact ⟨fun c rest s => rfl, fun s idle => by simp [step, idle]⟩

/-- Settles O2: a row is the taking of a command or an event, and each keeps the queue. -/
theorem commandsCompleteAndKeepQueue : Obligations.CommandsCompleteAndKeepQueue := by
  unfold Obligations.CommandsCompleteAndKeepQueue
  intro i s
  cases row : commandOf i with
  | none => exact ⟨_, exec_event i s row, eventOf_pending i s⟩
  | some command => exact ⟨_, exec_command i command.1 command.2 s row, takeCommand_pending _ _ _ s (bodyOf_pending i s)⟩

/-- Settles O6: no management row's body but DESK RESET's, and no event but the two, touches the clock or the settings. -/
theorem clockAndSettingsStand : Obligations.ClockAndSettingsStand := by
  unfold Obligations.ClockAndSettingsStand
  intro i s t h on
  cases row : commandOf i with
  | none =>
    rw [exec_event i s row] at h
    cases h
    exact ⟨fun tick => eventOf_clock i s tick on, fun _ => eventOf_settings i s on⟩
  | some command =>
    rw [exec_command i command.1 command.2 s row] at h
    cases h
    exact ⟨fun _ => takeCommand_clock _ _ _ s (bodyOf_clock i s),
      fun reset => takeCommand_settings _ _ _ s (bodyOf_settings i s reset)⟩

end Sys2Proof.Safety
end

section
/-! PROOFS. The console link's devices (R1 to R5, R11, R12, R17, R19): reports that cannot be taken, attach, detach, a console
reset, ageing, and the previous state that a keyboard report leaves. -/

namespace Sys2Proof.Safety

open Sys2Proof.Machine

/-! Reports that cannot be taken (R3, R4). -/

theorem takeKeyboardReport_untaken {slot : Byte} {s : State}
    (h : ∀ i oldM oldK, indexOf? 4 slot.toNat = some i → s.slotDevice i ≠ some (.keyboard oldM oldK))
    (m : ModifierSet) (fields : List Byte) : takeKeyboardReport slot m fields s = countConsoleError s := by
  unfold takeKeyboardReport
  split
  · rfl
  · next i at_i =>
    split
    · next oldM oldK device => exact absurd device (h i oldM oldK at_i)
    · rfl

theorem takePointerReport_untaken {slot : Byte} {s : State}
    (h : ∀ i old, indexOf? 4 slot.toNat = some i → s.slotDevice i ≠ some (.pointer old)) (b : Byte) (dx dy : BitVec 12)
    (w : Byte) : takePointerReport slot b dx dy w s = countConsoleError s := by
  unfold takePointerReport
  split
  · rfl
  · next i at_i =>
    split
    · next old device => exact absurd device (h i old at_i)
    · rfl

/-- Bytes of no kind, or of a kind with another length, cannot be taken (R3; log entry 16). -/
theorem cannotBeTaken_of_form {bytes : List Byte} (s : State)
    (h : (byteAt bytes 0).toNat = 0 ∨ 5 < (byteAt bytes 0).toNat ∨ (byteAt bytes 0 = 1#8 ∧ bytes.length ≠ 9) ∨
      (byteAt bytes 0 = 2#8 ∧ bytes.length ≠ 7) ∨ (byteAt bytes 0 = 3#8 ∧ bytes.length ≠ 3) ∨
      (byteAt bytes 0 = 4#8 ∧ bytes.length ≠ 2) ∨ (byteAt bytes 0 = 5#8 ∧ bytes.length ≠ 2)) :
    cannotBeTaken bytes s = true := by
  have keyboard : ¬ (byteAt bytes 0 = 1#8 ∧ bytes.length = 9) := by rintro ⟨kind, length⟩; simp [kind, length] at h
  have pointer : ¬ (byteAt bytes 0 = 2#8 ∧ bytes.length = 7) := by rintro ⟨kind, length⟩; simp [kind, length] at h
  have attach : ¬ (byteAt bytes 0 = 3#8 ∧ bytes.length = 3) := by rintro ⟨kind, length⟩; simp [kind, length] at h
  have detach : ¬ (byteAt bytes 0 = 4#8 ∧ bytes.length = 2) := by rintro ⟨kind, length⟩; simp [kind, length] at h
  have restart : byteAt bytes 0 ≠ 5#8 ∨ bytes.length ≠ 2 := by
    by_contra both
    obtain ⟨kind, length⟩ := not_or.mp both
    simp [not_not.mp kind, not_not.mp length] at h
  unfold cannotBeTaken
  dsimp only
  rw [if_neg keyboard, if_neg pointer, if_neg attach, if_neg detach]
  exact decide_eq_true restart

/-- A rollover report changes nothing (R4). -/
theorem takeKeyboardReport_rollover {slot : Byte} {s : State} {i : Slot} {oldM : ModifierSet} {oldK : List Byte}
    (at_i : indexOf? 4 slot.toNat = some i) (device : s.slotDevice i = some (.keyboard oldM oldK)) (m : ModifierSet)
    {fields : List Byte} (rollover : isRollover fields = true) : takeKeyboardReport slot m fields s = s := by
  simp [takeKeyboardReport, at_i, device, rollover]

/-- Settles O7. -/
theorem untakenConsoleReports : Obligations.UntakenConsoleReports := by
  unfold Obligations.UntakenConsoleReports
  rintro slot s t rfl
  refine ⟨fun m fields h => ?_, fun b dx dy w h => ?_, fun bytes h => ?_, fun m i oldM oldK at_i device => ?_⟩
  · exact congrArg Host.Outcome.next (takeKeyboardReport_untaken h m fields.toList)
  · exact congrArg Host.Outcome.next (takePointerReport_untaken h b dx dy w)
  · exact congrArg Host.Outcome.next (if_pos (cannotBeTaken_of_form s h))
  · exact congrArg Host.Outcome.next (takeKeyboardReport_rollover at_i device m (by decide))

/-! Keyboard reports (R5). -/

theorem takeKeyboardReport_keySet {slot : Byte} {s : State} {i : Slot} {oldM : ModifierSet} {oldK : List Byte}
    (at_i : indexOf? 4 slot.toNat = some i) (device : s.slotDevice i = some (.keyboard oldM oldK)) (m : ModifierSet)
    {fields : List Byte} (h : isRollover fields = false) :
    takeKeyboardReport slot m fields s = takeKeySet i oldM (reportModifiers m fields) oldK (reportKeys fields) s := by
  simp [takeKeyboardReport, at_i, device, h]

theorem takeKeySet_slotDevice (i : Slot) (oldM newM : ModifierSet) (oldK newK : List Byte) (s : State) (j : Slot) :
    (takeKeySet i oldM newM oldK newK s).slotDevice j =
      if j = i then some (.keyboard newM newK) else s.slotDevice j := by
  have kept : ((transitions oldM newM oldK newK).foldl (fun t x => takeTransition i x t) s).slotDevice j =
      s.slotDevice j := by
    refine congrArg (fun slots : Vector (Option Device) 4 => slots.get j) ?_
    exact foldl_keeps (fun t => t.console.slots) _ (fun t x => takeTransition_slots i x t) _ s
  unfold takeKeySet
  rw [State.slotDevice_setSlot, kept]

/-- Settles O8. -/
theorem keyboardReportBecomesPreviousState : Obligations.KeyboardReportBecomesPreviousState := by
  unfold Obligations.KeyboardReportBecomesPreviousState
  intro slot i m oldM fields oldK s at_i device h
  refine ⟨_, congrArg Host.Outcome.next (takeKeyboardReport_keySet at_i device m h), ?_, fun j ne => ?_, by simp, by simp,
    by simp, by simp, by simp, by simp⟩
  · rw [takeKeySet_slotDevice, if_pos rfl]
  · rw [takeKeySet_slotDevice, if_neg ne]

/-! Detach (R2, R12, R17, R31). -/

theorem detachEvent_occupied {slot : Byte} {s : State} {i : Slot} {d : Device} (at_i : indexOf? 4 slot.toNat = some i)
    (device : s.slotDevice i = some d) : detachEvent slot s = detachDevice i d s := by
  simp [detachEvent, at_i, device]

theorem detachEvent_empty {slot : Byte} {s : State} (h : ∀ i, indexOf? 4 slot.toNat = some i → s.slotDevice i = none) :
    detachEvent slot s = countConsoleError s := by
  unfold detachEvent
  split
  · rfl
  · next i at_i => simp [h i at_i]

/-- The state of a detach before the slot is emptied: keys released, and the buttons of a POINTER. -/
def released (i : Slot) (d : Device) (s : State) : State :=
  match d with
  | .pointer _ => releaseButtons (releaseEntries (fun e => decide (e.slot = i)) s)
  | .keyboard _ _ => releaseEntries (fun e => decide (e.slot = i)) s

theorem detachDevice_eq (i : Slot) (d : Device) (s : State) :
    detachDevice i d s = abandonSlot i ((released i d s).setSlot i none) := by
  cases d <;> rfl

theorem abandonSlot_console (i : Slot) (s : State) : (abandonSlot i s).console = s.console := by simp

theorem released_console (i : Slot) (d : Device) (s : State) : (released i d s).console = s.console := by
  cases d <;> simp [released]

theorem released_recognizer (i : Slot) (d : Device) (s : State) : (released i d s).recognizer = s.recognizer := by
  cases d <;> simp [released]

theorem onlyQueued_released (i : Slot) (d : Device) (s : State) (k : Computer) :
    OnlyQueued (s.port k) ((released i d s).port k) := by
  cases d with
  | pointer buttons => exact (onlyQueued_releaseEntries _ s k).trans (onlyQueued_releaseButtons _ k)
  | keyboard modifiers keys => exact onlyQueued_releaseEntries _ s k

theorem detachDevice_slotDevice (i : Slot) (d : Device) (s : State) (j : Slot) :
    (detachDevice i d s).slotDevice j = if j = i then none else s.slotDevice j := by
  have kept : (released i d s).slotDevice j = s.slotDevice j := by simp [State.slotDevice, released_console]
  rw [detachDevice_eq, State.slotDevice, abandonSlot_console]
  exact (State.slotDevice_setSlot _ _ _ _).trans (by rw [kept])

theorem detachDevice_held (i : Slot) (d : Device) (s : State) :
    (detachDevice i d s).keys.held = s.keys.held.filter (fun e => decide (e.slot ≠ i)) := by
  rw [detachDevice_eq]
  cases d <;> simp [released, decide_not]

theorem detachDevice_buttons (i : Slot) (d : Device) (s : State) :
    (detachDevice i d s).keys.buttons =
      match d with
      | .pointer _ => Vector.replicate 5 none
      | .keyboard _ _ => s.keys.buttons := by
  rw [detachDevice_eq]
  cases d <;> simp [released]

theorem detachDevice_recognizer (i : Slot) (d : Device) (s : State) :
    (detachDevice i d s).recognizer = if sequenceSlot s.recognizer = some i then .idle else s.recognizer := by
  have same : ((released i d s).setSlot i none).recognizer = s.recognizer := released_recognizer i d s
  rw [detachDevice_eq, abandonSlot, same]
  split
  · rfl
  · exact same

theorem onlyQueued_detachDevice (i : Slot) (d : Device) (s : State) (k : Computer) :
    OnlyQueued (s.port k) ((detachDevice i d s).port k) := by
  have same : (detachDevice i d s).port k = (released i d s).port k := by
    rw [detachDevice_eq]
    exact port_of_ports (by simp) k
  rw [same]
  exact onlyQueued_released i d s k

/-- Settles O12. -/
theorem deviceDetachReleases : Obligations.DeviceDetachReleases := by
  unfold Obligations.DeviceDetachReleases
  refine ⟨fun slot i d s at_i device => ?_, fun slot s h => congrArg Host.Outcome.next (detachEvent_empty h)⟩
  refine ⟨_, congrArg Host.Outcome.next (detachEvent_occupied at_i device), ?_, fun j ne => ?_, detachDevice_held i d s,
    detachDevice_buttons i d s, by simp, by simp, detachDevice_recognizer i d s, onlyQueued_detachDevice i d s,
    detachDevice_frame i d s⟩
  · rw [detachDevice_slotDevice, if_pos rfl]
  · rw [detachDevice_slotDevice, if_neg ne]

/-! Attach (R1, R21). -/

theorem vacate_empty {i : Slot} {s : State} (h : s.slotDevice i = none) : vacate i s = s := by
  simp [vacate, h]

theorem attachDevice_keyboard {slot : Byte} {i : Slot} (at_i : indexOf? 4 slot.toNat = some i) (s : State) :
    attachDevice slot 1#8 s = sendLeds ((vacate i s).setSlot i (some (.keyboard 0#8 []))) := by
  simp [attachDevice, at_i, attachKeyboard]

theorem attachDevice_pointer {slot : Byte} {i : Slot} (at_i : indexOf? 4 slot.toNat = some i) (s : State) :
    attachDevice slot 2#8 s =
      if hasPointer (vacate i s) then countConsoleError (vacate i s)
      else (vacate i s).setSlot i (some (.pointer 0#5)) := by
  simp [attachDevice, at_i, attachPointer]

/-- Settles O11: the statement for the state with the slot vacated serves the empty and the occupied slot. -/
theorem deviceAttachFillsSlot : Obligations.DeviceAttachFillsSlot := by
  unfold Obligations.DeviceAttachFillsSlot
  intro slot i s at_i
  have keyboard {t : State} (h : vacate i s = t) :
      exec (.deviceAttach slot 1#8) s = .next (sendLeds (t.setSlot i (some (.keyboard 0#8 [])))) :=
    congrArg Host.Outcome.next (h ▸ attachDevice_keyboard at_i s)
  have pointer {t : State} (h : vacate i s = t) :
      exec (.deviceAttach slot 2#8) s =
        .next (if hasPointer t then countConsoleError t else t.setSlot i (some (.pointer 0#5))) :=
    congrArg Host.Outcome.next (h ▸ attachDevice_pointer at_i s)
  refine ⟨fun empty => ⟨keyboard (vacate_empty empty), fun free => ?_, fun taken => ?_⟩, fun occupied => ?_,
    fun c one two => ?_, fun other c outside => ?_⟩
  · rw [pointer (vacate_empty empty), free]
    rfl
  · rw [pointer (vacate_empty empty), taken]
    rfl
  · obtain ⟨d, device⟩ := Option.ne_none_iff_exists'.mp occupied
    have vacated : vacate i s = detachDevice i d s := by simp [vacate, device]
    refine ⟨_, congrArg Host.Outcome.next (detachEvent_occupied at_i device), keyboard vacated, fun free => ?_,
      fun taken => ?_⟩
    · rw [pointer vacated, free]
      rfl
    · rw [pointer vacated, taken]
      rfl
  · exact congrArg Host.Outcome.next (by simp [attachDevice, at_i, one, two])
  · exact congrArg Host.Outcome.next (by simp [attachDevice, indexOf?_eq_none outside])

/-! A console reset (R19). -/

theorem resetConsole_held (s : State) : (resetConsole s).keys.held = [] := by
  simp [resetConsole]

theorem resetConsole_buttons (s : State) : (resetConsole s).keys.buttons = Vector.replicate 5 none := by
  simp [resetConsole]

theorem onlyQueued_resetConsole (s : State) (k : Computer) : OnlyQueued (s.port k) ((resetConsole s).port k) :=
  (onlyQueued_releaseEntries (fun _ => true) s k).trans (onlyQueued_releaseButtons _ k)

theorem resetConsole_sent (s : State) : (resetConsole s).sent = s.sent ++ [.ledNotice (ledValue (resetConsole s))] := by
  simp only [resetConsole, sendLeds, releaseButtons_sent, releaseEntries_sent]
  rfl

/-- Settles O13. -/
theorem consoleResetReleasesEverything : Obligations.ConsoleResetReleasesEverything := by
  unfold Obligations.ConsoleResetReleasesEverything
  refine ⟨fun s => ⟨_, rfl, rfl⟩, fun r s admitted => ?_, ?_⟩
  · have answer : consoleResetBody s = Reply.mk (resetConsole s) .ok [] none false := rfl
    exact congrArg Host.Outcome.next (admitted.answers answer (by simp))
  · rintro s t rfl
    refine ⟨resetConsole_held s, fun b => ?_, by simp, fun i => get_replicate _ _, rfl, by simp, resetConsole_sent s, rfl,
      onlyQueued_resetConsole s, resetConsole_frame s⟩
    rw [resetConsole_buttons]
    exact get_replicate _ _

/-! Ageing (R11). -/

/-- A keyboard report changes a port's queue and RESYNC, and no last pair (R92). -/
theorem offerTo_keyboard (snapshot : Snapshot) (p : Port) :
    offerTo (.keyboard snapshot) p =
      { p with
        queue := (offerTo (.keyboard snapshot) p).queue, resync := (offerTo (.keyboard snapshot) p).resync } := by
  have noPair : notePair (.keyboard snapshot) p = p := rfl
  unfold offerTo
  rw [noPair]
  split
  · exact enqueue_frame _ p
  · rfl

/-- What snapshots change of a port. -/
theorem port_refreshSnapshots_frame (ks : ComputerSet) (s : State) (j : Computer) :
    (refreshSnapshots ks s).port j =
      { s.port j with
        queue := ((refreshSnapshots ks s).port j).queue, resync := ((refreshSnapshots ks s).port j).resync } := by
  have one (k : Computer) (t : State) : (refreshSnapshot k t).port j =
      { t.port j with
        queue := ((refreshSnapshot k t).port j).queue, resync := ((refreshSnapshot k t).port j).resync } := by
    unfold refreshSnapshot
    split
    · rfl
    · rw [port_offer]
      split
      · next e =>
        subst e
        exact offerTo_keyboard _ _
      · rfl
  unfold refreshSnapshots
  induction eight generalizing s with
  | nil => rfl
  | cons k rest ih =>
    rw [List.foldl_cons, ih]
    split
    · rw [one]
    · rfl

theorem ageEntry_aged {slot : Slot} {usage : Byte} {s : State} {e : HeldKey}
    (found : s.keys.held.find? (isHeldAs slot usage) = some e) (aged : hasAged s e = true) :
    ageEntry slot usage s =
      refreshSnapshots e.owners
        (s.setHeld
          (s.keys.held.map
            (fun x => if isHeldAs slot usage x then { x with owners := 0#8, stale := true } else x))) := by
  simp [ageEntry, found, aged]

theorem ageEntry_not_aged {slot : Slot} {usage : Byte} {s : State}
    (h : ∀ e, s.keys.held.find? (isHeldAs slot usage) = some e → hasAged s e = false) : ageEntry slot usage s = s := by
  unfold ageEntry
  split
  · next e found => rw [if_neg (by simp [h e found])]
  · rfl

theorem isHeldAs_iff {slot : Slot} {usage : Byte} {e : HeldKey} :
    isHeldAs slot usage e = true ↔ e.slot = slot ∧ e.usage = usage := by simp [isHeldAs]

/-- Settles O14. -/
theorem ageingReleasesOwners : Obligations.AgeingReleasesOwners := by
  unfold Obligations.AgeingReleasesOwners
  intro slot usage s
  refine ⟨fun e found aged => ?_, fun h => congrArg Host.Outcome.next (ageEntry_not_aged h)⟩
  have after := ageEntry_aged found aged
  refine ⟨_, congrArg Host.Outcome.next after, ?_, fun k owner => ⟨?_, ?_⟩, fun k other => ⟨?_, ?_⟩, by simp, by simp, ?_⟩
  · simp only [refreshSnapshots_held, State.setHeld_held, isHeldAs_iff]
  · rw [refreshSnapshots_snapshots, if_pos owner, refreshSnapshots_snapshot]
  · exact port_refreshSnapshots_frame _ _ k
  · rw [refreshSnapshots_snapshots, other]
    rfl
  · exact port_refreshSnapshots_of_not_member _ _ k other
  · rw [← after]
    exact ageEntry_frame slot usage s

end Sys2Proof.Safety
end

section
/-! PROOFS. The computer links: presence, link states, polls and the reports beside the engine (R101 to R104, R110, R115 to
R123). -/

namespace Sys2Proof.Safety

open Sys2Proof.Machine

/-! Presence (R101, R102). -/

theorem changePresence_of_eq (k : Computer) (s : State) : changePresence k (s.port k).raw s = s := by
  simp [changePresence, onPort]

theorem changePresence_of_ne {k : Computer} {present : Bool} {s : State} (h : present ≠ (s.port k).raw) :
    changePresence k present s =
      s.setPort k
        { s.port k with
          raw := present
          debounce := if present = (s.port k).sensed then none else some (s.clock + 32#32) } := by
  simp only [changePresence, onPort, if_neg h]
  rfl

theorem isDue_of_not {clock time : Millis} (h : ¬ 0 ≤ (clock - time).toInt) : isDue clock time = false :=
  decide_eq_false h

theorem expireDebounce_none {k : Computer} {s : State} (h : (s.port k).debounce = none) : expireDebounce k s = s := by
  simp [expireDebounce, h]

theorem expireDebounce_not_due {k : Computer} {e : Millis} {s : State} (h : (s.port k).debounce = some e)
    (due : ¬ 0 ≤ (s.clock - e).toInt) : expireDebounce k s = s := by
  simp only [expireDebounce, h, isDue_of_not due, Bool.false_eq_true, if_false]

theorem expireDebounce_due {k : Computer} {e : Millis} {s : State} (h : (s.port k).debounce = some e)
    (due : 0 ≤ (s.clock - e).toInt) :
    expireDebounce k s = if (s.port k).sensed then presenceLoss k s else presenceArrival k s := by
  simp only [expireDebounce, h, (isDue_iff _ _).mpr due, if_true]

/-- Settles O19. -/
theorem presenceLineIsDebounced : Obligations.PresenceLineIsDebounced := by
  unfold Obligations.PresenceLineIsDebounced
  intro k s
  refine ⟨fun present changed => congrArg Host.Outcome.next (changePresence_of_ne changed),
    congrArg Host.Outcome.next (changePresence_of_eq k s), fun h => congrArg Host.Outcome.next (expireDebounce_none h),
    fun e running => ⟨fun due => congrArg Host.Outcome.next (expireDebounce_not_due running due), fun due absent => ?_⟩⟩
  have arrival : expireDebounce k s = presenceArrival k s := by rw [expireDebounce_due running due, absent]; rfl
  exact congrArg Host.Outcome.next arrival

/-! Link states, arming and LEDs (R103, R104, R116, R123). -/

theorem moveLink_of_eq {k : Computer} {old new : LinkState} {s : State} (h : (s.port k).link = old) :
    moveLink k old new s = s.setPort k { s.port k with link := new } := if_pos h

theorem moveLink_of_ne {k : Computer} {old new : LinkState} {s : State} (h : (s.port k).link ≠ old) :
    moveLink k old new s = s := if_neg h

theorem armPort_ready {k : Computer} {s : State} (h : (s.port k).link = .ready) (armed : Bool) :
    armPort k armed s = s.setPort k { s.port k with armed := armed } := if_pos h

theorem armPort_other {k : Computer} {s : State} (h : (s.port k).link ≠ .ready) (armed : Bool) :
    armPort k armed s = s := if_neg h

theorem takeLedReport_ready {k : Computer} {s : State} (h : (s.port k).link = .ready) (leds : Leds) :
    takeLedReport k leds s =
      if s.focusUnit.focus = some k then refreshLeds (s.setPort k { s.port k with leds := leds })
      else s.setPort k { s.port k with leds := leds } := if_pos h

theorem takeLedReport_other {k : Computer} {s : State} (h : (s.port k).link ≠ .ready) (leds : Leds) :
    takeLedReport k leds s = s := if_neg h

theorem resumePort_suspended {k : Computer} {s : State} (h : (s.port k).link = .suspended) :
    resumePort k s = s.setPort k { s.port k with link := .ready } := by
  simp only [resumePort, h]
  exact moveLink_of_eq h

theorem resumePort_other {k : Computer} {s : State} (h : (s.port k).link ≠ .suspended) (g : (s.port k).link ≠ .waking) :
    resumePort k s = s := by
  unfold resumePort
  split
  · next waking _ => exact absurd waking g
  · next suspended => exact absurd suspended h
  · rfl

/-- Settles O21. -/
theorem linkEvents : Obligations.LinkEvents := by
  unfold Obligations.LinkEvents
  intro k leds s
  refine ⟨fun h => congrArg Host.Outcome.next (moveLink_of_eq h), fun h => congrArg Host.Outcome.next (moveLink_of_ne h),
    fun h => ⟨congrArg Host.Outcome.next (moveLink_of_eq h), congrArg Host.Outcome.next (armPort_ready h true),
      congrArg Host.Outcome.next (armPort_ready h false),
      fun other => congrArg Host.Outcome.next ((takeLedReport_ready h leds).trans (if_neg other)),
      fun focus => congrArg Host.Outcome.next ((takeLedReport_ready h leds).trans (if_pos focus))⟩,
    fun h => ⟨congrArg Host.Outcome.next (moveLink_of_ne h), congrArg Host.Outcome.next (armPort_other h true),
      congrArg Host.Outcome.next (armPort_other h false), congrArg Host.Outcome.next (takeLedReport_other h leds)⟩,
    fun h => congrArg Host.Outcome.next (resumePort_suspended h),
    fun h g => congrArg Host.Outcome.next (resumePort_other h g)⟩

/-! Polls (R110, R115). -/

theorem pollPort_other {k : Computer} {s : State} (h : (s.port k).link ≠ .ready) : pollPort k s = s := if_neg h

theorem pollPort_ready {k : Computer} {s : State} (h : (s.port k).link = .ready) :
    pollPort k s = testResync k (deliverHead k s) := if_pos h

theorem deliverHead_nil {k : Computer} {s : State} (h : (s.port k).queue = []) : deliverHead k s = s := by
  simp [deliverHead, h]

theorem deliverHead_cons {k : Computer} {s : State} {head : Report} {rest : List Report}
    (h : (s.port k).queue = head :: rest) :
    deliverHead k s =
      { s.setPort k { s.port k with queue := rest } with sent := s.sent ++ [.delivered k head] } := by
  simp only [deliverHead, h]
  rfl

theorem testResync_none {k : Computer} {s : State} (h : (s.port k).resync = none) : testResync k s = s := by
  simp [testResync, h]

theorem testResync_long {k : Computer} {s : State} (h : 4 < (s.port k).queue.length) : testResync k s = s := by
  unfold testResync
  split
  · exact if_neg (Nat.not_le.mpr h)
  · rfl

theorem testResync_ends {k : Computer} {s : State} {acc : Resync} (h : (s.port k).resync = some acc)
    (few : (s.port k).queue.length ≤ 4) : testResync k s = endResync k acc s := by
  simp only [testResync, h]
  exact if_pos few

/-- A port after the delivery of a poll: the head gone from the queue (R110). -/
def afterDelivery (k : Computer) (rest : List Report) (sentNow : List Sent) (s : State) : State :=
  { s.setPort k { s.port k with queue := rest } with sent := s.sent ++ sentNow }

theorem deliverHead_eq {k : Computer} {s : State} {rest : List Report} {sentNow : List Sent}
    (h : ((s.port k).queue = [] ∧ rest = [] ∧ sentNow = []) ∨
      ∃ head, (s.port k).queue = head :: rest ∧ sentNow = [.delivered k head]) :
    deliverHead k s = afterDelivery k rest sentNow s := by
  rcases h with ⟨empty, rfl, rfl⟩ | ⟨head, queue, rfl⟩
  · have same : { s.port k with queue := [] } = s.port k := by rw [← empty]
    rw [deliverHead_nil empty, afterDelivery, same, State.setPort_port_self, List.append_nil]
  · exact deliverHead_cons queue

theorem afterDelivery_port (k : Computer) (rest : List Report) (sentNow : List Sent) (s : State) :
    (afterDelivery k rest sentNow s).port k = { s.port k with queue := rest } := State.port_setPort_self s k _

/-- A poll that ends a RESYNC, whatever it delivers (R115). -/
theorem pollPort_ends {k : Computer} {s : State} {rest : List Report} {sentNow : List Sent} {acc : Resync}
    (ready : (s.port k).link = .ready) (resync : (s.port k).resync = some acc) (few : rest.length ≤ 4)
    (delivered : ((s.port k).queue = [] ∧ rest = [] ∧ sentNow = []) ∨
      ∃ head, (s.port k).queue = head :: rest ∧ sentNow = [.delivered k head]) :
    pollPort k s =
      { s.setPort k
          (noteReports (resyncReports s k acc)
            { s.port k with
              queue := rest ++ resyncReports s k acc
              resync := none
              resyncCount := min ((s.port k).resyncCount + 1) 65535
              sticky := { (s.port k).sticky with resyncOccurred := true } }) with
        sent := s.sent ++ sentNow } := by
  have port := afterDelivery_port k rest sentNow s
  have reports : resyncReports (afterDelivery k rest sentNow s) k acc = resyncReports s k acc := by
    simp only [resyncReports, resyncReport, port]
    rfl
  rw [pollPort_ready ready, deliverHead_eq delivered, testResync_ends (by rw [port]; exact resync) (by rw [port]; exact few)]
  simp only [endResync, onPort, port, reports]
  rw [afterDelivery]
  exact congrArg (fun t : State => { t with sent := s.sent ++ sentNow }) (State.setPort_setPort s k _ _)

/-- Settles O22. -/
theorem pollDelivers : Obligations.PollDelivers := by
  unfold Obligations.PollDelivers
  intro k s
  have noMark {acc : Resync} (h : acc.pointerDropped = false) : resyncReports s k acc = [.keyboard (s.snapshot k)] := by
    simp [resyncReports, h]
  have mark {acc : Resync} (h : acc.pointerDropped = true) :
      resyncReports s k acc = [.keyboard (s.snapshot k), resyncReport s k acc] := by simp [resyncReports, h]
  refine ⟨fun h => congrArg Host.Outcome.next (pollPort_other h), fun ready noResync empty => ?_,
    fun head rest ready queue stays => ?_, fun head rest acc ready queue resync few dropped => ?_,
    fun rest sentNow acc done pair ready resync few delivered => ?_⟩
  · have poll : pollPort k s = s := by rw [pollPort_ready ready, deliverHead_nil empty, testResync_none noResync]
    exact congrArg Host.Outcome.next poll
  · have port : ((deliverHead k s).port k) = { s.port k with queue := rest } := by
      rw [deliverHead_cons queue]
      exact State.port_setPort_self s k _
    have test : testResync k (deliverHead k s) = deliverHead k s := by
      rcases stays with noResync | many
      · exact testResync_none (by rw [port]; exact noResync)
      · exact testResync_long (by rw [port]; exact many)
    exact congrArg Host.Outcome.next (((pollPort_ready ready).trans test).trans (deliverHead_cons queue))
  · have poll := pollPort_ends ready resync few (.inr ⟨head, queue, rfl⟩)
    rw [noMark dropped] at poll
    exact congrArg Host.Outcome.next poll
  · rintro rfl rfl
    have poll := pollPort_ends ready resync few delivered
    refine ⟨fun dropped => ?_, fun dropped form => ?_, fun dropped form => ?_⟩
    · rw [noMark dropped] at poll
      exact congrArg Host.Outcome.next poll
    · rw [mark dropped, show resyncReport s k acc = _ by simp only [resyncReport, form]; rfl] at poll
      exact congrArg Host.Outcome.next poll
    · rw [mark dropped, show resyncReport s k acc = _ by simp only [resyncReport, form]; rfl] at poll
      exact congrArg Host.Outcome.next poll

/-! Reports beside the engine (R117, R120, R167 to R169). -/

/-- Settles O23. -/
theorem reportsBesideTheEngine : Obligations.ReportsBesideTheEngine := by
  unfold Obligations.ReportsBesideTheEngine
  intro k b s
  refine ⟨fun h => ⟨congrArg Host.Outcome.next (if_neg h), congrArg Host.Outcome.next (if_neg fun g => h g.1),
    congrArg Host.Outcome.next (if_neg h)⟩, fun ready managed => ⟨?_, fun other => ?_⟩, fun ready foreign => ⟨?_, ?_⟩,
    fun r code reaches noCode => ?_⟩
  · have read : readResult k s = _ := (if_pos ready).trans (if_pos managed)
    exact congrArg Host.Outcome.next read
  · have mismatch : takeMismatch k b s = countMismatch s := by simp [takeMismatch, ready, managed, other]
    exact congrArg Host.Outcome.next mismatch
  · have read : readResult k s = countForeign (s.send (.readRefused k)) := by simp [readResult, ready, foreign]
    exact congrArg Host.Outcome.next read
  · have taken : takeForeign k s = countForeign s := by simp [takeForeign, ready, foreign]
    exact congrArg Host.Outcome.next taken
  · have managed : s.isManagement r.port = true := managed_of_reachesEngine reaches
    have taken : takeBadCommand code r s = answered r code .badCommand [] s := by
      have none : code ∉ commandCodes := fun mem =>
        Bool.false_ne_true (noCode.symm.trans (List.contains_iff_mem.mpr mem))
      exact ((if_pos reaches).trans (if_neg none)).trans (writeSlot_of_managed managed _)
    exact congrArg Host.Outcome.next taken

end Sys2Proof.Safety
end

section
/-! PROOFS. Wake attempts and ports that leave the queueable states (R105 to R107, R127 to R132). -/

namespace Sys2Proof.Safety

open Sys2Proof.Machine

/-! The engine at the end of a wake attempt (R132, R173). -/

theorem completeDeferred_of_foreign {d : Deferred} {s : State} (h : s.isManagement d.port = false) (result : Result) :
    completeDeferred d result s = { s with engine := none } := by
  simp [completeDeferred, writeSlot, h]

theorem engineWakeEnded_waits {k : Computer} {d : Deferred} {s : State} (h : s.engine = some d) (wait : d.wait = .wakeOf k)
    (outcome : Result) : engineWakeEnded k outcome s = completeDeferred d outcome s := by
  simp [engineWakeEnded, h, wait]

theorem engineWakeEnded_other {k : Computer} {d : Deferred} {s : State} (h : s.engine = some d) (wait : d.wait ≠ .wakeOf k)
    (outcome : Result) : engineWakeEnded k outcome s = s := by
  simp [engineWakeEnded, h, wait]

/-- The state after the end of an attempt, at the engine's three kinds of state. -/
theorem engineWakeEnded_cases (k : Computer) (outcome : Result) (u : State) :
    (u.engine = none → engineWakeEnded k outcome u = u) ∧
      ∀ d, u.engine = some d →
        (d.wait ≠ .wakeOf k → engineWakeEnded k outcome u = u) ∧
          (d.wait = .wakeOf k → u.isManagement d.port = true →
            engineWakeEnded k outcome u =
              { u.setPort d.port
                  { u.port d.port with
                    slot :=
                      some { tag := d.tag, command := deferredCode d.command, result := outcome, data := [] } } with
                engine := none }) ∧
          (d.wait = .wakeOf k → u.isManagement d.port = false →
            engineWakeEnded k outcome u = { u with engine := none }) :=
  ⟨engineWakeEnded_idle k outcome u, fun _ busy =>
    ⟨fun wait => engineWakeEnded_other busy wait outcome,
      fun wait managed => (engineWakeEnded_waits busy wait outcome).trans (completeDeferred_of_managed managed outcome),
      fun wait foreign => (engineWakeEnded_waits busy wait outcome).trans (completeDeferred_of_foreign foreign outcome)⟩⟩

/-! The wake timer and a resume (R127 to R129). -/

/-- What becomes of the port when its attempt fails (R114, R128). -/
def failedPort (p : Port) : Port :=
  { p with
    attempt := none
    link := .suspended
    queue := []
    resync :=
      some
        { (p.resync.getD zeroResync) with
          pointerDropped := (p.resync.getD zeroResync).pointerDropped || p.queue.any isPointerReport }
    sticky :=
      { p.sticky with wakeFailed := true, queueFlushed := p.sticky.queueFlushed || !p.queue.isEmpty } }

/-- The part after an attempt has failed, before the engine is told. -/
def afterFailure (k : Computer) (a : WakeAttempt) (s : State) : State :=
  record (.wakeFailed k a.signals) (s.setPort k (failedPort (s.port k)))

/-- The part after an attempt has succeeded, before the engine is told. -/
def afterSuccess (k : Computer) (a : WakeAttempt) (s : State) : State :=
  record (.wakeDone k a.signals) (s.setPort k { s.port k with attempt := none, link := .ready })

theorem failWake_eq (k : Computer) (a : WakeAttempt) (s : State) :
    failWake k a s = engineWakeEnded k .wakeFailed (afterFailure k a s) := by
  have flush (p : Port) : failureFlush
      { p with attempt := none, link := .suspended, sticky := { p.sticky with wakeFailed := true } } = failedPort p := by
    simp [failureFlush, flushIntoResync, failedPort]
  have ports : onPort k failureFlush (onPort k (fun p =>
      { p with attempt := none, link := .suspended, sticky := { p.sticky with wakeFailed := true } }) s) =
      s.setPort k (failedPort (s.port k)) := by
    rw [onPort_onPort]
    exact congrArg (s.setPort k) (flush _)
  exact congrArg (fun u => engineWakeEnded k .wakeFailed (record (.wakeFailed k a.signals) u)) ports

section
variable {k : Computer} {a : WakeAttempt} {s : State}
  (waking : (s.port k).link = .waking) (attempt : (s.port k).attempt = some a)
include waking attempt

theorem resumePort_waking : resumePort k s = engineWakeEnded k .done (afterSuccess k a s) := by
  simp only [resumePort, waking, attempt]
  rfl

theorem expireWake_not_due (h : ¬ 0 ≤ (s.clock - a.expiry).toInt) : expireWake k s = s := by
  simp only [expireWake, waking, attempt, isDue_of_not h, Bool.false_eq_true, if_false]

theorem expireWake_resends (h : 0 ≤ (s.clock - a.expiry).toInt) (more : a.signals ≤ a.retryLimit) :
    expireWake k s = resendWake k a s := by
  simp only [expireWake, waking, attempt, (isDue_iff _ _).mpr h, if_true, if_pos more]

theorem expireWake_fails (h : 0 ≤ (s.clock - a.expiry).toInt) (spent : a.retryLimit < a.signals) :
    expireWake k s = engineWakeEnded k .wakeFailed (afterFailure k a s) := by
  simp only [expireWake, waking, attempt, (isDue_iff _ _).mpr h, if_true, if_neg (Nat.not_le.mpr spent), failWake_eq]

end

/-- Settles O24. -/
theorem wakeAttemptRunsAndEnds : Obligations.WakeAttemptRunsAndEnds := by
  unfold Obligations.WakeAttemptRunsAndEnds
  intro k a s waking attempt
  have success := resumePort_waking waking attempt
  have afterwards := engineWakeEnded_cases k
  refine ⟨fun h => congrArg Host.Outcome.next (expireWake_not_due waking attempt h),
    fun h more => congrArg Host.Outcome.next (expireWake_resends waking attempt h more), fun h spent idle => ?_,
    fun idle => ?_, ?_⟩
  · exact congrArg Host.Outcome.next ((expireWake_fails waking attempt h spent).trans ((afterwards _ _).1 idle))
  · exact congrArg Host.Outcome.next (success.trans ((afterwards _ _).1 idle))
  · intro c outcome u ending d busy
    have taken : exec c s = .next (engineWakeEnded k outcome u) ∧ u.engine = s.engine ∧
        u.isManagement d.port = s.isManagement d.port := by
      rcases ending with ⟨rfl, rfl, rfl⟩ | ⟨rfl, h, spent, rfl, rfl⟩
      · exact ⟨congrArg Host.Outcome.next success, rfl, rfl⟩
      · exact ⟨congrArg Host.Outcome.next (expireWake_fails waking attempt h spent), rfl, rfl⟩
    obtain ⟨taken, engine, management⟩ := taken
    obtain ⟨other, managed, foreign⟩ := (afterwards outcome u).2 d (engine.trans busy)
    rw [management] at managed foreign
    rw [taken]
    exact ⟨fun wait => congrArg Host.Outcome.next (other wait), fun wait h => congrArg Host.Outcome.next (managed wait h),
      fun wait h => congrArg Host.Outcome.next (foreign wait h)⟩

/-! Leaving the queueable states (R107). -/

/-- A port that has left the queueable states, with the engine told of its wake attempt (R130). -/
def departedTold (k : Computer) (lost : Bool) (s : State) : State :=
  if (s.port k).attempt.isSome then engineWakeEnded k .notPresent (departed k lost s) else departed k lost s

theorem port_clearLeds (k : Computer) (s : State) :
    (clearLeds k s).port k = { s.port k with leds := ledsOff } := by
  unfold clearLeds refreshLeds
  dsimp only
  repeat' split
  all_goals simp

theorem leaveQueueable_eq (k : Computer) (lost : Bool) (s : State) :
    leaveQueueable k (onPort k (departing lost) s) = engineIssuerLost k (departedTold k lost s) := by
  let cleared := clearLeds k (leaveBroadcast k (forgetOwner k (onPort k flushPort (onPort k (departing lost) s))))
  have attempt : (cleared.port k).attempt = (s.port k).attempt := by
    have port : cleared.port k = { flushPort (departing lost (s.port k)) with leds := ledsOff } := by
      simp [cleared, port_clearLeds, leaveBroadcast]
    rw [port]
    cases lost <;> rfl
  have told : abandonWake k cleared = departedTold k lost s := by
    unfold abandonWake departedTold
    rw [attempt]
    by_cases some : (s.port k).attempt.isSome = true
    · rw [if_pos some, if_pos some]
      rfl
    · rw [if_neg some, if_neg some]
      have gone : (cleared.port k).attempt = none := by rw [attempt]; simpa using some
      have same : ({ cleared.port k with attempt := none } : Port) = cleared.port k := by rw [← gone]
      exact ((congrArg (cleared.setPort k) same).trans (State.setPort_port_self _ _)).symm
  exact congrArg (engineIssuerLost k) told

/-! What R107 leaves of the engine and the ports. -/

theorem engineIssuerLost_engine (k : Computer) (u : State) :
    (engineIssuerLost k u).engine =
      (match u.engine with
       | some d => if d.port = k then none else some d
       | none => none) := by
  unfold engineIssuerLost
  dsimp only [onPort_engine]
  cases h : u.engine with
  | none => exact h
  | some d =>
    dsimp only
    split
    · rfl
    · exact h

theorem port_engineIssuerLost (k : Computer) (u : State) (j : Computer) :
    (engineIssuerLost k u).port j = if j = k then { u.port k with slot := none } else u.port j := by
  have ports : (engineIssuerLost k u).ports = (onPort k (fun p => { p with slot := none }) u).ports := by
    unfold engineIssuerLost
    dsimp only
    repeat' split
    all_goals rfl
  rw [State.port, ports]
  exact port_onPort k (fun p => { p with slot := none }) u j

theorem departedTold_engine (k : Computer) (lost : Bool) (s : State) :
    (departedTold k lost s).engine =
      (match s.engine with
       | some d => if d.wait = .wakeOf k ∧ (s.port k).attempt.isSome = true then none else some d
       | none => none) := by
  unfold departedTold
  split
  · next attempt =>
    cases h : s.engine with
    | none => rw [engineWakeEnded_idle _ _ _ (by simp [h])]; simp [h]
    | some d =>
      have busy : (departed k lost s).engine = some d := by simp [h]
      by_cases wait : d.wait = .wakeOf k
      · rw [engineWakeEnded_waits busy wait]; simp [wait, attempt]
      · rw [engineWakeEnded_other busy wait]; simp [wait, h]
  · next attempt => cases h : s.engine <;> simp [h, attempt]

/-- Port j's record after the engine has been told: the deferred WAKE's result in its slot, or as before. -/
theorem port_departedTold (k : Computer) (lost : Bool) (s : State) (j : Computer) :
    (∃ d, s.engine = some d ∧ d.wait = .wakeOf k ∧ (s.port k).attempt.isSome = true ∧ d.port = j ∧
        s.isManagement j = true ∧
        (departedTold k lost s).port j =
          { (departed k lost s).port j with
            slot := some { tag := d.tag, command := deferredCode d.command, result := .notPresent, data := [] } }) ∨
      ((∀ d, s.engine = some d → d.wait = .wakeOf k → (s.port k).attempt.isSome = true → d.port = j →
          s.isManagement j = false) ∧
        (departedTold k lost s).port j = (departed k lost s).port j) := by
  have management : (departed k lost s).isManagement = s.isManagement := by
    funext i
    simp [State.isManagement]
  by_cases told : ∃ d, s.engine = some d ∧ d.wait = .wakeOf k ∧ (s.port k).attempt.isSome = true
  · obtain ⟨d, busy, wait, attempt⟩ := told
    have eq : departedTold k lost s = completeDeferred d .notPresent (departed k lost s) := by
      rw [departedTold, if_pos attempt, engineWakeEnded_waits (by simpa using busy) wait]
    rw [eq, port_completeDeferred, management]
    by_cases here : j = d.port ∧ s.isManagement d.port = true
    · obtain ⟨rfl, managed⟩ := here
      exact .inl ⟨d, busy, wait, attempt, rfl, managed, if_pos ⟨rfl, managed⟩⟩
    · refine .inr ⟨fun e busy' _ _ at_j => ?_, if_neg here⟩
      obtain rfl : d = e := by rw [busy] at busy'; exact Option.some.inj busy'
      subst at_j
      simpa using here
  · refine .inr ⟨fun d busy wait attempt _ => absurd ⟨d, busy, wait, attempt⟩ told, ?_⟩
    have eq : departedTold k lost s = departed k lost s := by
      unfold departedTold
      split
      · next attempt =>
        cases busy : s.engine with
        | none => exact engineWakeEnded_idle _ _ _ (by simpa using busy)
        | some d => exact engineWakeEnded_other (by simpa using busy) (fun wait => told ⟨d, busy, wait, attempt⟩) _
      · rfl
    rw [eq]

/-- What an LED notice that depends on a computer being the focus sends (R21). -/
theorem notice_if_focus (k : Computer) (u : State) :
    (u.focusUnit.focus = some k → ledValue u ≠ u.console.ledSent →
      (if u.focusUnit.focus = some k then refreshLeds u else u).sent = u.sent ++ [.ledNotice (ledValue u)] ∧
        (if u.focusUnit.focus = some k then refreshLeds u else u).console = { u.console with ledSent := ledValue u }) ∧
    (u.focusUnit.focus ≠ some k ∨ ledValue u = u.console.ledSent →
      (if u.focusUnit.focus = some k then refreshLeds u else u) = u) := by
  refine ⟨fun focus differs => ?_, fun same => ?_⟩
  · have send : refreshLeds u = sendLeds u := if_neg differs
    rw [if_pos focus, send]
    exact ⟨rfl, rfl⟩
  · split
    · next focus => exact if_pos (same.resolve_left fun other => other focus)
    · rfl

/-- A port that leaves the queueable states, its LEDs off and nothing yet told to the console. -/
def beforeNotice (k : Computer) (lost : Bool) (s : State) : State :=
  onPort k (fun p => { p with leds := ledsOff })
    (leaveBroadcast k (forgetOwner k (onPort k flushPort (onPort k (departing lost) s))))

theorem departed_eq (k : Computer) (lost : Bool) (s : State) :
    departed k lost s =
      onPort k (fun p => { p with attempt := none })
        (if (beforeNotice k lost s).focusUnit.focus = some k then refreshLeds (beforeNotice k lost s)
         else beforeNotice k lost s) := rfl

theorem beforeNotice_focus (k : Computer) (lost : Bool) (s : State) :
    (beforeNotice k lost s).focusUnit.focus = s.focusUnit.focus := rfl

theorem beforeNotice_sent (k : Computer) (lost : Bool) (s : State) : (beforeNotice k lost s).sent = s.sent := rfl

theorem beforeNotice_console (k : Computer) (lost : Bool) (s : State) : (beforeNotice k lost s).console = s.console := rfl

theorem ledValue_beforeNotice (k : Computer) (lost : Bool) (s : State) :
    ledValue (beforeNotice k lost s) = ledValue (departed k lost s) := by
  refine ledValue_congr (by simp [beforeNotice]) (by simp [beforeNotice_focus]) fun j => ?_
  rw [departed_port]
  by_cases h : j = k
  · subst h
    simp [beforeNotice]
  · simp [beforeNotice, h, port_onPort_of_ne _ _ _ _ h, leaveBroadcast]

/-- The LED notice of a departure (R21, R107). -/
theorem departed_notice (k : Computer) (lost : Bool) (s : State) :
    (s.focusUnit.focus = some k → ledValue (departed k lost s) ≠ s.console.ledSent →
      (departed k lost s).sent = s.sent ++ [.ledNotice (ledValue (departed k lost s))] ∧
        (departed k lost s).console = { s.console with ledSent := ledValue (departed k lost s) }) ∧
    (s.focusUnit.focus ≠ some k ∨ ledValue (departed k lost s) = s.console.ledSent →
      (departed k lost s).sent = s.sent ∧ (departed k lost s).console = s.console) := by
  obtain ⟨sends, keeps⟩ := notice_if_focus k (beforeNotice k lost s)
  rw [beforeNotice_focus, ledValue_beforeNotice, beforeNotice_console] at sends keeps
  rw [beforeNotice_sent] at sends
  have eq := departed_eq k lost s
  rw [beforeNotice_focus] at eq
  refine ⟨fun focus differs => ?_, fun same => ?_⟩
  · obtain ⟨sent, console⟩ := sends focus differs
    exact ⟨(congrArg State.sent eq).trans sent, (congrArg State.console eq).trans console⟩
  · have kept := eq.trans (congrArg (onPort k (fun p => { p with attempt := none })) (keeps same))
    rw [kept, onPort_sent, onPort_console, beforeNotice_sent, beforeNotice_console]
    exact ⟨rfl, rfl⟩

end Sys2Proof.Safety
end

section
/-! PROOFS. Bus resets and presence losses (R105 to R107). -/

namespace Sys2Proof.Safety

open Sys2Proof.Machine

/-- A port's record after it has left the queueable states (R107, R168). -/
def leftPort (lost : Bool) (p : Port) : Port :=
  { flushPort (departing lost p) with leds := ledsOff, attempt := none, slot := none }

/-- A port that has left the queueable states, with every effect of R107. -/
def left (k : Computer) (lost : Bool) (s : State) : State := engineIssuerLost k (departedTold k lost s)

theorem onlySlot_departedTold (k : Computer) (lost : Bool) (s : State) (j : Computer) :
    OnlySlot ((departed k lost s).port j) ((departedTold k lost s).port j) := by
  unfold departedTold
  split
  · exact onlySlot_engineWakeEnded _ _ _ _
  · exact .refl _

theorem departedTold_frame (k : Computer) (lost : Bool) (s : State) :
    departedTold k lost s =
      { departed k lost s with ports := (departedTold k lost s).ports, engine := (departedTold k lost s).engine } := by
  unfold departedTold
  split
  · exact engineWakeEnded_frame _ _ _
  · rfl

theorem left_frame (k : Computer) (lost : Bool) (s : State) :
    left k lost s =
      { departed k lost s with ports := (left k lost s).ports, engine := (left k lost s).engine } := by
  have told := departedTold_frame k lost s
  have lostIssuer := engineIssuerLost_frame k (departedTold k lost s)
  calc left k lost s
      = { departedTold k lost s with ports := (left k lost s).ports, engine := (left k lost s).engine } := lostIssuer
    _ = { departed k lost s with ports := (left k lost s).ports, engine := (left k lost s).engine } := by rw [told]

section
variable (k : Computer) (lost : Bool) (s : State)

theorem left_port_self : (left k lost s).port k = leftPort lost (s.port k) := by
  have slot := onlySlot_departedTold k lost s k
  rw [departed_port, if_pos rfl] at slot
  rw [left, port_engineIssuerLost, if_pos rfl, slot]
  rfl

theorem left_port_of_ne {j : Computer} (h : j ≠ k) : (left k lost s).port j = (departedTold k lost s).port j := by
  rw [left, port_engineIssuerLost, if_neg h]

theorem left_leds (j : Computer) : ((left k lost s).port j).leds = ((departed k lost s).port j).leds := by
  by_cases h : j = k
  · subst h
    rw [left_port_self, departed_port, if_pos rfl]
    rfl
  · rw [left_port_of_ne k lost s h, onlySlot_departedTold k lost s j]

theorem left_sent : (left k lost s).sent = (departed k lost s).sent := by rw [left_frame]
theorem left_console : (left k lost s).console = (departed k lost s).console := by rw [left_frame]
theorem left_keys : (left k lost s).keys = (forgetOwner k s).keys := by rw [left_frame, departed_keys]
theorem left_journal : (left k lost s).journal = s.journal := by rw [left_frame, departed_journal]
theorem left_focusUnit :
    (left k lost s).focusUnit = { s.focusUnit with broadcast := without s.focusUnit.broadcast k } := by
  rw [left_frame, departed_focusUnit]

theorem ledValue_left : ledValue (left k lost s) = ledValue (departed k lost s) :=
  ledValue_congr (by rw [left_frame]) (by rw [left_frame]) (left_leds k lost s)

theorem left_engine :
    (left k lost s).engine =
      (match s.engine with
       | some d => if d.port = k ∨ (d.wait = .wakeOf k ∧ (s.port k).attempt.isSome = true) then none else some d
       | none => none) := by
  rw [left, engineIssuerLost_engine, departedTold_engine]
  cases s.engine with
  | none => rfl
  | some d =>
    dsimp only
    by_cases told : d.wait = .wakeOf k ∧ (s.port k).attempt.isSome = true
    · rw [if_pos told, if_pos (.inr told)]
    · rw [if_neg told]
      simp only [told, or_false]

/-- A port that leaves the queueable states has every effect of R107. -/
theorem leftQueueable_left : LeftQueueable k (leftPort lost (s.port k)) s (left k lost s) := by
  have noticed := departed_notice k lost s
  rw [← ledValue_left, ← left_sent, ← left_console] at noticed
  refine ⟨left_port_self k lost s, fun j other => ?_, by rw [left_keys]; rfl, by rw [left_keys]; simp [forgetOwner],
    fun j other => ?_, fun b => ?_, by rw [left_keys]; rfl, left_focusUnit k lost s, left_engine k lost s, noticed.1,
    noticed.2, ?_⟩
  · have unchanged : (departed k lost s).port j = s.port j := by rw [departed_port, if_neg other]
    rw [left_port_of_ne k lost s other, ← unchanged]
    exact port_departedTold k lost s j
  · rw [left_keys]
    exact get_set_of_ne _ _ _ _ other
  · rw [left_keys]
    exact get_map _ _ _
  · refine (left_frame k lost s).trans ?_
    apply State.eq_of_fields
    all_goals simp [left_sent, left_console, left_keys, left_journal, left_focusUnit]

end

/-! Presence losses and bus resets (R105, R106). -/

theorem presenceLoss_queueable {k : Computer} {s : State} (h : s.queueable k = true) :
    presenceLoss k s = left k true (record (.detach k) s) :=
  (if_pos h).trans (leaveQueueable_eq k true (record (.detach k) s))

theorem resetBus_queueable {k : Computer} {s : State} (h : s.queueable k = true) :
    resetBus k s = left k false (recordFocusReset k s) := by
  have linked : (s.port k).link ≠ .detached := fun detached => by simp [State.queueable, detached, LinkState.queueable] at h
  have commute : recordFocusReset k (onPort k (departing false) s) = onPort k (departing false) (recordFocusReset k s) := by
    unfold recordFocusReset
    rw [onPort_focusUnit]
    split
    · rfl
    · rfl
  have reset : resetBus k s = leaveQueueable k (recordFocusReset k (onPort k (departing false) s)) :=
    (if_neg linked).trans (if_pos h)
  rw [reset, commute, leaveQueueable_eq]
  rfl

theorem resetBus_attached {k : Computer} {s : State} (h : (s.port k).link = .attached) :
    resetBus k s =
      recordFocusReset k
        (s.setPort k { s.port k with armed := false, sticky := { (s.port k).sticky with busReset := true } }) := by
  have other : s.queueable k = false := by simp [State.queueable, h, LinkState.queueable]
  have port : ({ s.port k with
      link := .attached, armed := false, sticky := { (s.port k).sticky with busReset := true } } : Port) =
      { s.port k with armed := false, sticky := { (s.port k).sticky with busReset := true } } := by rw [← h]
  have reset : resetBus k s = recordFocusReset k (onPort k (departing false) s) := by
    simp only [resetBus, h, other, leaveIf]
    rfl
  exact reset.trans (congrArg (fun p => recordFocusReset k (s.setPort k p)) port)

/-- Settles O20. -/
theorem portLeavesQueueable : Obligations.PortLeavesQueueable := by
  unfold Obligations.PortLeavesQueueable
  intro k s
  refine ⟨fun queueable => ?_, fun detached => congrArg Host.Outcome.next (if_pos detached), fun attached t ht => ?_,
    fun e running due present => ⟨fun queueable => ?_, fun attached => ?_⟩⟩
  · refine ⟨_, congrArg Host.Outcome.next (resetBus_queueable queueable), ?_, ?_⟩
    · have effects := leftQueueable_left k false (recordFocusReset k s)
      unfold recordFocusReset at effects ⊢
      split
      · next focus =>
        rw [if_pos focus] at effects
        exact effects
      · next other =>
        rw [if_neg other] at effects
        exact effects
    · rw [left_journal]
      exact apply_ite State.journal _ _ _
  · subst ht
    exact congrArg Host.Outcome.next (resetBus_attached attached)
  · have loss : expireDebounce k s = left k true (record (.detach k) s) := by
      rw [expireDebounce_due running due, if_pos present, presenceLoss_queueable queueable]
    refine ⟨_, congrArg Host.Outcome.next loss, ?_, left_journal _ _ _⟩
    exact leftQueueable_left k true (record (.detach k) s)
  · have other : s.queueable k = false := by simp [State.queueable, attached, LinkState.queueable]
    have loss : expireDebounce k s = record (.detach k) (onPort k (departing true) s) := by
      rw [expireDebounce_due running due, if_pos present]
      unfold presenceLoss
      rw [other]
      rfl
    exact congrArg Host.Outcome.next loss

end Sys2Proof.Safety
end

section
/-! PROOFS. The video crosspoint: inputs, sinks, frame starts and the share-out output (R136 to R145, R150, R151). -/

namespace Sys2Proof.Safety

open Sys2Proof.Machine

/-! Inputs (R136). -/

theorem loseSignal_none {j : Input} {s : State} (h : (s.input j).signal = none) : loseSignal j s = s := by
  have same : ({ s.input j with signal := none } : InputRecord) = s.input j := by rw [← h]
  have set : s.video.inputs.set j.val (s.input j) j.isLt = s.video.inputs := set_get_self _ j
  simp only [loseSignal, State.setInput, same, set]

theorem countFrame_none {j : Input} {s : State} (h : (s.input j).signal = none) : countFrame j s = s := by
  simp [countFrame, h]

theorem countFrame_found {j : Input} {m : VideoMode} {s : State} (h : (s.input j).signal = some m) :
    countFrame j s = s.setInput j { signal := some m, frame := (s.input j).frame + 1#32 } := by
  simp [countFrame, h]

theorem exec_deskReset_input (r : CommandReport) (answers : Bool) (j : Input) (s : State) :
    (takeCommand deskResetSpec (deskResetBody answers) r s).input j = s.input j :=
  takeCommand_reading (fun t => t.input j) (fun _ _ => by simp [State.input]) (fun _ _ _ => by simp [State.input])
    deskResetSpec _ r s (by
      unfold deskResetBody
      split
      · rfl
      · simp [State.input])

/-- Settles O25. -/
theorem inputEvents : Obligations.InputEvents := by
  unfold Obligations.InputEvents
  refine ⟨fun j m s => ⟨rfl, rfl, fun none => ⟨congrArg Host.Outcome.next (loseSignal_none none),
    congrArg Host.Outcome.next (countFrame_none none)⟩, fun found => congrArg Host.Outcome.next (countFrame_found found)⟩,
    fun image j s t on => ?_, fun r answers j s t reset => ?_⟩
  · obtain rfl : powerOn image s = t := Host.Outcome.next.inj on
    rw [State.input, powerOn_video]
    exact get_replicate _ j
  · obtain rfl : takeCommand deskResetSpec (deskResetBody answers) r s = t := Host.Outcome.next.inj reset
    exact exec_deskReset_input r answers j s

/-! The engine's notice of a commit (R141, R172). -/

/-- Whether a touched screen is the one named and still unresolved. -/
abbrev Concerned (sc : Screen) (x : Touched) : Prop := x.screen = sc ∧ x.resolution = .unresolved

theorem resolveTouched_eq_self {sc : Screen} {src : Source} {ts : List Touched} :
    resolveTouched sc src ts = ts ↔ ∀ x ∈ ts, ¬ Concerned sc x := by
  have same : resolveTouched sc src ts = ts ↔ ∀ x ∈ ts,
      (if Concerned sc x then { x with resolution := if src = x.asked then .kept else .lost } else x) = x := by
    conv_lhs => rhs; rw [← List.map_id ts]
    exact List.map_inj_left
  rw [same]
  refine forall₂_congr fun x _ => ⟨fun eq concerned => ?_, fun other => if_neg other⟩
  rw [if_pos concerned] at eq
  have resolution := congrArg Touched.resolution eq
  dsimp only at resolution
  rw [concerned.2] at resolution
  split at resolution
  · cases resolution
  · cases resolution

theorem screensResult_eq (ts : List Touched) (skipped : Bool) :
    screensResult ts skipped =
      if ∃ x ∈ ts, x.resolution = .lost then .superseded else if skipped = true then .partly else .done := by
  simp only [screensResult, List.any_eq_true, decide_eq_true_eq]

theorem engineCommit_screens {sc : Screen} {src : Source} {s : State} {d : Deferred} {ts : List Touched}
    (busy : s.engine = some d) (wait : d.wait = .screens ts) :
    engineCommit sc src s =
      if resolveTouched sc src ts = ts then s
      else if (resolveTouched sc src ts).all (fun t => decide (t.resolution ≠ .unresolved)) then
        completeDeferred d (screensResult (resolveTouched sc src ts) d.focusSkipped) s
      else { s with engine := some { d with wait := .screens (resolveTouched sc src ts) } } := by
  simp only [engineCommit, busy, wait]

/-- What the engine makes of a commit is what the statements say of it. -/
theorem commitTold_engineCommit (sc : Screen) (src : Source) (s : State) : CommitTold sc src s (engineCommit sc src s) := by
  constructor
  · intro other
    have same : engineCommit sc src s = s := by
      cases busy : s.engine with
      | none => exact engineCommit_idle sc src s busy
      | some d =>
        cases wait : d.wait with
        | screens ts =>
          rw [engineCommit_screens busy wait]
          exact if_pos (resolveTouched_eq_self.mpr (other d busy ts wait))
        | _ => simp [engineCommit, busy, wait]
    rw [same]
    exact ⟨rfl, rfl⟩
  · rintro d ts after busy wait ⟨x, mem, concerned⟩ rfl
    have changes : resolveTouched sc src ts ≠ ts := fun eq => resolveTouched_eq_self.mp eq x mem concerned
    have told := engineCommit_screens (sc := sc) (src := src) busy wait
    rw [if_neg changes] at told
    change (_ ∧ _)
    refine ⟨fun waits => ?_, fun resolved => ?_⟩
    · have more : ¬ (resolveTouched sc src ts).all (fun t => decide (t.resolution ≠ .unresolved)) = true := by
        obtain ⟨y, mem, unresolved⟩ := waits
        intro all
        exact of_decide_eq_true (List.all_eq_true.mp all y mem) unresolved
      rw [told, if_neg more]
      exact ⟨rfl, rfl⟩
    · have all : (resolveTouched sc src ts).all (fun t => decide (t.resolution ≠ .unresolved)) = true :=
        List.all_eq_true.mpr fun y mem => decide_eq_true (resolved y mem)
      rw [told, if_pos all]
      refine ⟨rfl, fun k other => ?_, fun managed => ?_⟩
      · rw [port_completeDeferred, if_neg fun h => other h.1]
      · rw [port_completeDeferred, if_pos ⟨rfl, managed⟩, screensResult_eq]
        rfl

theorem CommitTold.congr {sc : Screen} {src : Source} {s t u : State} (h : CommitTold sc src s t)
    (engine : u.engine = t.engine) (ports : u.ports = t.ports) : CommitTold sc src s u where
  unconcerned := by rw [engine, ports]; exact h.unconcerned
  waits := by
    have port (k : Computer) : u.port k = t.port k := congrArg (Vector.get · k) ports
    simp only [engine, ports, port]
    exact h.waits

/-- What a commit at a screen makes of the engine and the slots (R139, R141, R172). -/
theorem commitPending_told (sc : Screen) (s : State) :
    ((s.screen sc).pending = none → commitPending sc s = s) ∧
      ∀ src, (s.screen sc).pending = some src → CommitTold sc src s (commitPending sc s) := by
  refine ⟨fun none => by simp [commitPending, none], fun src pending => ?_⟩
  have told := commitTold_engineCommit sc src
    (s.setScreen sc { s.screen sc with committed := src, pending := none })
  have commit : commitPending sc s =
      engineCommit sc src (s.setScreen sc { s.screen sc with committed := src, pending := none }) := by
    simp [commitPending, pending]
  rw [commit]
  exact ⟨told.unconcerned, told.waits⟩

theorem onlySlot_commitPending (sc : Screen) (s : State) (k : Computer) :
    OnlySlot (s.port k) ((commitPending sc s).port k) := by
  unfold commitPending
  split
  · exact .refl _
  · exact onlySlot_engineCommit _ _ _ k

/-! Relocation (R84, R85). -/

/-- What the model's relocation does is what the statements call relocated. -/
theorem relocated_relocate {f : Computer} {u : State} (focus : u.focusUnit.focus = some f) : Relocated f u (relocate u) := by
  refine ⟨fun sc own => ?_, fun sc c none near bound => ?_, fun none noneNear => ?_⟩
  · simp only [relocate, focus, own]
    rfl
  · simp only [relocate, focus, none, near, relocateTo, bound]
    rfl
  · simp only [relocate, focus, none, noneNear]
    rfl

theorem recheckPointer_elsewhere {concerned : Screen → Bool} {s : State}
    (h : ∀ p ∈ s.pointer.place, concerned p.screen = false) : recheckPointer concerned s = s := by
  unfold recheckPointer
  split
  · next p place => exact if_neg fun here => by simp [h p place] at here
  · rfl

theorem recheckPointer_lost {concerned : Screen → Bool} {s : State} {p : Place} (place : s.pointer.place = some p)
    (here : concerned p.screen = true) (lost : isFocusScreen s p.screen = false) :
    recheckPointer concerned s = relocate s := by
  simp [recheckPointer, place, here, lost]

/-! Sinks (R138, R139, R150). -/

theorem detachSink_absent {sc : Screen} {s : State} (h : (s.screen sc).sink = none) : detachSink (.screen sc) s = s := by
  simp [detachSink, h]

theorem detachSink_present {sc : Screen} {m : VideoMode} {s : State} (h : (s.screen sc).sink = some m) :
    detachSink (.screen sc) s =
      recheckPointer (fun t => decide (t = sc)) (blankScreen sc (commitPending sc s)) := by
  simp [detachSink, h]

/-- A screen's record when its sink is gone (R139). -/
def blanked (r : ScreenRecord) : ScreenRecord :=
  { r with sink := none, committed := r.pending.getD r.committed, pending := none, shown := none, border := .noBorder }

theorem screen_blankScreen (sc : Screen) (s : State) (t : Screen) :
    (blankScreen sc (commitPending sc s)).screen t = if t = sc then blanked (s.screen sc) else s.screen t := by
  unfold blankScreen
  rw [State.screen_setScreen, screen_commitPending, screen_commitPending, if_pos rfl]
  split
  · rfl
  · rfl

theorem isFocusScreen_of_no_sink {s : State} {sc : Screen} (h : (s.screen sc).sink = none) : isFocusScreen s sc = false := by
  unfold isFocusScreen
  split
  · simp [enterableOf, enterable, h]
  · rfl

/-- Settles O26. -/
theorem sinkEvents : Obligations.SinkEvents := by
  unfold Obligations.SinkEvents
  intro sc m s
  have gone : ((blankScreen sc (commitPending sc s)).screen sc).sink = none := by
    rw [screen_blankScreen, if_pos rfl]
    rfl
  have stays (h : ∀ p ∈ s.pointer.place, p.screen ≠ sc) :
      recheckPointer (fun t => decide (t = sc)) (blankScreen sc (commitPending sc s)) =
        blankScreen sc (commitPending sc s) :=
    recheckPointer_elsewhere fun p place => decide_eq_false (h p (by simpa using place))
  refine ⟨rfl, rfl, rfl, fun absent => congrArg Host.Outcome.next (detachSink_absent absent),
    fun present idle elsewhere => ?_, fun present => ?_⟩
  · have detached := (detachSink_present present).trans (stays elsewhere)
    have committed := commitPending_idle sc s idle
    rw [committed] at detached
    refine (congrArg Host.Outcome.next detached).trans (congrArg Host.Outcome.next ?_)
    simp [blankScreen]
  · refine ⟨blankScreen sc (commitPending sc s), _, congrArg Host.Outcome.next (detachSink_present present), ?_,
      fun other h => ?_, by simp [blankScreen], by simp [blankScreen], ?_, fun none => ?_, fun src pending => ?_, stays,
      fun p f place here focus => ?_⟩
    · rw [screen_blankScreen, if_pos rfl]
      rfl
    · rw [screen_blankScreen, if_neg h]
    · apply State.eq_of_fields
      all_goals simp [blankScreen]
    · rw [(commitPending_told sc s).1 none]
      exact ⟨rfl, rfl⟩
    · exact ((commitPending_told sc s).2 src pending).congr rfl rfl
    · subst here
      rw [recheckPointer_lost (p := p) (by simpa [blankScreen] using place) (decide_eq_true rfl)
        (isFocusScreen_of_no_sink gone)]
      exact relocated_relocate (by simpa [blankScreen] using focus)

end Sys2Proof.Safety
end

section
/-! PROOFS. Frame starts of a screen and of the share-out output (R142 to R145, R151). -/

namespace Sys2Proof.Safety

open Sys2Proof.Machine

/-- Two sizes differ when the widths or the heights do (R143). -/
theorem sizeDiffers_eq_false {m n : VideoMode} : sizeDiffers m n = false ↔ m.width = n.width ∧ m.height = n.height := by
  simp [sizeDiffers]

/-- The last tests of R143 and R151 as the statements write them. -/
theorem pictureOf_eq (s : State) (j : Input) (sink : VideoMode) :
    pictureOf s j sink =
      (match (s.input j).signal with
       | none => .standby .noSignal
       | some m =>
        if m.width = sink.width ∧ m.height = sink.height then .frame j (s.input j).frame
        else .standby .modeMismatch) := by
  unfold pictureOf
  cases (s.input j).signal with
  | none => rfl
  | some m =>
    dsimp only
    cases differs : sizeDiffers m sink with
    | true => exact (if_neg fun same => by rw [sizeDiffers_eq_false.mpr same] at differs; cases differs).symm
    | false => exact (if_pos (sizeDiffers_eq_false.mp differs)).symm

theorem isPrivate_iff (s : State) :
    isPrivate s = true ↔ s.focusUnit.locked = true ∧ s.tables.modeWord.getLsbD 4 = true := by
  simp [isPrivate, blankOnLockSet]

/-- A frame start repeats a frame exactly when both contents are frames of one input with one number (R144). -/
theorem isRepeat_frames (j : Input) (m n : BitVec 32) :
    isRepeat (some (.frame j m)) (.frame j n) = decide (m = n) := by simp [isRepeat]

theorem isSkip_frames (j : Input) (m n : BitVec 32) :
    isSkip (some (.frame j m)) (.frame j n) = decide (1 < (n - m).toNat) := by simp [isSkip]

/-- Contents that are not both frames of one input count nothing (R144). -/
theorem uncounted {before : Option Content} {now : Content}
    (h : ∀ j n m, ¬ (now = .frame j n ∧ before = some (.frame j m))) :
    isRepeat before now = false ∧ isSkip before now = false := by
  cases now with
  | standby why => cases before <;> simp [isRepeat, isSkip]
  | frame j n =>
    cases before with
    | none => simp [isRepeat, isSkip]
    | some content =>
      cases content with
      | standby why => simp [isRepeat, isSkip]
      | frame i m =>
        have other : i ≠ j := fun eq => h j n m ⟨rfl, by rw [eq]⟩
        simp [isRepeat, isSkip, other]

/-- What R144 counts at one frame start. -/
theorem counted (before : Option Content) (now : Content) (repeats skips : Nat) :
    (∀ j n m, now = .frame j n → before = some (.frame j m) →
      bumpIf (isRepeat before now) repeats = (if m = n then min (repeats + 1) 65535 else repeats) ∧
        bumpIf (isSkip before now) skips = if 1 < (n - m).toNat then min (skips + 1) 65535 else skips) ∧
    ((∀ j n m, ¬ (now = .frame j n ∧ before = some (.frame j m))) →
      bumpIf (isRepeat before now) repeats = repeats ∧ bumpIf (isSkip before now) skips = skips) := by
  refine ⟨fun j n m shown was => ?_, fun others => ?_⟩
  · subst shown was
    rw [isRepeat_frames, isSkip_frames]
    simp only [bumpIf, decide_eq_true_eq]
    exact ⟨rfl, rfl⟩
  · obtain ⟨noRepeat, noSkip⟩ := uncounted others
    rw [noRepeat, noSkip]
    exact ⟨rfl, rfl⟩

/-- The border tests of R145 as the statements write them. -/
theorem borderFor_eq (s : State) (src : Source) :
    borderFor s src =
      (if s.tables.modeWord.getLsbD 3 = false then .noBorder
       else if s.focusUnit.locked = true then .locked
       else if (computerOf s src).isSome = true ∧ computerOf s src = s.focusUnit.focus then
        (match s.recognizer with
         | .command _ _ => .command
         | _ => .focus)
       else .noBorder) := by
  unfold borderFor bordersSet
  simp only [Bool.not_eq_true] <;> rfl

/-- The content of R143 and the border look at the input records and at parts that no commit touches. -/
theorem screenContent_eq (s : State) (src : Source) (sink : VideoMode) :
    screenContent s src sink =
      (match src with
       | none => .standby .noSource
       | some j =>
        if s.focusUnit.locked = true ∧ s.tables.modeWord.getLsbD 4 = true then .standby .privacy
        else
          match (s.input j).signal with
          | none => .standby .noSignal
          | some m =>
            if m.width = sink.width ∧ m.height = sink.height then .frame j (s.input j).frame
            else .standby .modeMismatch) := by
  cases src with
  | none => rfl
  | some j =>
    simp only [screenContent, isPrivate_iff, pictureOf_eq]

theorem startFrame_absent {sc : Screen} {s : State} (h : (s.screen sc).sink = none) : startFrame sc s = s := by
  simp [startFrame, h]

theorem startFrame_present {sc : Screen} {sink : VideoMode} {s : State} (h : (s.screen sc).sink = some sink) :
    startFrame sc s = showScreen sc sink (commitPending sc s) := by
  simp [startFrame, h]

/-- A screen's record after a frame start (R142 to R145). -/
def shownRecord (s : State) (r : ScreenRecord) (sink : VideoMode) (src : Source) : ScreenRecord :=
  { r with
    committed := src
    pending := none
    shown := some (screenContent s src sink)
    repeats := bumpIf (isRepeat r.shown (screenContent s src sink)) r.repeats
    skips := bumpIf (isSkip r.shown (screenContent s src sink)) r.skips
    border := borderFor s src }

theorem screen_showScreen (sc : Screen) (sink : VideoMode) (s : State) (t : Screen) :
    (showScreen sc sink (commitPending sc s)).screen t =
      if t = sc then
        shownRecord s (s.screen sc) sink ((s.screen sc).pending.getD (s.screen sc).committed)
      else s.screen t := by
  have content (src : Source) : screenContent (commitPending sc s) src sink = screenContent s src sink := by
    simp [screenContent_eq, State.input]
  have border (src : Source) : borderFor (commitPending sc s) src = borderFor s src := by
    have computer : computerOf (commitPending sc s) src = computerOf s src := by
      cases src <;> simp [computerOf, State.window]
    simp [borderFor_eq, computer]
  unfold showScreen
  dsimp only
  rw [State.screen_setScreen, screen_commitPending, screen_commitPending, if_pos rfl]
  split
  · rw [content, border]
    rfl
  · rfl

/-- Settles O27. -/
theorem frameStartShowsContent : Obligations.FrameStartShowsContent := by
  unfold Obligations.FrameStartShowsContent
  intro sc s
  refine ⟨fun absent => congrArg Host.Outcome.next (startFrame_absent absent), ?_⟩
  rintro sink src now border present rfl content rfl
  obtain rfl : now = screenContent s ((s.screen sc).pending.getD (s.screen sc).committed) sink :=
    content.trans (screenContent_eq s _ sink).symm
  have record := screen_showScreen sc sink s sc
  rw [if_pos rfl] at record
  obtain ⟨frames, others⟩ := counted (s.screen sc).shown
    (screenContent s ((s.screen sc).pending.getD (s.screen sc).committed) sink) (s.screen sc).repeats (s.screen sc).skips
  obtain ⟨nothing, told⟩ := commitPending_told sc s
  refine ⟨_, congrArg Host.Outcome.next (startFrame_present present), ?_⟩
  rw [record]
  refine ⟨present, rfl, rfl, rfl, borderFor_eq s _, frames, others, fun other h => ?_, by simp [showScreen],
    by simp [showScreen], fun k => onlySlot_commitPending sc s k, ?_, fun idle => ?_, fun none => ?_, fun asked pending => ?_⟩
  · rw [screen_showScreen, if_neg h]
  · apply State.eq_of_fields
    all_goals simp [showScreen]
  · have commit := commitPending_idle sc s idle
    rw [commit]
    exact ⟨rfl, idle⟩
  · rw [nothing none]
    exact ⟨rfl, rfl⟩
  · exact (told asked pending).congr rfl rfl

/-! The share-out output (R151). -/

theorem shareContent_eq (s : State) (src : Source) (sink : VideoMode) :
    shareContent s src sink =
      (match src with
       | none => .standby .noSource
       | some j =>
        if s.settings.shareOutPermitted.getLsbD (inputDomain s j).val = false then .standby .withheld
        else if s.focusUnit.locked = true ∧ s.tables.modeWord.getLsbD 4 = true then .standby .privacy
        else
          match (s.input j).signal with
          | none => .standby .noSignal
          | some m =>
            if m.width = sink.width ∧ m.height = sink.height then .frame j (s.input j).frame
            else .standby .modeMismatch) := by
  cases src with
  | none => rfl
  | some j =>
    simp only [shareContent, isPrivate_iff, pictureOf_eq, domainPermitted, Bool.not_eq_true]

/-- A frame of an input in X's content is one of a permitted domain (R151). -/
theorem shareContent_permitted {s : State} {src : Source} {sink : VideoMode} {j : Input} {n : BitVec 32}
    (h : shareContent s src sink = .frame j n) : domainPermitted s (inputDomain s j) = true := by
  unfold shareContent at h
  split at h
  · cases h
  · next i =>
    split at h
    · cases h
    · next permitted =>
      split at h
      · cases h
      · have shown : i = j := by
          unfold pictureOf at h
          repeat' split at h
          · cases h
          · cases h
          · exact (Content.frame.inj h).1
        subst shown
        simpa using permitted

theorem startShareFrame_absent {s : State} (h : s.video.share.sink = none) : startShareFrame s = s := by
  simp [startShareFrame, h]

/-- Settles O28. -/
theorem shareOutNeverLeaks : Obligations.ShareOutNeverLeaks := by
  unfold Obligations.ShareOutNeverLeaks
  intro s
  refine ⟨fun absent => congrArg Host.Outcome.next (startShareFrame_absent absent), ?_⟩
  intro sink src now present resolved content
  have resolves : resolveSelection s s.video.share.selection = src := by
    rw [resolved]
    cases s.video.share.selection <;> rfl
  obtain rfl : now = shareContent s (resolveSelection s s.video.share.selection) sink := by
    rw [resolves]
    exact content.trans (shareContent_eq s src sink).symm
  have started : startShareFrame s =
      s.setShare
        { s.video.share with
          shown := some (shareContent s (resolveSelection s s.video.share.selection) sink)
          repeats :=
            bumpIf (isRepeat s.video.share.shown (shareContent s (resolveSelection s s.video.share.selection) sink))
              s.video.share.repeats
          skips :=
            bumpIf (isSkip s.video.share.shown (shareContent s (resolveSelection s s.video.share.selection) sink))
              s.video.share.skips } := by
    simp only [startShareFrame, present]
  refine ⟨_, congrArg Host.Outcome.next started, rfl, fun j n shown => ?_, rfl⟩
  exact shareContent_permitted (Option.some.inj shown)

end Sys2Proof.Safety
end

section
/-! PROOFS. The engine's checks and the plain commands: refusals (R117, R169), the reads (R176), the table accesses that are
always refused (R178), SCHEDULE and the firing of entries (R160 to R163), and SAVE (R182, R188). -/

namespace Sys2Proof.Safety

open Sys2Proof.Machine

/-! The checks of R169. -/

theorem takeCommand_refuses {c : CommandSpec} {r : CommandReport} {s : State} {refusal : Result} (body : State → Reply)
    (reaches : reachesEngine r s = true) (refused : refusalOf c r s = some refusal) :
    takeCommand c body r s = answered r c.code refusal [] s := by
  rw [takeCommand_of_refused c body r s refusal reaches refused,
    finish_answered _ _ _ rfl (managed_of_reachesEngine reaches)]

theorem takeCommand_drops {c : CommandSpec} {r : CommandReport} {s : State} (body : State → Reply)
    (h : (s.port r.port).link = .ready → s.isManagement r.port = true → deskMatches s r.deskMatch = false) :
    takeCommand c body r s = dropReport r s := by
  refine takeCommand_of_not_reached c body r s (Bool.eq_false_iff.mpr fun reaches => ?_)
  simp only [reachesEngine, Bool.and_eq_true, decide_eq_true_eq] at reaches
  obtain ⟨⟨ready, managed⟩, meant⟩ := reaches
  rw [h ready managed] at meant
  cases meant

/-- Settles O41. -/
theorem refusedCommandsChangeOnlyTheSlot : Obligations.RefusedCommandsChangeOnlyTheSlot := by
  unfold Obligations.RefusedCommandsChangeOnlyTheSlot
  intro i r c s row
  rw [exec_command i r c s row]
  refine ⟨fun reaches => ⟨fun length => ?_, fun length level => ?_, fun length level busy asks => ?_⟩, fun notReady => ?_,
    fun ready foreign => ?_, fun ready managed mismatch => ?_⟩
  · have refused : refusalOf c r s = some .badLength := by simp [refusalOf, length]
    exact congrArg Host.Outcome.next (takeCommand_refuses _ reaches refused)
  · exact congrArg Host.Outcome.next (takeCommand_locked _ reaches length level)
  · have waits : s.engine.isSome = true := Option.isSome_iff_ne_none.mpr busy
    have refused : refusalOf c r s = some .busy := by simp [refusalOf, length, level, waits, asks]
    exact congrArg Host.Outcome.next (takeCommand_refuses _ reaches refused)
  · have dropped := takeCommand_drops (c := c) (bodyOf i) (fun ready => absurd ready notReady)
    exact congrArg Host.Outcome.next (dropped.trans (if_neg notReady))
  · have dropped := takeCommand_drops (c := c) (r := r) (s := s) (bodyOf i) (fun _ managed => by simp [foreign] at managed)
    have counted : dropReport r s = countForeign s := by simp [dropReport, ready, foreign]
    exact congrArg Host.Outcome.next (dropped.trans counted)
  · have dropped := takeCommand_drops (c := c) (bodyOf i) (fun _ _ => mismatch)
    have counted : dropReport r s = countMismatch s := by simp [dropReport, ready, managed]
    exact congrArg Host.Outcome.next (dropped.trans counted)

/-! The reads (R176). -/

theorem answerRead_some {data : Option (List Byte)} {bytes : List Byte} (h : data = some bytes) (s : State) :
    answerRead data s = Reply.mk s .ok bytes none false := by rw [h]; rfl

theorem answerRead_none {data : Option (List Byte)} (h : data = none) (s : State) :
    answerRead data s = Reply.mk s .badArgument [] none false := by rw [h]; rfl

/-- An index that lies in the table is read, and one outside it is none. -/
theorem map_indexOf? {α : Type} {size m : Nat} {f : Fin size → α} :
    (∀ i : Fin size, m = i.val → (indexOf? size m).map f = some (f i)) ∧
      (size ≤ m → (indexOf? size m).map f = none) :=
  ⟨fun i h => by rw [h, indexOf?_val]; rfl, fun h => by rw [indexOf?_eq_none h]; rfl⟩

/-- Settles O33. -/
theorem readsAnswer : Obligations.ReadsAnswer := by
  unfold Obligations.ReadsAnswer
  intro r s
  refine ⟨fun admitted => ⟨?_, ?_⟩, fun admitted => ⟨fun k h => ?_, fun sc h => ?_, fun j h => ?_, fun h => ⟨?_, ?_⟩,
    fun h => ?_⟩⟩
  · have answer : readDeskBody s = Reply.mk s .ok (deskData s) none false := rfl
    exact congrArg Host.Outcome.next (admitted.answers answer)
  · have answer : readShareBody s = Reply.mk s .ok (shareData s.video.share) none false := rfl
    exact congrArg Host.Outcome.next (admitted.answers answer)
  · have answer : readPortBody r s = Reply.mk s .ok (portData s k) none false := answerRead_some (map_indexOf?.1 k h) s
    exact congrArg Host.Outcome.next (admitted.answers answer)
  · have answer : readScreenBody r s = Reply.mk s .ok (screenData (s.screen sc)) none false :=
      answerRead_some (map_indexOf?.1 sc h) s
    exact congrArg Host.Outcome.next (admitted.answers answer)
  · have answer : readInputBody r s = Reply.mk s .ok (inputData (s.input j)) none false :=
      answerRead_some (map_indexOf?.1 j h) s
    exact congrArg Host.Outcome.next (admitted.answers answer)
  · have answer : readPortBody r s = Reply.mk s .badArgument [] none false := answerRead_none (map_indexOf?.2 h) s
    exact congrArg Host.Outcome.next (admitted.answers answer)
  · have answer : readScreenBody r s = Reply.mk s .badArgument [] none false := answerRead_none (map_indexOf?.2 h) s
    exact congrArg Host.Outcome.next (admitted.answers answer)
  · have answer : readInputBody r s = Reply.mk s .badArgument [] none false := answerRead_none (map_indexOf?.2 h) s
    exact congrArg Host.Outcome.next (admitted.answers answer)

/-! The accesses that are always refused (R178). -/

theorem refuseArgument_eq (s : State) : refuseArgument s = Reply.mk s .badArgument [] none false := rfl

/-- A row whose body only refuses answers BAD_ARGUMENT in the slot (R178). -/
theorem Admitted.refuses {n : Nat} {cls : CommandClass} {whileBusy : Bool} {r : CommandReport} {s : State}
    (h : Admitted n cls whileBusy r s) {i : Instr} {code : Byte} (row : commandOf i = some (r, fixedLength code n cls))
    (body : bodyOf i = refuseArgument) (hn : n ≤ 56 := by decide) (hb : whileBusy = true → cls = .read := by simp) :
    exec i s = .next (answered r code .badArgument [] s) := by
  rw [exec_command i r _ s row, body]
  exact congrArg Host.Outcome.next (h.answers (refuseArgument_eq s) (hn := hn) (hb := hb))

/-- Settles O40. -/
theorem tableRefusals : Obligations.TableRefusals := by
  unfold Obligations.TableRefusals
  intro r s
  refine ⟨fun h => h.refuses rfl rfl, fun h => ⟨h.refuses rfl rfl, h.refuses rfl rfl, h.refuses rfl rfl, h.refuses rfl rfl,
    h.refuses rfl rfl, h.refuses rfl rfl⟩, fun n low high h => ?_, fun h => h.refuses rfl rfl, fun h => h.refuses rfl rfl,
    fun h => ⟨h.refuses rfl rfl, h.refuses rfl rfl, h.refuses rfl rfl, h.refuses rfl rfl, h.refuses rfl rfl,
      h.refuses rfl rfl⟩⟩
  have length : lengthAllowed (unknownTableSpec .write) r.length = true := by
    simp [lengthAllowed, unknownTableSpec, fixedLength, Config.maxParameters, h.length_eq, low, high]
  have taken := h.answers_of_lengthAllowed length (refuseArgument_eq s)
  exact congrArg Host.Outcome.next taken

/-! Firing (R161 to R163). -/

theorem isSuccess_iff (x : Result) : isSuccess x = true ↔ x = .ok ∨ x = .accepted ∨ x = .done ∨ x = .partly := by
  cases x <;> simp [isSuccess]

theorem fireIfDue_none {i : ScheduleIndex} {s : State} (h : s.entry i = none) : fireIfDue i s = s := by
  simp [fireIfDue, h]

section
variable {i : ScheduleIndex} {e : ScheduleEntry} {s : State} (h : s.entry i = some e)
include h

theorem fireIfDue_not_due (due : ¬ 0 ≤ (s.clock - e.due).toInt) : fireIfDue i s = s := by
  simp only [fireIfDue, h, isDue_of_not due, Bool.false_eq_true, if_false]

/-- An entry that is due hands its action on, and a refusal is recorded (R161 to R163). -/
theorem fireIfDue_due (due : 0 ≤ (s.clock - e.due).toInt) {a : Answered}
    (ha : a = runAction e.action .schedule (s.setEntry i none)) :
    fireIfDue i s =
      if a.answer = .ok ∨ a.answer = .accepted ∨ a.answer = .done ∨ a.answer = .partly then a.state
      else record (.scheduleRefused e.action a.answer e.origin) a.state := by
  subst ha
  simp only [fireIfDue, h, (isDue_iff _ _).mpr due, if_true, fireEntry, judgeFiring, isSuccess_iff]

end

theorem answerSelection_changes {sel : Selection} {s : State} (h : s.video.share.selection ≠ sel) :
    answerSelection sel s =
      { state := record (selectionEvent sel) (s.setShare { s.video.share with selection := sel }), answer := .ok } := by
  simp [answerSelection, changeSelection, selectionAnswer, h]

theorem answerSelection_stands {sel : Selection} {s : State} (h : s.video.share.selection = sel) :
    answerSelection sel s = { state := s, answer := .noChange } := by
  simp [answerSelection, changeSelection, selectionAnswer, h]

theorem runAction_unlock_locked {cause : Cause} {s : State} (h : s.focusUnit.locked = true) :
    runAction .unlock cause s =
      { state := record .unlock { s with focusUnit := { s.focusUnit with locked := false } }, answer := .ok } := by
  simp [runAction, doUnlock, unlockAnswer, h]

theorem runAction_unlock_open {cause : Cause} {s : State} (h : s.focusUnit.locked = false) :
    runAction .unlock cause s = { state := s, answer := .noChange } := by
  simp [runAction, doUnlock, unlockAnswer, h]

/-! SCHEDULE (R160). -/

theorem emptyEntry_eq_some {s : State} {i : ScheduleIndex} (empty : s.entry i = none) (first : ∀ j, j < i → s.entry j ≠ none) :
    emptyEntry s = some i :=
  find?_eight.mpr ⟨by simp [empty], fun j below => Option.isNone_eq_false_iff.mpr (Option.isSome_iff_ne_none.mpr (first j below))⟩

theorem emptyEntry_eq_none {s : State} (full : ∀ i, s.entry i ≠ none) : emptyEntry s = none :=
  find?_eight_none.mpr fun j => Option.isNone_eq_false_iff.mpr (Option.isSome_iff_ne_none.mpr (full j))

theorem scheduleBody_bad_delay {r : CommandReport} {s : State}
    (h : ¬ (1 ≤ read32 r.params 0 ∧ read32 r.params 0 ≤ 86400000)) :
    scheduleBody r s = Reply.mk s .badArgument [] none false := if_neg h

theorem scheduleBody_bad_action {r : CommandReport} {s : State}
    (h : parseAction (natAt r.params 4) (read16 r.params 5) = none) :
    scheduleBody r s = Reply.mk s .badArgument [] none false := by
  simp only [scheduleBody, h]
  split <;> rfl

section
variable {r : CommandReport} {a : Action} {s : State}
  (parsed : parseAction (natAt r.params 4) (read16 r.params 5) = some a)
  (delay : 1 ≤ read32 r.params 0 ∧ read32 r.params 0 ≤ 86400000)
include parsed delay

theorem scheduleBody_full (full : emptyEntry s = none) :
    scheduleBody r s = Reply.mk s .tableFull [] none false := by
  simp only [scheduleBody, if_pos delay, parsed, full]

theorem scheduleBody_enters {i : ScheduleIndex} (slot : emptyEntry s = some i) :
    scheduleBody r s =
      Reply.mk (s.setEntry i (some (newEntry s (read32 r.params 0) a .management))) .ok
        (byteOf i.val :: le32 (s.clock + BitVec.ofNat 32 (read32 r.params 0)).toNat) none false := by
  simp only [scheduleBody, if_pos delay, parsed, slot]
  rfl

end

/-- Settles O29. -/
theorem scheduleAndFiring : Obligations.ScheduleAndFiring := by
  unfold Obligations.ScheduleAndFiring
  refine ⟨fun i s => ⟨fun none => congrArg Host.Outcome.next (fireIfDue_none none), fun e entry => ?_⟩,
    fun r s admitted none => congrArg Host.Outcome.next (admitted.answers (scheduleBody_bad_action none)),
    fun r a s admitted parsed => ⟨fun delay => congrArg Host.Outcome.next (admitted.answers (scheduleBody_bad_delay delay)),
      fun low high full => ?_, fun i due low high empty first hdue => ?_⟩⟩
  · refine ⟨fun due => congrArg Host.Outcome.next (fireIfDue_not_due entry due), fun due action other => ?_,
      fun due action same => ?_, fun due action unlocked => ?_, fun due action locked => ?_,
      fun due a ha => congrArg Host.Outcome.next (fireIfDue_due entry due ha)⟩
    · have run : runAction e.action .schedule (s.setEntry i none) =
          { state := record .unshare ((s.setEntry i none).setShare { s.video.share with selection := .nothing })
            answer := .ok } := by
        rw [action]
        exact answerSelection_changes other
      exact congrArg Host.Outcome.next ((fireIfDue_due entry due run.symm).trans (if_pos (.inl rfl)))
    · have run : runAction e.action .schedule (s.setEntry i none) = { state := s.setEntry i none, answer := .noChange } := by
        rw [action]
        exact answerSelection_stands same
      have fired := fireIfDue_due entry due run.symm
      rw [if_neg (by simp), action] at fired
      exact congrArg Host.Outcome.next fired
    · have run : runAction e.action .schedule (s.setEntry i none) = { state := s.setEntry i none, answer := .noChange } := by
        rw [action]
        exact runAction_unlock_open unlocked
      have fired := fireIfDue_due entry due run.symm
      rw [if_neg (by simp), action] at fired
      exact congrArg Host.Outcome.next fired
    · have run : runAction e.action .schedule (s.setEntry i none) =
          { state := record .unlock { s.setEntry i none with focusUnit := { s.focusUnit with locked := false } }
            answer := .ok } := by
        rw [action]
        exact runAction_unlock_locked locked
      exact congrArg Host.Outcome.next ((fireIfDue_due entry due run.symm).trans (if_pos (.inl rfl)))
  · have answer := scheduleBody_full parsed ⟨low, high⟩ (emptyEntry_eq_none full)
    exact congrArg Host.Outcome.next (admitted.answers answer)
  · subst hdue
    have answer := scheduleBody_enters parsed ⟨low, high⟩ (emptyEntry_eq_some empty first)
    exact congrArg Host.Outcome.next (admitted.answers answer)

/-! SAVE and the end of its write (R173, R182, R188). -/

theorem saveBody_busy {s : State} (h : s.image.writing ≠ none) : saveBody s = Reply.mk s .busy [] none false :=
  if_pos (Option.isSome_iff_ne_none.mpr h)

theorem saveBody_begins {s : State} (h : s.image.writing = none) :
    saveBody s = Reply.mk (beginWrite s) .accepted [] (some (.save, .memoryWrite)) false :=
  if_neg (by simp [saveActive, h])

theorem endWrite_none {outcome : WriteOutcome} {s : State} (h : s.image.writing = none) : endWrite outcome s = s := by
  simp [endWrite, h]

/-- A write leaves every byte beside the section as it was (R188). -/
theorem readCell_memoryAfterWrite_outside {outcome : WriteOutcome} {written : List Byte} {m : List Host.Cell} {a : Nat}
    (h : a < 22 ∨ 692 ≤ a) (length : written.length ≤ 670) :
    readCell (memoryAfterWrite outcome written m) a = readCell m a := by
  cases outcome with
  | succeeded =>
    refine (readCell_writeBlock m 22 written a).trans (if_neg ?_)
    omega
  | failed left =>
    have taken : (left.take 670).length ≤ 670 := List.length_take_le _ _
    refine (readCell_writeBlock m 22 (left.take 670) a).trans (if_neg ?_)
    omega

theorem readCell_memoryAfterWrite_inside {written : List Byte} {m : List Host.Cell} {i : Nat} (h : i < written.length) :
    readCell (memoryAfterWrite .succeeded written m) (22 + i) = byteAt written i := by
  refine (readCell_writeBlock m 22 written (22 + i)).trans ((if_pos ⟨by omega, by omega⟩).trans ?_)
  rw [Nat.add_sub_cancel_left]

/-- The part after its memory write, before the engine is told (R182, R188). -/
def afterWrite (outcome : WriteOutcome) (written : List Byte) (s : State) : State :=
  { s with
    image :=
      { s.image with
        memory := memoryAfterWrite outcome written s.image.memory
        writing := none
        saveFailed := decide (outcome ≠ .succeeded) } }

theorem endWrite_some {outcome : WriteOutcome} {written : List Byte} {s : State} (h : s.image.writing = some written) :
    endWrite outcome s = engineWriteEnded outcome (afterWrite outcome written s) := by
  simp only [endWrite, h]
  rfl

theorem endWrite_image {outcome : WriteOutcome} {written : List Byte} {s : State} (h : s.image.writing = some written) :
    (endWrite outcome s).image = (afterWrite outcome written s).image := by
  rw [endWrite_some h, engineWriteEnded_image]

/-- Settles O31. -/
theorem saveAndMemoryWrite : Obligations.SaveAndMemoryWrite := by
  unfold Obligations.SaveAndMemoryWrite
  refine ⟨fun r s admitted => ⟨fun idle => congrArg Host.Outcome.next (admitted.defers (saveBody_begins idle) rfl),
    fun busy => congrArg Host.Outcome.next (admitted.answers (saveBody_busy busy))⟩,
    fun outcome s none => congrArg Host.Outcome.next (endWrite_none none), fun written s writing outcome => ?_⟩
  have image := endWrite_image (outcome := outcome) writing
  refine ⟨endWrite outcome s, rfl, ?_⟩
  rw [image]
  refine ⟨rfl, rfl, rfl, rfl, fun a outside length => readCell_memoryAfterWrite_outside outside length,
    fun succeeded i inside => ?_, fun d busy wait managed => ?_, fun idle => ?_⟩
  · subst succeeded
    exact readCell_memoryAfterWrite_inside inside
  · have ended : endWrite outcome s =
        completeDeferred d (if outcome = .succeeded then .done else .writeFailed) (afterWrite outcome written s) := by
      rw [endWrite_some writing]
      simp only [engineWriteEnded, afterWrite, busy, wait, if_true]
    rw [ended]
    refine ⟨rfl, ?_⟩
    rw [port_completeDeferred]
    exact if_pos ⟨rfl, managed⟩
  · exact (endWrite_some writing).trans (engineWriteEnded_idle outcome _ idle)

end Sys2Proof.Safety
end

section
/-! PROOFS. ACT, action by action, with SET BROADCAST and SET SCREEN (R47 to R49, R58 to R63, R87, R125, R126, R147 to R154,
R180, R181). -/

namespace Sys2Proof.Safety

open Sys2Proof.Machine

section
variable {r : CommandReport} {s : State}

/-- An ACT whose owner answers with a result and a state alone (R180). -/
theorem Admitted.acts_plain (h : Admitted 3 .operate false r s) {code : Nat} {a : Action} {t : State} {x : Result}
    (hc : natAt r.params 0 = code) (ha : parseAction code (read16 r.params 1) = some a)
    (run : runAction a .management s = { state := t, answer := x })
    (waits : actWait a { state := t, answer := x } = none := by rfl) :
    takeCommand actSpec (actBody code r) r s = answered r 0x28#8 x [] t := by
  rw [h.acts hc ha (by rw [run]; exact waits), run]
  rfl

end

/-- The argument of an action that takes none is FFFF (section 10.6). -/
theorem plainAction_absent {argument : Nat} (h : argument = 0xFFFF) (a : Action) : plainAction a argument = some a :=
  if_pos h

/-! Wake requests (R125, R126). -/

theorem wakeRequest_refused {k : Computer} {s : State} {x : Result} (answer : wakeAnswer (s.port k) = x)
    (other : x ≠ .accepted) : runAction (.wake k) .management s = { state := s, answer := x } := by
  have stays : wakeRequest k s = s := if_neg (by rw [answer]; exact other)
  simp only [runAction, stays, answer]

/-- Settles O44. -/
theorem wakeAction : Obligations.WakeAction := by
  unfold Obligations.WakeAction
  intro r k s admitted code argument
  have parsed : parseAction 4 (read16 r.params 1) = some (.wake k) := by
    simp only [parseAction, argument, indexOf?_val]
    rfl
  have refused {x : Result} (answer : wakeAnswer (s.port k) = x) (other : x ≠ .accepted) :
      exec (.actWake r) s = .next (answered r 0x28#8 x [] s) :=
    congrArg Host.Outcome.next
      (admitted.acts_plain code parsed (wakeRequest_refused answer other) (if_neg other))
  refine ⟨fun suspended armed => ?_, fun suspended unarmed => ?_, fun awake => ?_, fun absent => ?_⟩
  · have answer : wakeAnswer (s.port k) = .accepted := by simp [wakeAnswer, suspended, armed]
    have run : runAction (.wake k) .management s = { state := startWake k s, answer := .accepted } := by
      simp only [runAction, wakeRequest, answer, if_true]
    have taken := admitted.acts_deferred (command := .wake) (wait := .wakeOf k) code parsed (by rw [run]; rfl)
      (by rw [run]) rfl
    rw [run] at taken
    exact congrArg Host.Outcome.next taken
  · exact refused (by simp [wakeAnswer, suspended, unarmed]) (by simp)
  · exact refused (by rcases awake with h | h <;> simp [wakeAnswer, h]) (by simp)
  · exact refused (by rcases absent with h | h <;> simp [wakeAnswer, h]) (by simp)

/-! Sharing (R152 to R154). -/

theorem doShare_off {s : State} (h : s.pointer.place = none) : doShare s = { state := s, answer := .noScreen } := by
  simp [doShare, pointerSelection, h]

theorem doShare_on {s : State} {p : Place} (h : s.pointer.place = some p) :
    doShare s = answerSelection (.screen p.screen) s := by
  simp [doShare, pointerSelection, h]

theorem doShareFor_off {t : Nat} {cause : Cause} {s : State} (h : s.pointer.place = none) :
    doShareFor t cause s = { state := s, answer := .noScreen } := by
  simp [doShareFor, pointerSelection, h]

theorem doShareFor_full {t : Nat} {cause : Cause} {s : State} {p : Place} (h : s.pointer.place = some p)
    (full : emptyEntry s = none) : doShareFor t cause s = { state := s, answer := .tableFull } := by
  simp [doShareFor, pointerSelection, h, full]

theorem doShareFor_enters {t : Nat} {cause : Cause} {s : State} {p : Place} {i : ScheduleIndex}
    (h : s.pointer.place = some p) (slot : emptyEntry s = some i) :
    doShareFor t cause s =
      { state :=
          changeSelection (.screen p.screen)
            (s.setEntry i (some (newEntry s (t * 1000) .unshare (originFor cause))))
        answer := .ok
        inserted := some (i, timeFromNow s (t * 1000)) } := by
  simp only [doShareFor, pointerSelection, h, Option.map_some, slot]
  rfl

/-- Settles O45. -/
theorem shareActions : Obligations.ShareActions := by
  unfold Obligations.ShareActions
  intro r s admitted
  refine ⟨fun code argument => ?_, fun sc code argument other => ?_, fun code argument => ?_, fun code low high => ?_⟩
  · have parsed : parseAction 6 (read16 r.params 1) = some .share := plainAction_absent argument _
    refine ⟨fun off => congrArg Host.Outcome.next (admitted.acts_plain code parsed (doShare_off off)),
      fun p place => ⟨fun other => ?_, fun same => ?_⟩⟩
    · exact congrArg Host.Outcome.next
        (admitted.acts_plain code parsed ((doShare_on place).trans (answerSelection_changes other)))
    · exact congrArg Host.Outcome.next
        (admitted.acts_plain code parsed ((doShare_on place).trans (answerSelection_stands same)))
  · have parsed : parseAction 7 (read16 r.params 1) = some (.shareScreen sc) := by
      simp only [parseAction, argument, indexOf?_val]
      rfl
    exact congrArg Host.Outcome.next (admitted.acts_plain code parsed (answerSelection_changes other))
  · have parsed : parseAction 9 (read16 r.params 1) = some .unshare := plainAction_absent argument _
    exact ⟨fun other => congrArg Host.Outcome.next (admitted.acts_plain code parsed (answerSelection_changes other)),
      fun same => congrArg Host.Outcome.next (admitted.acts_plain code parsed (answerSelection_stands same))⟩
  · have parsed : parseAction 8 (read16 r.params 1) = some (.shareFor (read16 r.params 1)) := if_pos ⟨low, high⟩
    refine ⟨fun off => congrArg Host.Outcome.next (admitted.acts_plain code parsed (doShareFor_off off)),
      fun p place => ⟨fun full => ?_, fun i due u empty first hdue hu => ?_⟩⟩
    · exact congrArg Host.Outcome.next
        (admitted.acts_plain code parsed (doShareFor_full place (emptyEntry_eq_none full)))
    · subst hdue hu
      have run : runAction (.shareFor (read16 r.params 1)) .management s = _ :=
        doShareFor_enters place (emptyEntry_eq_some empty first)
      have taken := admitted.acts code parsed (by rw [run]; rfl)
      rw [run] at taken
      exact congrArg Host.Outcome.next taken

/-! The console lock (R62, R63). -/

theorem onlyQueued_emptyOwners (s : State) (k : Computer) : OnlyQueued (s.port k) ((emptyOwners s).port k) :=
  onlyQueued_refreshSnapshots _ _ k

theorem emptyOwners_held (s : State) : (emptyOwners s).keys.held = s.keys.held.map (fun e => { e with owners := 0#8 }) := by
  simp [emptyOwners]

/-- The part after a LOCK (R62). -/
def lockedState (s : State) : State :=
  record .lock (clearPush (releaseButtons (emptyOwners { s with focusUnit := { s.focusUnit with locked := true } })))

theorem doLock_open {s : State} (h : s.focusUnit.locked = false) : doLock s = lockedState s := if_neg (by simp [h])

theorem runAction_lock_open {s : State} (h : s.focusUnit.locked = false) :
    runAction .lock .management s = { state := lockedState s, answer := .ok } := by
  simp only [runAction, doLock_open h, lockAnswer, h, Bool.false_eq_true, if_false]

theorem runAction_lock_locked {s : State} (h : s.focusUnit.locked = true) :
    runAction .lock .management s = { state := s, answer := .noChange } := by
  simp only [runAction, doLock, lockAnswer, h, if_true]

/-- What LOCK leaves (R62). -/
theorem lockedState_effects (s : State) :
    (lockedState s).focusUnit = { s.focusUnit with locked := true } ∧
      (lockedState s).keys.held = s.keys.held.map (fun e => { e with owners := 0#8 }) ∧
      (∀ b, (lockedState s).keys.buttons.get b = none) ∧ (lockedState s).keys.overflow = s.keys.overflow ∧
      (lockedState s).pointer = { s.pointer with push := none } ∧ (lockedState s).journal = (record .lock s).journal ∧
      (∀ k, OnlyQueued (s.port k) ((lockedState s).port k)) := by
  let locked : State := { s with focusUnit := { s.focusUnit with locked := true } }
  have buttons : (lockedState s).keys.buttons = Vector.replicate 5 none := by
    simp [lockedState, clearPush]
  refine ⟨by simp [lockedState, clearPush], by simp [lockedState, clearPush, emptyOwners_held], fun b => ?_,
    by simp [lockedState, clearPush], by simp [lockedState, clearPush], ?_, fun k => ?_⟩
  · rw [buttons]
    exact get_replicate _ b
  · simp [lockedState, clearPush, record]
  · exact (onlyQueued_emptyOwners locked k).trans (onlyQueued_releaseButtons _ k)

/-- Settles O46. -/
theorem lockActions : Obligations.LockActions := by
  unfold Obligations.LockActions
  intro r s admitted argument
  refine ⟨fun code => ?_, fun code => ?_⟩
  · have parsed : parseAction 10 (read16 r.params 1) = some .lock := plainAction_absent argument _
    refine ⟨fun locked => congrArg Host.Outcome.next (admitted.acts_plain code parsed (runAction_lock_locked locked)),
      fun unlocked => ⟨lockedState s,
        congrArg Host.Outcome.next (admitted.acts_plain code parsed (runAction_lock_open unlocked)), ?_⟩⟩
    obtain ⟨focusUnit, held, buttons, overflow, pointer, journal, ports⟩ := lockedState_effects s
    refine ⟨focusUnit, held, buttons, overflow, pointer, journal, ports, ?_⟩
    rw [← doLock_open unlocked]
    exact doLock_frame s
  · have parsed : parseAction 11 (read16 r.params 1) = some .unlock := plainAction_absent argument _
    exact ⟨fun unlocked => congrArg Host.Outcome.next (admitted.acts_plain code parsed (runAction_unlock_open unlocked)),
      fun locked => congrArg Host.Outcome.next (admitted.acts_plain code parsed (runAction_unlock_locked locked))⟩

/-! The broadcast set and FOCUS_HOLD (R58, R59, R87). -/

theorem toggle_member {k : Computer} {s : State} (h : inSet s.focusUnit.broadcast k = true) :
    runAction (.broadcastToggle k) .management s =
      { state := setBroadcast (without s.focusUnit.broadcast k) s, answer := .ok } := by
  simp only [runAction, doToggle, toggleAnswer, h, if_true]

/-- A toggle of a computer outside the set that its checks refuse (R58). -/
theorem toggle_refused {k : Computer} {s : State} {x : Result} (h : inSet s.focusUnit.broadcast k = false)
    (answer : toggleAnswer k s = x) (other : x ≠ .ok) :
    runAction (.broadcastToggle k) .management s = { state := s, answer := x } := by
  have stays : doToggle k s = s := by simp [doToggle, h, answer, other]
  simp only [runAction, stays, answer]

theorem toggle_joins {k : Computer} {s : State} (h : inSet s.focusUnit.broadcast k = false)
    (answer : toggleAnswer k s = .ok) :
    runAction (.broadcastToggle k) .management s =
      { state := setBroadcast (including s.focusUnit.broadcast k) s, answer := .ok } := by
  simp only [runAction, doToggle, h, answer, Bool.false_eq_true, if_false, if_true]

/-- The members that SET BROADCAST keeps are those that R59's conditions give. -/
theorem allowedMembers_eq {s : State} {mask kept : ComputerSet}
    (h : ∀ k, inSet kept k = true ↔
      (inSet mask k = true ∧ s.focusUnit.focus ≠ some k ∧
        s.focusUnit.focus.map s.domainOf = some (s.domainOf k) ∧ s.queueable k = true)) :
    allowedMembers s mask = kept := by
  refine set_ext fun k => Bool.eq_iff_iff.mpr ((Iff.trans ?_ (h k).symm))
  rw [allowedMembers, inSet_setOf]
  simp only [inFocusDomain, Bool.and_eq_true, decide_eq_true_eq, and_assoc]

/-- Settles O47. -/
theorem broadcastAndHoldActions : Obligations.BroadcastAndHoldActions := by
  unfold Obligations.BroadcastAndHoldActions
  refine fun r s => ⟨fun admitted => ⟨fun k code argument => ?_, fun code argument => ?_, fun code argument => ?_⟩,
    fun admitted kept members => ?_⟩
  · have parsed : parseAction 12 (read16 r.params 1) = some (.broadcastToggle k) := by
      simp only [parseAction, argument, indexOf?_val]
      rfl
    refine ⟨fun member => congrArg Host.Outcome.next (admitted.acts_plain code parsed (toggle_member member)),
      fun outside => ⟨fun focus => ?_, fun other domain => ?_, fun other domain => ⟨fun absent => ?_, fun present => ?_⟩⟩⟩
    · exact congrArg Host.Outcome.next (admitted.acts_plain code parsed
        (toggle_refused (x := .noChange) outside (by simp [toggleAnswer, outside, focus]) (by simp)))
    · exact congrArg Host.Outcome.next (admitted.acts_plain code parsed
        (toggle_refused (x := .domain) outside (by simp [toggleAnswer, outside, other, inFocusDomain, domain]) (by simp)))
    · exact congrArg Host.Outcome.next (admitted.acts_plain code parsed
        (toggle_refused (x := .notPresent) outside
          (by simp [toggleAnswer, outside, other, inFocusDomain, domain, absent]) (by simp)))
    · exact congrArg Host.Outcome.next (admitted.acts_plain code parsed
        (toggle_joins outside (by simp [toggleAnswer, outside, other, inFocusDomain, domain, present])))
  · have parsed : parseAction 13 (read16 r.params 1) = some .broadcastOff := plainAction_absent argument _
    exact congrArg Host.Outcome.next (admitted.acts_plain code parsed rfl)
  · have parsed : parseAction 14 (read16 r.params 1) = some .holdToggle := plainAction_absent argument _
    exact congrArg Host.Outcome.next (admitted.acts_plain code parsed rfl)
  · have answer : setBroadcastBody r s =
        Reply.mk (setBroadcast kept s) (if kept = byteAt r.params 0 then .ok else .partly) [kept] none false := by
      simp only [setBroadcastBody, allowedMembers_eq members]
    exact congrArg Host.Outcome.next (admitted.answers answer)

/-! CLEAR PORT CONDITIONS and CLEAR COUNTERS (R119, R191). -/

/-- Settles O49. -/
theorem clearCommands : Obligations.ClearCommands := by
  unfold Obligations.ClearCommands
  refine fun r s => ⟨fun admitted u frame ports => ?_, fun admitted u frame ports screens => ?_⟩
  · have cleared : (clearConditionsBody r s).state = u := by
      rw [frame]
      refine congrArg (fun ps => { s with ports := ps }) (vector_ext fun k => ?_)
      rw [get_ofFn]
      refine Eq.trans ?_ (ports k).symm
      split
      · rfl
      · rfl
    have answer : clearConditionsBody r s = Reply.mk u .ok [] none false := by
      rw [← cleared]
      rfl
    exact congrArg Host.Outcome.next (admitted.answers answer (by rw [frame]))
  · have portsEq : s.ports.map (fun p => { p with resyncCount := 0 }) = u.ports :=
      vector_ext fun k => (get_map _ _ k).trans (ports k).symm
    have screensEq : s.video.screens.map clearScreenCounters = u.video.screens :=
      vector_ext fun sc => (get_map _ _ sc).trans (screens sc).symm
    have cleared : clearAllCounters s = u := by
      rw [frame]
      simp only [clearAllCounters, portsEq, screensEq]
    have answer : clearCountersBody s = Reply.mk u .ok [] none false := by
      rw [← cleared]
      rfl
    exact congrArg Host.Outcome.next (admitted.answers answer (by rw [frame]))

end Sys2Proof.Safety
end

section
/-! PROOFS. FOCUS, CYCLE, SELECT and APPLY_PRESET (R47 to R49, R147, R149), SET SCREEN (R140, R181) and LAYOUT COMMIT (R66,
R67). -/

namespace Sys2Proof.Safety

open Sys2Proof.Machine

/-! FOCUS and CYCLE (R47, R49). -/

theorem focus_passes {k : Computer} {s : State} (present : (s.port k).link ≠ .detached)
    (other : s.focusUnit.focus ≠ some k) :
    runAction (.focus k) .management s = { state := focusChange k .management s, answer := .ok } := by
  have answer : focusAnswer k s = .ok := by simp [focusAnswer, present, other]
  simp only [runAction, doFocus, answer, if_true]

theorem focus_refused {k : Computer} {s : State} {x : Result} (answer : focusAnswer k s = x) (other : x ≠ .ok) :
    runAction (.focus k) .management s = { state := s, answer := x } := by
  have stays : doFocus k .management s = s := if_neg (by rw [answer]; exact other)
  simp only [runAction, stays, answer]

/-- The first computer after f that a test takes, in CYCLE's order. -/
theorem find?_cycleOrder {f n : Fin 8} {p : Computer → Bool} (nonzero : n ≠ 0) (found : p (f + n) = true)
    (first : ∀ m : Fin 8, m ≠ 0 → m < n → p (f + m) = false) : (cycleOrder f).find? p = some (f + n) := by
  unfold cycleOrder
  rw [List.find?_map]
  have split : ∀ n : Fin 8, n ≠ 0 → ([1, 2, 3, 4, 5, 6, 7] : List (Fin 8)) =
      ([1, 2, 3, 4, 5, 6, 7] : List (Fin 8)).filter (fun m => decide (m < n)) ++
        n :: ([1, 2, 3, 4, 5, 6, 7] : List (Fin 8)).filter (fun m => decide (n < m)) := by decide
  have search : ([1, 2, 3, 4, 5, 6, 7] : List (Fin 8)).find? (p ∘ fun m => f + m) = some n := by
    refine List.find?_eq_some_iff_append.mpr ⟨found, _, _, split n nonzero, fun m mem => ?_⟩
    obtain ⟨listed, below⟩ := List.mem_filter.mp mem
    have other : m ≠ 0 := by
      rintro rfl
      revert listed
      decide
    simpa using first m other (of_decide_eq_true below)
  rw [search]
  rfl

theorem find?_cycleOrder_none {f : Fin 8} {p : Computer → Bool} (no : ∀ n : Fin 8, n ≠ 0 → p (f + n) = false) :
    (cycleOrder f).find? p = none := by
  unfold cycleOrder
  rw [List.find?_map, Option.map_eq_none_iff, List.find?_eq_none]
  intro n mem
  have nonzero : n ≠ 0 := by
    rintro rfl
    revert mem
    decide
  simpa using no n nonzero

/-- The computers that CYCLE takes from focus f (R49). -/
def cycleTakes (s : State) (f k : Computer) : Bool := s.queueable k && decide (s.domainOf k = s.domainOf f)

theorem cycleTakes_iff {s : State} {f k : Computer} :
    cycleTakes s f k = true ↔ s.queueable k = true ∧ s.domainOf k = s.domainOf f := by simp [cycleTakes]

theorem cycleTarget_of_focus {s : State} {f : Computer} (focus : s.focusUnit.focus = some f) :
    cycleTarget s = (cycleOrder f).find? (cycleTakes s f) := by
  simp only [cycleTarget, focus]
  rfl

theorem cycle_passes {k : Computer} {s : State} (target : cycleTarget s = some k) :
    runAction .cycle .management s = { state := focusChange k .management s, answer := .ok } := by
  simp [runAction, doCycle, cycleAnswer, target]

theorem cycle_stays {s : State} (target : cycleTarget s = none) :
    runAction .cycle .management s = { state := s, answer := .noChange } := by
  simp [runAction, doCycle, cycleAnswer, target]

/-! SELECT and APPLY_PRESET (R147, R149). -/

theorem selectRefused_iff {s : State} {k : Computer} : selectRefused s k = !s.queueable k := by
  cases link : (s.port k).link <;> simp [selectRefused, State.queueable, LinkState.queueable, link]

theorem select_refused {k : Computer} {s : State} (h : s.queueable k = false) :
    runAction (.select k) .management s = { state := s, answer := .notPresent } := by
  simp [runAction, doSelect, selectRefused_iff, h]

theorem select_taken {k : Computer} {s : State} (h : s.queueable k = true) :
    runAction (.select k) .management s =
      { state :=
          recheckPointer (isTouched (touchedByAll s (homeRequests s k)))
            (selectFocus k .management (requestSources (homeRequests s k) s))
        answer := if anyPending (touchedByAll s (homeRequests s k)) then .accepted else .ok
        touched := touchedByAll s (homeRequests s k) } := by
  simp [runAction, doSelect, selectRefused_iff, h]

/-- An empty preset writes its record alone (R149). -/
theorem doPreset_empty {p : PresetIndex} {s : State} (h : s.preset p = emptyPreset) :
    doPreset p s = { state := record (.preset p) s, answer := .ok, touched := [], skipped := false } := by
  have requests : presetRequests emptyPreset = [] := by decide
  have stays : recheckPointer (isTouched []) (record (.preset p) s) = record (.preset p) s :=
    recheckPointer_elsewhere fun _ _ => rfl
  have noShare : presetShare emptyPreset (record (.preset p) s) = record (.preset p) s := rfl
  have noFocus : presetFocus emptyPreset (record (.preset p) s) = record (.preset p) s := rfl
  simp only [doPreset, h, requests, touchedByAll, List.flatMap_nil, requestSources, List.foldl_nil, noShare, noFocus, stays]
  rfl

/-- Settles O43. -/
theorem focusActions : Obligations.FocusActions := by
  unfold Obligations.FocusActions
  intro r s admitted
  refine ⟨fun k code argument => ?_, fun f n code argument focus nonzero queueable domain first => ?_,
    fun code argument no => ?_, fun k code argument absent => ?_, fun k reqs touched u code argument present => ?_,
    fun p touched u code argument => ?_, fun p code argument empty => ?_⟩
  · have parsed : parseAction 1 (read16 r.params 1) = some (.focus k) := by
      simp only [parseAction, argument, indexOf?_val]
      rfl
    refine ⟨fun present other => congrArg Host.Outcome.next (admitted.acts_plain code parsed (focus_passes present other)),
      fun detached => ?_, fun present focus => ?_⟩
    · exact congrArg Host.Outcome.next (admitted.acts_plain code parsed
        (focus_refused (x := .notPresent) (by simp [focusAnswer, detached]) (by simp)))
    · exact congrArg Host.Outcome.next (admitted.acts_plain code parsed
        (focus_refused (x := .noChange) (by simp [focusAnswer, present, focus]) (by simp)))
  · have parsed : parseAction 3 (read16 r.params 1) = some .cycle := plainAction_absent argument _
    have target : cycleTarget s = some (f + n) := by
      rw [cycleTarget_of_focus focus]
      exact find?_cycleOrder nonzero (cycleTakes_iff.mpr ⟨queueable, domain⟩) fun m h below =>
        Bool.eq_false_iff.mpr fun takes => first m h below (cycleTakes_iff.mp takes)
    exact congrArg Host.Outcome.next (admitted.acts_plain code parsed (cycle_passes target))
  · have parsed : parseAction 3 (read16 r.params 1) = some .cycle := plainAction_absent argument _
    have target : cycleTarget s = none := by
      cases focus : s.focusUnit.focus with
      | none => simp [cycleTarget, focus]
      | some f =>
        rw [cycleTarget_of_focus focus]
        exact find?_cycleOrder_none fun m h =>
          Bool.eq_false_iff.mpr fun takes => no f focus m h (cycleTakes_iff.mp takes)
    exact congrArg Host.Outcome.next (admitted.acts_plain code parsed (cycle_stays target))
  · have parsed : parseAction 2 (read16 r.params 1) = some (.select k) := by
      simp only [parseAction, argument, indexOf?_val]
      rfl
    exact congrArg Host.Outcome.next (admitted.acts_plain code parsed (select_refused absent))
  · rintro rfl rfl rfl
    have parsed : parseAction 2 (read16 r.params 1) = some (.select k) := by
      simp only [parseAction, argument, indexOf?_val]
      rfl
    have run := select_taken present
    by_cases pending : anyPending (touchedByAll s (homeRequests s k)) = true
    · rw [if_pos (by exact pending)]
      have taken := admitted.acts_deferred (command := .select) (wait := .screens (touchedByAll s (homeRequests s k)))
        code parsed (by rw [run]; exact if_pos pending) (by rw [run]) rfl
      rw [run] at taken
      exact congrArg Host.Outcome.next taken
    · rw [if_neg (by exact pending)]
      have taken := admitted.acts code parsed (by rw [run]; exact if_neg pending)
      rw [run] at taken
      dsimp only at taken
      rw [if_neg pending] at taken
      exact congrArg Host.Outcome.next taken
  · rintro rfl rfl
    have parsed : parseAction 5 (read16 r.params 1) = some (.applyPreset p) := by
      simp only [parseAction, argument, indexOf?_val]
      rfl
    have run : runAction (.applyPreset p) .management s = doPreset p s := rfl
    by_cases pending : anyPending (touchedByAll s (presetRequests (s.preset p))) = true
    · rw [if_pos pending]
      have taken := admitted.acts_deferred (command := .applyPreset)
        (wait := .screens (touchedByAll s (presetRequests (s.preset p)))) code parsed
        (by rw [run]; exact if_pos pending) (by rw [run]; rfl) rfl
      exact congrArg Host.Outcome.next taken
    · rw [if_neg pending]
      have taken := admitted.acts code parsed (by rw [run]; exact if_neg pending)
      have answer : (runAction (.applyPreset p) .management s).answer =
          if presetSkips (s.preset p) s = true then .partly else .ok := by
        rw [run]
        simp only [doPreset, presetAnswer, if_neg pending]
      rw [answer] at taken
      exact congrArg Host.Outcome.next taken
  · have parsed : parseAction 5 (read16 r.params 1) = some (.applyPreset p) := by
      simp only [parseAction, argument, indexOf?_val]
      rfl
    have run : runAction (.applyPreset p) .management s = _ := doPreset_empty empty
    have taken := admitted.acts code parsed (by rw [run]; rfl)
    rw [run] at taken
    exact congrArg Host.Outcome.next taken

/-! SET SCREEN (R140, R181). -/

theorem Admitted.idle {n : Nat} {cls : CommandClass} {r : CommandReport} {s : State} (h : Admitted n cls false r s) :
    s.engine = none := by
  obtain ⟨-, -, -, -, -, idle | while_busy⟩ := h
  · exact idle
  · cases while_busy

/-- SET SCREEN of a screen and a source within their values is one source request (R181). -/
theorem setScreenBody_eq {r : CommandReport} {s : State} {sc : Screen} {src : Source}
    (index : natAt r.params 0 = sc.val) (source : parseSource (byteAt r.params 1) = some src) :
    setScreenBody r s =
      { state := recheckPointer (isTouched (touchedBy s sc src)) (requestSource sc src s)
        result := setScreenResult (requestOutcome s sc src)
        wait :=
          if requestOutcome s sc src = .pending then some (.setScreen, .screens (touchedBy s sc src)) else none } := by
  simp only [setScreenBody, index, indexOf?_val, source]

theorem setScreenBody_refuses {r : CommandReport} {s : State}
    (h : 8 ≤ natAt r.params 0 ∨ parseSource (byteAt r.params 1) = none) :
    setScreenBody r s = Reply.mk s .badArgument [] none false := by
  unfold setScreenBody
  rcases h with outside | none
  · rw [indexOf?_eq_none outside]
    rfl
  · rw [none]
    split
    · next h => cases h
    · rfl

section
variable {s : State} {sc : Screen} {src : Source}

theorem requestOutcome_noChange (h : intendedOf (s.screen sc) = src) : requestOutcome s sc src = .noChange := if_pos h

theorem requestOutcome_committed (h : intendedOf (s.screen sc) ≠ src) (absent : (s.screen sc).sink = none) :
    requestOutcome s sc src = .committed := by simp [requestOutcome, h, absent]

theorem requestOutcome_pending (h : intendedOf (s.screen sc) ≠ src) (present : (s.screen sc).sink ≠ none) :
    requestOutcome s sc src = .pending := by
  simp [requestOutcome, h, Option.isSome_iff_ne_none.mpr present]

theorem requestSource_committed (h : requestOutcome s sc src = .committed) (idle : s.engine = none) :
    requestSource sc src s = s.setScreen sc { s.screen sc with committed := src } := by
  simp only [requestSource, h]
  exact engineCommit_idle sc src _ idle

theorem requestSource_pending (h : requestOutcome s sc src = .pending) :
    requestSource sc src s = s.setScreen sc { s.screen sc with pending := some src } := by
  simp only [requestSource, h]

end

/-- What SET SCREEN answers, case by case, with the recheck of the pointer left to do (R140, R181, R84). -/
theorem setScreen_answers {r : CommandReport} {s : State} {sc : Screen} {src : Source} (admitted : Admitted 2 .operate false r s)
    (index : natAt r.params 0 = sc.val) (source : parseSource (byteAt r.params 1) = some src) :
    ((s.screen sc).pending.getD (s.screen sc).committed = src →
      exec (.setScreen r) s = .next (answered r 0x29#8 .noChange [] s)) ∧
    ((s.screen sc).pending.getD (s.screen sc).committed ≠ src →
      ((s.screen sc).sink = none →
        exec (.setScreen r) s =
          .next
            (answered r 0x29#8 .done []
              (recheckPointer (fun t => decide (sc = t)) (s.setScreen sc { s.screen sc with committed := src })))) ∧
      ((s.screen sc).sink ≠ none →
        exec (.setScreen r) s =
          .next
            (deferred r .setScreen (.screens [{ screen := sc, asked := src, resolution := .unresolved }]) false
              (recheckPointer (fun t => decide (sc = t)) (s.setScreen sc { s.screen sc with pending := some src }))))) := by
  have body := setScreenBody_eq (s := s) index source
  have touches (x : Resolution) :
      isTouched [{ screen := sc, asked := src, resolution := x }] = fun t => decide (sc = t) := by
    funext t
    simp [isTouched]
  refine ⟨fun same => ?_, fun other => ⟨fun absent => ?_, fun present => ?_⟩⟩
  · have outcome := requestOutcome_noChange same
    have stays : recheckPointer (isTouched []) s = s := recheckPointer_elsewhere fun _ _ => rfl
    have answer : setScreenBody r s = Reply.mk s .noChange [] none false := by
      simp only [body, outcome, touchedBy, requestSource, stays, setScreenResult]
      rfl
    exact congrArg Host.Outcome.next (admitted.answers answer)
  · have outcome := requestOutcome_committed other absent
    have answer : setScreenBody r s =
        Reply.mk (recheckPointer (fun t => decide (sc = t)) (s.setScreen sc { s.screen sc with committed := src })) .done
          [] none false := by
      simp only [body, outcome, touchedBy, requestSource_committed outcome admitted.idle, setScreenResult, touches]
      rfl
    exact congrArg Host.Outcome.next (admitted.answers answer (by simp))
  · have outcome := requestOutcome_pending other present
    have answer : setScreenBody r s =
        Reply.mk (recheckPointer (fun t => decide (sc = t)) (s.setScreen sc { s.screen sc with pending := some src }))
          .accepted []
          (some (.setScreen, .screens [{ screen := sc, asked := src, resolution := .unresolved }])) false := by
      simp only [body, outcome, touchedBy, requestSource_pending outcome, setScreenResult, touches, if_true]
    exact congrArg Host.Outcome.next (admitted.defers answer rfl (by simp))

/-- Settles O48. -/
theorem setScreenRequests : Obligations.SetScreenRequests := by
  unfold Obligations.SetScreenRequests
  intro r s admitted
  refine ⟨fun outside => congrArg Host.Outcome.next (admitted.answers (setScreenBody_refuses outside)),
    fun sc src index source elsewhere => ?_, fun sc src p f index source place here focus => ?_⟩
  · obtain ⟨same, other⟩ := setScreen_answers admitted index source
    have stays (rec : ScreenRecord) : recheckPointer (fun t => decide (sc = t)) (s.setScreen sc rec) = s.setScreen sc rec :=
      recheckPointer_elsewhere fun p place => decide_eq_false fun eq => elsewhere p place eq.symm
    simp only [stays] at other
    exact ⟨same, other⟩
  · obtain ⟨same, other⟩ := setScreen_answers admitted index source
    subst here
    refine ⟨same, fun differs => ?_⟩
    obtain ⟨absent, present⟩ := other differs
    by_cases sink : (s.screen p.screen).sink = none
    · refine ⟨_, fun _ => ⟨absent sink, ?_⟩, fun h => absurd sink h⟩
      have gone : ((s.setScreen p.screen { s.screen p.screen with committed := src }).screen p.screen).sink = none := by
        simpa using sink
      have lost := isFocusScreen_of_no_sink gone
      have moves := recheckPointer_lost (concerned := fun t => decide (p.screen = t))
        (s := s.setScreen p.screen { s.screen p.screen with committed := src }) place (decide_eq_true rfl) lost
      rw [moves]
      exact relocated_relocate focus
    · refine ⟨_, fun h => absurd h sink, fun _ u hu => ⟨present sink, ?_⟩⟩
      subst hu
      refine ⟨fun stands => ?_, fun lost => ?_⟩
      · unfold recheckPointer
        simp [place, stands]
      · have moves := recheckPointer_lost (concerned := fun t => decide (p.screen = t))
          (s := s.setScreen p.screen { s.screen p.screen with pending := some src }) place (decide_eq_true rfl) lost
        rw [moves]
        exact relocated_relocate focus

/-! LAYOUT COMMIT (R66, R67). -/

/-- Settles O37. -/
theorem layoutCommitChecksAndApplies : Obligations.LayoutCommitChecksAndApplies := by
  unfold Obligations.LayoutCommitChecksAndApplies
  intro r s admitted
  refine ⟨fun sc refusal fault => ?_, fun sound u hu => ?_⟩
  · have answer : layoutCommitBody s = Reply.mk s refusal [byteOf sc.val] none false := by
      simp only [layoutCommitBody, fault]
    exact congrArg Host.Outcome.next (admitted.answers answer)
  · have answer : layoutCommitBody s = Reply.mk (recheckAfterCommit s.tables.committed u) .ok [] none false := by
      subst hu
      simp only [layoutCommitBody, sound]
      rfl
    have placeEq : u.pointer.place = s.pointer.place := by rw [hu]
    have focusEq : u.focusUnit.focus = s.focusUnit.focus := by rw [hu]
    have settings : (recheckAfterCommit s.tables.committed u).settings = s.settings := by simp [hu]
    have taken : exec (.layoutCommit r) s =
        .next (answered r 0x20#8 .ok [] (recheckAfterCommit s.tables.committed u)) :=
      congrArg Host.Outcome.next (admitted.answers answer settings)
    refine ⟨fun off => ?_, fun p f place focus lost => ⟨_, taken, ?_⟩, fun p place stands => ?_⟩
    · have stays : recheckAfterCommit s.tables.committed u = u := by simp [recheckAfterCommit, placeEq, off]
      rw [stays] at taken
      exact taken
    · have moved : recheckAfterCommit s.tables.committed u = relocate u := by
        simp [recheckAfterCommit, placeEq, place, lost]
      rw [moved]
      exact relocated_relocate (focusEq.trans focus)
    · have kept : recheckAfterCommit s.tables.committed u =
          { u with
            pointer :=
              { u.pointer with
                place := some (keepOffset (s.tables.committed.get p.screen) (u.placement p.screen) p) } } := by
        simp only [recheckAfterCommit, placeEq, place, stands, if_true]
      rw [kept] at taken
      exact taken

end Sys2Proof.Safety
end

section
/-! PROOFS. The mode word and the mode settings (R11, R26, R177). -/

namespace Sys2Proof.Safety

open Sys2Proof.Machine

/-! The mode word (R177). -/

theorem modeBody_refuses {change : ModeWord → ModeWord → ModeWord} {r : CommandReport} {s : State}
    (h : 64 ≤ natAt r.params 0) : modeBody change r s = Reply.mk s .badArgument [] none false := if_pos h

theorem modeBody_changes {change : ModeWord → ModeWord → ModeWord} {r : CommandReport} {s : State} {mask : ModeWord}
    (h : byteAt r.params 0 = mask.setWidth 8) :
    modeBody change r s =
      Reply.mk (setModeWord (change s.tables.modeWord mask) s)
        (if change s.tables.modeWord mask = s.tables.modeWord then .noChange else .ok) [] none false := by
  have back : (byteAt r.params 0).setWidth 6 = mask := by
    rw [h]
    simp
  have small : ¬ 64 ≤ natAt r.params 0 := by
    have size : natAt r.params 0 = mask.toNat := by
      rw [natAt, h, BitVec.toNat_setWidth]
      have := mask.isLt
      omega
    have := mask.isLt
    omega
  simp only [modeBody, if_neg small, back]

/-! Ageing at once (R11). -/

/-- An entry as ageing leaves it, when it has reached the limit of a state (R11). -/
def agedIn (u : State) (e : HeldKey) : HeldKey := if hasAged u e = true then { e with owners := 0#8, stale := true } else e

theorem agedIn_slot (u : State) (e : HeldKey) : (agedIn u e).slot = e.slot := by
  unfold agedIn
  split
  · rfl
  · rfl

theorem agedIn_usage (u : State) (e : HeldKey) : (agedIn u e).usage = e.usage := by
  unfold agedIn
  split
  · rfl
  · rfl

theorem hasAged_congr {t u : State} (tables : t.tables = u.tables) (clock : t.clock = u.clock) (e : HeldKey) :
    hasAged t e = hasAged u e := by simp only [hasAged, tables, clock]

/-- What the ageing of one entry of a table without double entries leaves. -/
theorem ageEntry_effects {u t : State} {done rest : List HeldKey} {e : HeldKey} (tables : t.tables = u.tables)
    (clock : t.clock = u.clock) (held : t.keys.held = done.map (agedIn u) ++ e :: rest)
    (distinct : HeldDistinct (done ++ e :: rest)) :
    (ageEntry e.slot e.usage t).keys.held = (done ++ [e]).map (agedIn u) ++ rest ∧
      (hasAged u e = true → ∀ k, inSet e.owners k = true →
        (ageEntry e.slot e.usage t).keys.snapshots.get k = (ageEntry e.slot e.usage t).snapshot k) ∧
      ∀ k, (hasAged u e = true → inSet e.owners k = false) →
        (ageEntry e.slot e.usage t).keys.snapshots.get k = t.keys.snapshots.get k ∧
          (ageEntry e.slot e.usage t).snapshot k = t.snapshot k ∧ (ageEntry e.slot e.usage t).port k = t.port k := by
  obtain ⟨-, here, across⟩ := List.pairwise_append.mp distinct
  have before : ∀ x ∈ done, isHeldAs e.slot e.usage (agedIn u x) = false := fun x mem => by
    have apart := across x mem e List.mem_cons_self
    rw [← agedIn_slot u x, ← agedIn_usage u x] at apart
    exact Bool.eq_false_iff.mpr fun same => apart (isHeldAs_iff.mp same)
  have after : ∀ x ∈ rest, isHeldAs e.slot e.usage x = false := fun x mem => by
    have apart := List.rel_of_pairwise_cons here mem
    exact Bool.eq_false_iff.mpr fun same => apart ⟨(isHeldAs_iff.mp same).1.symm, (isHeldAs_iff.mp same).2.symm⟩
  have self : isHeldAs e.slot e.usage e = true := isHeldAs_iff.mpr ⟨rfl, rfl⟩
  have found : t.keys.held.find? (isHeldAs e.slot e.usage) = some e := by
    rw [held]
    refine List.find?_eq_some_iff_append.mpr ⟨self, done.map (agedIn u), rest, rfl, fun x mem => ?_⟩
    obtain ⟨y, listed, rfl⟩ := List.mem_map.mp mem
    simp [before y listed]
  by_cases aged : hasAged u e = true
  · have step := ageEntry_aged found ((hasAged_congr tables clock e).trans aged)
    have table : t.keys.held.map
        (fun x => if isHeldAs e.slot e.usage x then { x with owners := 0#8, stale := true } else x) =
        (done ++ [e]).map (agedIn u) ++ rest := by
      rw [held, List.map_append, List.map_cons, if_pos self, List.map_map]
      have first : done.map
          ((fun x => if isHeldAs e.slot e.usage x then { x with owners := 0#8, stale := true } else x) ∘ agedIn u) =
          done.map (agedIn u) :=
        List.map_congr_left fun x mem => if_neg (by rw [before x mem]; exact Bool.false_ne_true)
      have last : rest.map
          (fun x => if isHeldAs e.slot e.usage x then { x with owners := 0#8, stale := true } else x) = rest :=
        (List.map_congr_left fun x mem => if_neg (by rw [after x mem]; exact Bool.false_ne_true)).trans
          (List.map_id' rest)
      rw [first, last, List.map_append, List.append_assoc]
      have here : agedIn u e = { e with owners := 0#8, stale := true } := if_pos aged
      rw [List.map_singleton, here]
      rfl
    rw [table] at step
    have snapshots (k : Computer) := refreshSnapshots_snapshots e.owners (t.setHeld ((done ++ [e]).map (agedIn u) ++ rest)) k
    rw [step]
    refine ⟨by simp, fun _ k owner => ?_, fun k other => ?_⟩
    · rw [snapshots k, if_pos owner, refreshSnapshots_snapshot]
    · have outside := other aged
      refine ⟨?_, ?_, ?_⟩
      · rw [snapshots k, outside]
        rfl
      · rw [refreshSnapshots_snapshot]
        refine Eq.trans ?_ (snapshotFrom_map (held := t.keys.held) (k := k)
          (f := fun x => if isHeldAs e.slot e.usage x then { x with owners := 0#8, stale := true } else x)
          (fun x => by split <;> rfl) fun x mem => ?_)
        · rw [table]
          rfl
        · split
          · next same =>
            have only : x = e := by
              rw [held] at mem
              rcases List.mem_append.mp mem with mem | mem
              · obtain ⟨y, listed, rfl⟩ := List.mem_map.mp mem
                rw [before y listed] at same
                cases same
              · rcases List.mem_cons.mp mem with rfl | mem
                · rfl
                · rw [after x mem] at same
                  cases same
            rw [only, outside]
            exact inSet_zero k
          · rfl
      · exact port_refreshSnapshots_of_not_member _ _ k outside
  · have stays : ageEntry e.slot e.usage t = t := ageEntry_not_aged fun x foundX => by
      obtain rfl : e = x := by rw [found] at foundX; exact Option.some.inj foundX
      rw [hasAged_congr tables clock]
      exact Bool.eq_false_iff.mpr aged
    have same : agedIn u e = e := if_neg aged
    rw [stays]
    refine ⟨?_, fun h => absurd h aged, fun k _ => ⟨rfl, rfl, rfl⟩⟩
    rw [held, List.map_append, List.map_singleton, same, List.append_assoc]
    rfl

/-- Ageing one entry after the other, from a state in which some are aged already (R11). -/
theorem ageing_effects {u : State} (rest done : List HeldKey) (t : State) (tables : t.tables = u.tables)
    (clock : t.clock = u.clock) (held : t.keys.held = done.map (agedIn u) ++ rest) (distinct : HeldDistinct (done ++ rest)) :
    ∀ v, v = rest.foldl (fun t e => ageEntry e.slot e.usage t) t →
    v.keys.held = (done ++ rest).map (agedIn u) ∧
      (∀ k, (∃ e ∈ rest, hasAged u e = true ∧ inSet e.owners k = true) → v.keys.snapshots.get k = v.snapshot k) ∧
      ∀ k, (∀ e ∈ rest, hasAged u e = true → inSet e.owners k = false) →
        v.keys.snapshots.get k = t.keys.snapshots.get k ∧ v.snapshot k = t.snapshot k ∧ v.port k = t.port k := by
  induction rest generalizing done t with
  | nil =>
    rintro v rfl
    refine ⟨by simpa using held, fun k ⟨e, mem, _⟩ => absurd mem List.not_mem_nil, fun k _ => ⟨rfl, rfl, rfl⟩⟩
  | cons e rest ih =>
    intro v hv
    obtain ⟨table, owned, others⟩ := ageEntry_effects tables clock held distinct
    have assoc : (done ++ [e]) ++ rest = done ++ e :: rest := List.append_assoc done [e] rest
    obtain ⟨heldV, ownedV, othersV⟩ := ih (done ++ [e]) (ageEntry e.slot e.usage t) (by rw [ageEntry_frame]; exact tables)
      (by rw [ageEntry_frame]; exact clock) table (by rw [assoc]; exact distinct) v hv
    refine ⟨by rw [heldV, assoc], fun k ⟨x, mem, aged, owner⟩ => ?_, fun k none => ?_⟩
    · by_cases later : ∃ y ∈ rest, hasAged u y = true ∧ inSet y.owners k = true
      · exact ownedV k later
      · obtain rfl : x = e := by
          rcases List.mem_cons.mp mem with same | listed
          · exact same
          · exact absurd ⟨x, listed, aged, owner⟩ later
        obtain ⟨snapshots, snapshot, -⟩ := othersV k fun y listed agedY =>
          Bool.eq_false_iff.mpr fun ownerY => later ⟨y, listed, agedY, ownerY⟩
        rw [snapshots, snapshot]
        exact owned aged k owner
    · obtain ⟨snapshotsV, snapshotV, portV⟩ := othersV k fun y listed => none y (List.mem_cons_of_mem e listed)
      obtain ⟨snapshots, snapshot, port⟩ := others k (none e List.mem_cons_self)
      exact ⟨snapshotsV.trans snapshots, snapshotV.trans snapshot, portV.trans port⟩

/-- What ageing changes of a port. -/
theorem port_ageAll (s : State) (k : Computer) :
    (ageAll s).port k =
      { s.port k with queue := ((ageAll s).port k).queue, resync := ((ageAll s).port k).resync } := by
  have one (slot : Slot) (usage : Byte) (t : State) : (ageEntry slot usage t).port k =
      { t.port k with
        queue := ((ageEntry slot usage t).port k).queue, resync := ((ageEntry slot usage t).port k).resync } := by
    unfold ageEntry
    repeat' split
    · exact port_refreshSnapshots_frame _ _ k
    · rfl
    · rfl
  unfold ageAll
  generalize s.keys.held = entries
  induction entries generalizing s with
  | nil => rfl
  | cons e rest ih => rw [List.foldl_cons, ih, one]

/-! WRITE MODE SETTINGS (R26, R177). -/

theorem chordUses_iff {s : State} {key : Byte} :
    chordUses s key = true ↔ ∃ n h mods, s.hotkey n = some h ∧ h.trigger = .chord mods key := by
  simp only [chordUses, List.any_eq_true]
  constructor
  · rintro ⟨h, listed, uses⟩
    obtain ⟨n, slot⟩ := mem_hotkeyList.mp listed
    cases trigger : h.trigger with
    | leader keys =>
      rw [trigger] at uses
      cases uses
    | chord mods k =>
      rw [trigger] at uses
      obtain rfl : k = key := of_decide_eq_true uses
      exact ⟨n, h, mods, slot, trigger⟩
  · rintro ⟨n, h, mods, slot, trigger⟩
    refine ⟨h, mem_hotkeyList.mpr ⟨n, slot⟩, ?_⟩
    rw [trigger]
    exact decide_eq_true rfl

/-- The part with its seven settings replaced and the taps forgotten when the leader key changed (R26). -/
def settingsReplaced (m : ModeSettings) (s : State) : State :=
  forgetTaps (decide (m.leaderKey ≠ s.tables.modeSettings.leaderKey))
    { s with tables := { s.tables with modeSettings := m } }

theorem settingsReplaced_eq (m : ModeSettings) (s : State) :
    settingsReplaced m s =
      { s with
        tables := { s.tables with modeSettings := m }
        recognizer :=
          if m.leaderKey = s.tables.modeSettings.leaderKey then s.recognizer
          else
            match s.recognizer with
            | .command buffer e => .command buffer e
            | _ => .idle } := by
  unfold settingsReplaced forgetTaps setRecognizer
  by_cases same : m.leaderKey = s.tables.modeSettings.leaderKey
  · simp [same]
  · cases s.recognizer <;> simp [same, sequenceSlot]

theorem modeSettingsBody_refuses {r : CommandReport} {s : State} (h : parseModeSettings r.params = none) :
    modeSettingsBody r s = Reply.mk s .badArgument [] none false := by
  simp only [modeSettingsBody, h]
  rfl

section
variable {r : CommandReport} {s : State} {m : ModeSettings} (parsed : parseModeSettings r.params = some m)
include parsed

theorem modeSettingsBody_conflict (uses : chordUses s m.leaderKey = true) :
    modeSettingsBody r s = Reply.mk s .conflict [] none false := by
  simp only [modeSettingsBody, parsed, uses, if_true]

theorem modeSettingsBody_applies (free : chordUses s m.leaderKey = false) :
    modeSettingsBody r s =
      Reply.mk
        (if limitTightened s.tables.modeSettings.ageLimit m.ageLimit then ageAll (settingsReplaced m s)
         else settingsReplaced m s) .ok [] none false := by
  simp only [modeSettingsBody, parsed, free, Bool.false_eq_true, if_false]
  rfl

end

theorem limitTightened_iff {before after : Nat} :
    limitTightened before after = true ↔ after ≠ 0 ∧ (before = 0 ∨ after < before) := by simp [limitTightened]

/-- Settles O35. -/
theorem modeCommands : Obligations.ModeCommands := by
  unfold Obligations.ModeCommands
  intro r s
  refine ⟨fun admitted => ⟨fun mask bits => ⟨?_, ?_⟩, fun outside => ⟨?_, ?_⟩⟩,
    fun admitted => ⟨fun none => ?_, fun m parsed chords leader limit => ?_⟩,
    fun admitted m parsed => ⟨fun conflict => ?_, fun chords u hu => ⟨fun loose => ?_, fun limited tight distinct => ?_⟩⟩⟩
  · exact congrArg Host.Outcome.next (admitted.answers (modeBody_changes (change := setBits) bits))
  · exact congrArg Host.Outcome.next (admitted.answers (modeBody_changes (change := clearBits) bits))
  · exact congrArg Host.Outcome.next (admitted.answers (modeBody_refuses (change := setBits) outside))
  · exact congrArg Host.Outcome.next (admitted.answers (modeBody_refuses (change := clearBits) outside))
  · exact congrArg Host.Outcome.next (admitted.answers (modeSettingsBody_refuses none))
  · have free : chordUses s m.leaderKey = false := Bool.eq_false_iff.mpr fun uses => by
      obtain ⟨n, h, mods, slot, trigger⟩ := chordUses_iff.mp uses
      exact chords h (mem_hotkeyList.mpr ⟨n, slot⟩) mods _ trigger rfl
    have answer := modeSettingsBody_applies parsed free
    have loose : ¬ limitTightened s.tables.modeSettings.ageLimit m.ageLimit = true := by
      rw [limit, limitTightened_iff]
      omega
    rw [if_neg loose, settingsReplaced_eq, if_pos leader] at answer
    exact congrArg Host.Outcome.next (admitted.answers answer)
  · exact congrArg Host.Outcome.next (admitted.answers (modeSettingsBody_conflict parsed (chordUses_iff.mpr conflict)))
  · have free : chordUses s m.leaderKey = false := Bool.eq_false_iff.mpr fun uses => by
      obtain ⟨n, h, mods, slot, trigger⟩ := chordUses_iff.mp uses
      exact chords n h mods slot trigger
    have answer := modeSettingsBody_applies parsed free
    have stays : ¬ limitTightened s.tables.modeSettings.ageLimit m.ageLimit = true := by
      rw [limitTightened_iff]
      omega
    rw [if_neg stays, settingsReplaced_eq] at answer
    have replaced := answer.trans (congrArg (fun t => Reply.mk t .ok [] none false) hu.symm)
    exact congrArg Host.Outcome.next (admitted.answers replaced (by rw [hu]))
  · have free : chordUses s m.leaderKey = false := Bool.eq_false_iff.mpr fun uses => by
      obtain ⟨n, h, mods, slot, trigger⟩ := chordUses_iff.mp uses
      exact chords n h mods slot trigger
    have answer := modeSettingsBody_applies parsed free
    rw [if_pos (limitTightened_iff.mpr ⟨limited, tight⟩), settingsReplaced_eq] at answer
    have replaced := answer.trans (congrArg (fun t => Reply.mk (ageAll t) .ok [] none false) hu.symm)
    have keysEq : u.keys = s.keys := by rw [hu]
    have portEq (k : Computer) : u.port k = s.port k := by rw [hu]; rfl
    refine ⟨ageAll u, congrArg Host.Outcome.next (admitted.answers replaced (by simp [hu])), ?_⟩
    obtain ⟨held, owned, others⟩ := ageing_effects (u := u) u.keys.held [] u rfl rfl rfl (by rw [keysEq]; exact distinct)
      (ageAll u) rfl
    rw [keysEq] at held owned others
    refine ⟨held, owned, fun k none => ?_, fun k => ?_, by simp [keysEq], by simp [keysEq], ageAll_frame u⟩
    · obtain ⟨snapshots, -, port⟩ := others k none
      exact ⟨snapshots, port.trans (portEq k)⟩
    · rw [← portEq k]
      exact port_ageAll u k

end Sys2Proof.Safety
end

section
/-! PROOFS. The table accesses (R23 to R25, R65, R90, R91, R148, R159, R178). -/

namespace Sys2Proof.Safety

open Sys2Proof.Machine

/-! The index of a table access, and what reads and searches find. -/

section
variable {r : CommandReport} {s : State} {table size : Nat}

theorem tableIndex_some {i : Fin size} (number : natAt r.params 0 = table) (index : natAt r.params 1 = i.val) :
    tableIndex table size r = some i := by
  rw [tableIndex, if_pos number, index, indexOf?_val]

theorem tableIndex_none (h : natAt r.params 0 ≠ table ∨ size ≤ natAt r.params 1) : tableIndex table size r = none := by
  unfold tableIndex
  split
  · next number => exact indexOf?_eq_none (h.resolve_left fun other => other number)
  · rfl

end

/-- A search of a table names the lowest index that a test takes. -/
theorem findIdx?_toList {α : Type} {n : Nat} {v : Vector α n} {p : α → Bool} {i : Fin n} (found : p (v.get i) = true)
    (first : ∀ j, j < i → p (v.get j) = false) : v.toList.findIdx? p = some i.val := by
  have bound : i.val < v.toList.length := by simp
  refine List.findIdx?_eq_some_iff_getElem.mpr ⟨bound, ?_, fun j below => ?_⟩
  · rw [Vector.getElem_toList]
    exact found
  · rw [Vector.getElem_toList]
    have no := first ⟨j, by omega⟩ below
    exact Bool.eq_false_iff.mp no

theorem findIdx?_toList_none {α : Type} {n : Nat} {v : Vector α n} {p : α → Bool} (no : ∀ i, p (v.get i) = false) :
    v.toList.findIdx? p = none := by
  refine List.findIdx?_eq_none_iff.mpr fun x mem => ?_
  obtain ⟨i, bound, rfl⟩ := Vector.mem_iff_getElem.mp (Vector.mem_toList_iff.mp mem)
  exact no ⟨i, bound⟩

theorem readSlot_some {bytes : Option (List Byte)} {d : List Byte} (h : bytes = some d) (s : State) :
    readSlot bytes s = Reply.mk s .ok d none false := by rw [h]; rfl

theorem readSlot_none {bytes : Option (List Byte)} (h : bytes = none) (s : State) :
    readSlot bytes s = Reply.mk s .notFound [] none false := by rw [h]; rfl

theorem answerSearch_some {found : Option Nat} {i : Nat} (h : found = some i) (s : State) :
    answerSearch found s = Reply.mk s .ok [byteOf i] none false := by rw [h]; rfl

theorem answerSearch_none {found : Option Nat} (h : found = none) (s : State) :
    answerSearch found s = Reply.mk s .notFound [] none false := by rw [h]; rfl

theorem slotHasTrigger_some {t : Trigger} {slot : Option Hotkey} :
    slotHasTrigger t slot = true ↔ ∃ h, slot = some h ∧ h.trigger = t := by
  cases slot <;> simp [slotHasTrigger, hasTrigger]

theorem slotHasTrigger_false {t : Trigger} {slot : Option Hotkey} (h : ∀ g, slot = some g → g.trigger ≠ t) :
    slotHasTrigger t slot = false :=
  Bool.eq_false_iff.mpr fun has => by
    obtain ⟨g, held, same⟩ := slotHasTrigger_some.mp has
    exact h g held same

/-! Reads and searches (R178). -/

section
variable {r : CommandReport} {s : State}

theorem readHotkeyBody_eq {i : Fin 32} (number : natAt r.params 0 = 1) (index : natAt r.params 1 = i.val) :
    readHotkeyBody r s = readSlot ((s.hotkey i).map hotkeyBytes) s := by
  simp only [readHotkeyBody, tableIndex_some number index]

theorem readEntryBody_eq {i : ScheduleIndex} (number : natAt r.params 0 = 7) (index : natAt r.params 1 = i.val) :
    readEntryBody r s = readSlot ((s.entry i).map (entryBytes s.clock)) s := by
  simp only [readEntryBody, tableIndex_some number index]

/-- A read of a table whose records are never empty answers the record of its index. -/
theorem answerRead_index {table size : Nat} {f : Fin size → List Byte} {i : Fin size}
    (number : natAt r.params 0 = table) (index : natAt r.params 1 = i.val) (t : State) :
    answerRead ((tableIndex table size r).map f) t = Reply.mk t .ok (f i) none false :=
  answerRead_some (by rw [tableIndex_some number index]; rfl) t

theorem answerRead_outside {table size : Nat} {f : Fin size → List Byte}
    (h : natAt r.params 0 ≠ table ∨ size ≤ natAt r.params 1) (t : State) :
    answerRead ((tableIndex table size r).map f) t = Reply.mk t .badArgument [] none false :=
  answerRead_none (by rw [tableIndex_none h]; rfl) t

theorem readHotkeyBody_outside (h : natAt r.params 0 ≠ 1 ∨ 32 ≤ natAt r.params 1) :
    readHotkeyBody r s = Reply.mk s .badArgument [] none false := by
  simp only [readHotkeyBody, tableIndex_none h]
  rfl

theorem readEntryBody_outside (h : natAt r.params 0 ≠ 7 ∨ 8 ≤ natAt r.params 1) :
    readEntryBody r s = Reply.mk s .badArgument [] none false := by
  simp only [readEntryBody, tableIndex_none h]
  rfl

theorem searchHotkeyBody_eq {t : Trigger} (number : natAt r.params 0 = 1) (parsed : parseTrigger (r.params.drop 1) = some t) :
    searchHotkeyBody r s = answerSearch (s.tables.hotkeys.toList.findIdx? (slotHasTrigger t)) s := by
  simp only [searchHotkeyBody, if_pos number, parsed]

theorem searchHotkeyBody_unread (number : natAt r.params 0 = 1) (unread : parseTrigger (r.params.drop 1) = none) :
    searchHotkeyBody r s = Reply.mk s .notFound [] none false := by
  simp only [searchHotkeyBody, if_pos number, unread]
  rfl

theorem searchWindowBody_eq {c : Option Computer} (number : natAt r.params 0 = 2)
    (parsed : parseComputer (byteAt r.params 1) = some c) :
    searchWindowBody r s = answerSearch (s.tables.windows.toList.findIdx? (fun w => decide (w.computer = c))) s := by
  simp only [searchWindowBody, if_pos number, parsed]

theorem searchWindowBody_unread (number : natAt r.params 0 = 2) (unread : parseComputer (byteAt r.params 1) = none) :
    searchWindowBody r s = Reply.mk s .notFound [] none false := by
  simp only [searchWindowBody, if_pos number, unread]
  rfl

end

/-- The table reads of a record within its table (R178). -/
theorem tableReads {r : CommandReport} {s : State} (admitted : Admitted 2 .read true r s) :
    (∀ i : Fin 32, natAt r.params 0 = 1 → natAt r.params 1 = i.val →
      (∀ h, s.hotkey i = some h → exec (.tableReadHotkey r) s = .next (answered r 0x18#8 .ok (hotkeyBytes h) s)) ∧
      (s.hotkey i = none → exec (.tableReadHotkey r) s = .next (answered r 0x18#8 .notFound [] s))) ∧
    (∀ j : Input, natAt r.params 0 = 2 → natAt r.params 1 = j.val →
      exec (.tableReadWindow r) s = .next (answered r 0x18#8 .ok (windowBytes (s.window j)) s)) ∧
    (∀ k : Computer, natAt r.params 0 = 3 → natAt r.params 1 = k.val →
      exec (.tableReadPortSettings r) s = .next (answered r 0x18#8 .ok (portSettingsBytes (s.settingsOf k)) s)) ∧
    (∀ p : PresetIndex, natAt r.params 0 = 4 → natAt r.params 1 = p.val →
      exec (.tableReadPreset r) s =
        .next
          (answered r 0x18#8 .ok (presetBytes (Config.freeByte s.freeUses 10) (s.preset p))
            { s with freeUses := s.freeUses + 1 })) ∧
    (∀ sc : Screen, natAt r.params 0 = 5 → natAt r.params 1 = sc.val →
      exec (.tableReadLayoutStaged r) s = .next (answered r 0x18#8 .ok (placementBytes (s.tables.staged.get sc)) s)) ∧
    (∀ sc : Screen, natAt r.params 0 = 6 → natAt r.params 1 = sc.val →
      exec (.tableReadLayoutCommitted r) s =
        .next (answered r 0x18#8 .ok (placementBytes (s.tables.committed.get sc)) s)) ∧
    ∀ i : ScheduleIndex, natAt r.params 0 = 7 → natAt r.params 1 = i.val →
      (∀ e, s.entry i = some e →
        exec (.tableReadSchedule r) s = .next (answered r 0x18#8 .ok (entryBytes s.clock e) s)) ∧
      (s.entry i = none → exec (.tableReadSchedule r) s = .next (answered r 0x18#8 .notFound [] s)) := by
  refine ⟨fun i number index => ⟨fun h slot => ?_, fun empty => ?_⟩, fun j number index => ?_, fun k number index => ?_,
    fun p number index => ?_, fun sc number index => ?_, fun sc number index => ?_,
    fun i number index => ⟨fun e slot => ?_, fun empty => ?_⟩⟩
  · have answer := (readHotkeyBody_eq (s := s) number index).trans (readSlot_some (by rw [slot]; rfl) s)
    exact congrArg Host.Outcome.next (admitted.answers answer)
  · have answer := (readHotkeyBody_eq (s := s) number index).trans (readSlot_none (by rw [empty]; rfl) s)
    exact congrArg Host.Outcome.next (admitted.answers answer)
  · have answer : readWindowBody r s = _ := answerRead_index number index s
    exact congrArg Host.Outcome.next (admitted.answers answer)
  · have answer : readPortSettingsBody r s = _ := answerRead_index number index s
    exact congrArg Host.Outcome.next (admitted.answers answer)
  · have answer : readPresetBody r s = _ := answerRead_index number index { s with freeUses := s.freeUses + 1 }
    exact congrArg Host.Outcome.next (admitted.answers answer)
  · have answer : readStagedBody r s = _ := answerRead_index number index s
    exact congrArg Host.Outcome.next (admitted.answers answer)
  · have answer : readCommittedBody r s = _ := answerRead_index number index s
    exact congrArg Host.Outcome.next (admitted.answers answer)
  · have answer := (readEntryBody_eq (s := s) number index).trans (readSlot_some (by rw [slot]; rfl) s)
    exact congrArg Host.Outcome.next (admitted.answers answer)
  · have answer := (readEntryBody_eq (s := s) number index).trans (readSlot_none (by rw [empty]; rfl) s)
    exact congrArg Host.Outcome.next (admitted.answers answer)

/-- Settles O38. -/
theorem tableReadsAndSearches : Obligations.TableReadsAndSearches := by
  unfold Obligations.TableReadsAndSearches
  refine fun r s => ⟨tableReads, fun admitted => ⟨_, rfl, fun h => ?_, fun h => ?_, fun h => ?_, fun h => ?_, fun h => ?_,
    fun h => ?_, fun h => ?_⟩, fun admitted number unread => ?_, fun admitted number unread => ?_,
    fun admitted number t parsed => ⟨fun i h slot same first => ?_, fun no => ?_⟩,
    fun admitted number c parsed => ⟨fun j same first => ?_, fun no => ?_⟩⟩
  · exact congrArg Host.Outcome.next (admitted.answers (readHotkeyBody_outside h))
  · have answer : readWindowBody r s = _ := answerRead_outside h s
    exact congrArg Host.Outcome.next (admitted.answers answer)
  · have answer : readPortSettingsBody r s = _ := answerRead_outside h s
    exact congrArg Host.Outcome.next (admitted.answers answer)
  · have answer : readPresetBody r s = _ := answerRead_outside h { s with freeUses := s.freeUses + 1 }
    exact congrArg Host.Outcome.next (admitted.answers answer)
  · have answer : readStagedBody r s = _ := answerRead_outside h s
    exact congrArg Host.Outcome.next (admitted.answers answer)
  · have answer : readCommittedBody r s = _ := answerRead_outside h s
    exact congrArg Host.Outcome.next (admitted.answers answer)
  · exact congrArg Host.Outcome.next (admitted.answers (readEntryBody_outside h))
  · exact congrArg Host.Outcome.next (admitted.answers (searchHotkeyBody_unread number unread))
  · exact congrArg Host.Outcome.next (admitted.answers (searchWindowBody_unread number unread))
  · have search : s.tables.hotkeys.toList.findIdx? (slotHasTrigger t) = some i.val :=
      findIdx?_toList (slotHasTrigger_some.mpr ⟨h, slot, same⟩) fun j below => slotHasTrigger_false (first j below)
    have answer := (searchHotkeyBody_eq (s := s) number parsed).trans (answerSearch_some search s)
    exact congrArg Host.Outcome.next (admitted.answers answer)
  · have search : s.tables.hotkeys.toList.findIdx? (slotHasTrigger t) = none :=
      findIdx?_toList_none fun i => slotHasTrigger_false (no i)
    have answer := (searchHotkeyBody_eq (s := s) number parsed).trans (answerSearch_none search s)
    exact congrArg Host.Outcome.next (admitted.answers answer)
  · have search : s.tables.windows.toList.findIdx? (fun w => decide (w.computer = c)) = some j.val :=
      findIdx?_toList (decide_eq_true same) fun l below => decide_eq_false (first l below)
    have answer := (searchWindowBody_eq (s := s) number parsed).trans (answerSearch_some search s)
    exact congrArg Host.Outcome.next (admitted.answers answer)
  · have search : s.tables.windows.toList.findIdx? (fun w => decide (w.computer = c)) = none :=
      findIdx?_toList_none fun j => decide_eq_false (no j)
    have answer := (searchWindowBody_eq (s := s) number parsed).trans (answerSearch_none search s)
    exact congrArg Host.Outcome.next (admitted.answers answer)

/-! Writes and deletes (R24, R25, R90, R91, R148, R178). -/

section
variable {r : CommandReport} {s : State}

theorem writeHotkeyBody_refuses
    (h : tableIndex 1 32 r = none ∨ parseHotkey (r.params.drop 2) = none) :
    writeHotkeyBody r s = Reply.mk s .badArgument [] none false := by
  unfold writeHotkeyBody writtenRecord
  split
  · next i record index parsed => rcases h with h | h <;> simp [h] at index parsed
  · rfl

theorem writeWindowBody_refuses (h : tableIndex 2 16 r = none ∨ parseWindow (r.params.drop 2) = none) :
    writeWindowBody r s = Reply.mk s .badArgument [] none false := by
  unfold writeWindowBody writtenRecord
  split
  · next i record index parsed => rcases h with h | h <;> simp [h] at index parsed
  · rfl

theorem writePortSettingsBody_refuses (h : tableIndex 3 8 r = none ∨ parsePortSettings (r.params.drop 2) = none) :
    writePortSettingsBody r s = Reply.mk s .badArgument [] none false := by
  unfold writePortSettingsBody writtenRecord
  split
  · next i record index parsed => rcases h with h | h <;> simp [h] at index parsed
  · rfl

theorem writePresetBody_refuses (h : tableIndex 4 8 r = none ∨ parsePreset (r.params.drop 2) = none) :
    writePresetBody r s = Reply.mk s .badArgument [] none false := by
  unfold writePresetBody writtenRecord
  split
  · next i record index parsed => rcases h with h | h <;> simp [h] at index parsed
  · rfl

theorem writeStagedBody_refuses (h : tableIndex 5 8 r = none) :
    writeStagedBody r s = Reply.mk s .badArgument [] none false := by
  simp only [writeStagedBody, h]
  rfl

theorem deleteHotkeyBody_refuses (h : tableIndex 1 32 r = none) :
    deleteHotkeyBody r s = Reply.mk s .badArgument [] none false := by
  simp only [deleteHotkeyBody, h]
  rfl

theorem deletePresetBody_refuses (h : tableIndex 4 8 r = none) :
    deletePresetBody r s = Reply.mk s .badArgument [] none false := by
  simp only [deletePresetBody, h]
  rfl

theorem writeHotkeyBody_conflicts {i : Fin 32} {h : Hotkey} {refusal : Result} (index : tableIndex 1 32 r = some i)
    (parsed : parseHotkey (r.params.drop 2) = some h)
    (conflict : hotkeyConflict (otherHotkeys s i) s.tables.modeSettings.leaderKey h = some refusal) :
    writeHotkeyBody r s = Reply.mk s refusal [] none false := by
  simp only [writeHotkeyBody, writtenRecord, index, parsed, conflict]

theorem writeHotkeyBody_writes {i : Fin 32} {h : Hotkey} (index : tableIndex 1 32 r = some i)
    (parsed : parseHotkey (r.params.drop 2) = some h)
    (free : hotkeyConflict (otherHotkeys s i) s.tables.modeSettings.leaderKey h = none) :
    writeHotkeyBody r s = Reply.mk (setHotkey i (some h) s) .ok [] none false := by
  simp only [writeHotkeyBody, writtenRecord, index, parsed, free]

theorem writeWindowBody_writes {j : Input} {w : Window} (index : tableIndex 2 16 r = some j)
    (parsed : parseWindow (r.params.drop 2) = some w) :
    writeWindowBody r s = Reply.mk (rewriteWindow j w s) .ok [] none false := by
  simp only [writeWindowBody, writtenRecord, index, parsed]

theorem deleteHotkeyBody_empty {i : Fin 32} (index : tableIndex 1 32 r = some i) (empty : s.hotkey i = none) :
    deleteHotkeyBody r s = Reply.mk s .notFound [] none false := by
  simp [deleteHotkeyBody, index, empty]

theorem deleteHotkeyBody_empties {i : Fin 32} (index : tableIndex 1 32 r = some i) (held : s.hotkey i ≠ none) :
    deleteHotkeyBody r s = Reply.mk (setHotkey i none s) .ok [] none false := by
  simp [deleteHotkeyBody, index, Option.isSome_iff_ne_none.mpr held]

theorem deletePresetBody_empty {p : PresetIndex} (index : tableIndex 4 8 r = some p) (empty : s.preset p = emptyPreset) :
    deletePresetBody r s = Reply.mk s .notFound [] none false := by
  simp [deletePresetBody, index, empty]

theorem deletePresetBody_empties {p : PresetIndex} (index : tableIndex 4 8 r = some p) (held : s.preset p ≠ emptyPreset) :
    deletePresetBody r s = Reply.mk (setPreset p emptyPreset s) .ok [] none false := by
  simp [deletePresetBody, index, held]

/-- A window record rewritten where no pointer stands on it, or without a change of its computer, is written alone. -/
theorem rewriteWindow_apart {j : Input} {w : Window}
    (h : w.computer = (s.window j).computer ∨ ∀ p ∈ s.pointer.place, intendedOf (s.screen p.screen) ≠ some j) :
    rewriteWindow j w s = setWindow j w s := by
  unfold rewriteWindow
  split
  · rfl
  · next other =>
    exact recheckPointer_elsewhere fun p place => decide_eq_false (h.resolve_left other p place)

theorem recheckPointer_stands {concerned : Screen → Bool} {p : Place} (place : s.pointer.place = some p)
    (stands : isFocusScreen s p.screen = true) : recheckPointer concerned s = s := by
  simp [recheckPointer, place, stands]

/-- A window record rewritten under the pointer has the place rechecked (R84, R91). -/
theorem rewriteWindow_under {j : Input} {w : Window} {p : Place} (other : w.computer ≠ (s.window j).computer)
    (place : s.pointer.place = some p) (shown : intendedOf (s.screen p.screen) = some j) :
    rewriteWindow j w s =
      if isFocusScreen (setWindow j w s) p.screen = true then setWindow j w s else relocate (setWindow j w s) := by
  have placeW : (setWindow j w s).pointer.place = some p := place
  have here : showsInput s j p.screen = true := decide_eq_true shown
  unfold rewriteWindow
  rw [if_neg other]
  split
  · next stands => exact recheckPointer_stands placeW stands
  · next lost => exact recheckPointer_lost placeW here (Bool.eq_false_iff.mpr lost)

end

/-- Settles O39. -/
theorem tableWritesAndDeletes : Obligations.TableWritesAndDeletes := by
  unfold Obligations.TableWritesAndDeletes
  intro r s
  refine ⟨fun admitted => ⟨fun h => ?_, fun h => ?_⟩,
    fun admitted => ⟨fun h => ?_, fun h => ?_, fun j w p u number index parsed other place shown hu =>
      ⟨fun stands => ?_, fun lost f focus => ?_⟩⟩,
    fun admitted h => ?_, fun admitted => ⟨fun h => ?_, fun h => ?_⟩,
    fun admitted => ⟨fun i number index => ⟨fun unread => ?_, fun h parsed => ⟨fun refusal conflict => ?_, fun free => ?_⟩⟩,
      fun sc number index => ?_⟩,
    fun admitted => ⟨fun j w number index parsed apart => ?_, fun p pr number index parsed => ?_⟩,
    fun admitted k ps number index parsed => ?_,
    fun admitted => ⟨fun i number index => ⟨fun empty => ?_, fun held => ?_⟩,
      fun p number index => ⟨fun empty => ?_, fun held => ?_⟩⟩⟩
  · exact congrArg Host.Outcome.next (admitted.answers (writeHotkeyBody_refuses (.inl (tableIndex_none h))))
  · exact congrArg Host.Outcome.next (admitted.answers (writeStagedBody_refuses (tableIndex_none h)))
  · exact congrArg Host.Outcome.next
      (admitted.answers (writeWindowBody_refuses ((or_assoc.mpr h).imp_left tableIndex_none)))
  · exact congrArg Host.Outcome.next
      (admitted.answers (writePresetBody_refuses ((or_assoc.mpr h).imp_left tableIndex_none)))
  · have written := rewriteWindow_under other place shown
    rw [← show u = setWindow j w s from hu, if_pos stands] at written
    have answer := writeWindowBody_writes (s := s) (tableIndex_some number index) parsed
    rw [written] at answer
    exact congrArg Host.Outcome.next (admitted.answers answer (by rw [hu]))
  · have written := rewriteWindow_under other place shown
    rw [← show u = setWindow j w s from hu, if_neg (by rw [lost]; exact Bool.false_ne_true)] at written
    have answer := writeWindowBody_writes (s := s) (tableIndex_some number index) parsed
    rw [written] at answer
    exact ⟨_, congrArg Host.Outcome.next (admitted.answers answer (by simp [hu])),
      relocated_relocate (by rw [hu]; exact focus)⟩
  · exact congrArg Host.Outcome.next
      (admitted.answers (writePortSettingsBody_refuses ((or_assoc.mpr h).imp_left tableIndex_none)))
  · exact congrArg Host.Outcome.next (admitted.answers (deleteHotkeyBody_refuses (tableIndex_none h)))
  · exact congrArg Host.Outcome.next (admitted.answers (deletePresetBody_refuses (tableIndex_none h)))
  · exact congrArg Host.Outcome.next (admitted.answers (writeHotkeyBody_refuses (.inr unread)))
  · exact congrArg Host.Outcome.next
      (admitted.answers (writeHotkeyBody_conflicts (tableIndex_some number index) parsed conflict))
  · exact congrArg Host.Outcome.next
      (admitted.answers (writeHotkeyBody_writes (tableIndex_some number index) parsed free))
  · have answer : writeStagedBody r s =
        Reply.mk (setStaged sc (parsePlacement (r.params.drop 2)) s) .ok [] none false := by
      simp only [writeStagedBody, writtenRecord, tableIndex_some number index]
    exact congrArg Host.Outcome.next (admitted.answers answer)
  · have answer := writeWindowBody_writes (s := s) (tableIndex_some number index) parsed
    rw [rewriteWindow_apart apart] at answer
    exact congrArg Host.Outcome.next (admitted.answers answer)
  · have answer : writePresetBody r s = Reply.mk (setPreset p pr s) .ok [] none false := by
      simp only [writePresetBody, writtenRecord, tableIndex_some number index, parsed]
    exact congrArg Host.Outcome.next (admitted.answers answer)
  · have answer : writePortSettingsBody r s = Reply.mk (setPortSettings k ps s) .ok [] none false := by
      simp only [writePortSettingsBody, writtenRecord, tableIndex_some number index, parsed]
    exact congrArg Host.Outcome.next (admitted.answers answer)
  · exact congrArg Host.Outcome.next (admitted.answers (deleteHotkeyBody_empty (tableIndex_some number index) empty))
  · exact congrArg Host.Outcome.next (admitted.answers (deleteHotkeyBody_empties (tableIndex_some number index) held))
  · exact congrArg Host.Outcome.next (admitted.answers (deletePresetBody_empty (tableIndex_some number index) empty))
  · exact congrArg Host.Outcome.next (admitted.answers (deletePresetBody_empties (tableIndex_some number index) held))

end Sys2Proof.Safety
end

section
/-! PROOFS. Records and sections as bytes: what is written is read back (section 10.6), and a saved section is valid
(R183, R188). -/

namespace Sys2Proof.Safety

open Sys2Proof.Machine

/-! Numbers and names as bytes. -/

theorem toNat_byteOf {n : Nat} (h : n < 256) : (byteOf n).toNat = n := by
  simp only [byteOf, BitVec.toNat_ofNat]
  omega

theorem byteOf_val_ne {n m : Nat} {b : Byte} (i : Fin n) (small : n ≤ m) (above : m ≤ b.toNat) : byteOf i.val ≠ b := by
  intro same
  have value : (byteOf i.val).toNat = i.val := toNat_byteOf (by have := b.isLt; omega)
  rw [same] at value
  omega

theorem natAt_eq {bytes : List Byte} {i n : Nat} (h : byteAt bytes i = byteOf n) (small : n < 256) : natAt bytes i = n := by
  rw [natAt, h, toNat_byteOf small]

theorem read16_eq {bytes : List Byte} {i n : Nat} (low : byteAt bytes i = byteOf n)
    (high : byteAt bytes (i + 1) = byteOf (n / 256)) (h : n < 65536) : read16 bytes i = n := by
  rw [read16, natAt, natAt, low, high]
  simp only [byteOf, BitVec.toNat_ofNat]
  omega

theorem parseComputer_computerByte (c : Option Computer) : parseComputer (computerByte c) = some c := by
  cases c with
  | none => rfl
  | some k =>
    have value : (byteOf k.val).toNat = k.val := toNat_byteOf (by omega)
    have other : byteOf k.val ≠ 0xFF#8 := byteOf_val_ne (m := 16) k (by omega) (by decide)
    simp only [parseComputer, computerByte, if_neg other, value, indexOf?_val, Option.map_some]

theorem parseSource_sourceByte (src : Source) : parseSource (sourceByte src) = some src := by
  cases src with
  | none => rfl
  | some j =>
    have value : (byteOf j.val).toNat = j.val := toNat_byteOf (by omega)
    have other : byteOf j.val ≠ 0xFE#8 := byteOf_val_ne (m := 16) j (by omega) (by decide)
    simp only [parseSource, sourceByte, if_neg other, value, indexOf?_val, Option.map_some]

theorem parseHome_screenByte (home : Option Screen) : parseHome (screenByte home) = some home := by
  cases home with
  | none => rfl
  | some sc =>
    have value : (byteOf sc.val).toNat = sc.val := toNat_byteOf (by omega)
    have other : byteOf sc.val ≠ 0xFF#8 := byteOf_val_ne (m := 16) sc (by omega) (by decide)
    simp only [parseHome, screenByte, if_neg other, value, indexOf?_val, Option.map_some]

/-! Hotkey entries. -/

theorem actionCode_lt (a : Action) : actionCode a < 256 := by cases a <;> simp [actionCode]

theorem actionArgument_lt {a : Action} (range : ∀ t, a = .shareFor t → t ≤ 3600) : actionArgument a < 65536 := by
  cases a with
  | shareFor t =>
    have := range t rfl
    simp only [actionArgument]
    omega
  | _ =>
    simp only [actionArgument, absentArgument]
    omega

theorem parseAction_back {a : Action} (range : ∀ t, a = .shareFor t → 1 ≤ t ∧ t ≤ 3600) :
    parseAction (actionCode a) (actionArgument a) = some a := by
  cases a with
  | shareFor t => exact if_pos (range t rfl)
  | focus k | select k | wake k | applyPreset p | shareScreen sc | broadcastToggle k =>
    simp only [parseAction, actionCode, actionArgument, indexOf?_val, Option.map_some]
  | cycle | share | unshare | lock | unlock | broadcastOff | holdToggle => rfl

/-- The trigger is read back from the first six bytes, whatever follows them. -/
theorem parseTrigger_back {t : Trigger} (count : ∀ keys, t = .leader keys → 1 ≤ keys.length ∧ keys.length ≤ 3)
    (more : List Byte) : parseTrigger (triggerBytes t ++ more) = some t := by
  cases t with
  | chord mods key => rfl
  | leader keys =>
    obtain ⟨low, high⟩ := count keys rfl
    match keys, low, high with
    | [a], _, _ => rfl
    | [a, b], _, _ => rfl
    | [a, b, c], _, _ => rfl

theorem length_triggerBytes (t : Trigger) : (triggerBytes t).length = 6 := by cases t <;> rfl

theorem length_hotkeyBytes (h : Hotkey) : (hotkeyBytes h).length = 9 := by
  simp [hotkeyBytes, length_triggerBytes, le16]

/-- Bytes 6 to 8 of a hotkey entry record are its action. -/
theorem byteAt_hotkeyBytes (h : Hotkey) :
    byteAt (hotkeyBytes h) 6 = byteOf (actionCode h.action) ∧
      byteAt (hotkeyBytes h) 7 = byteOf (actionArgument h.action) ∧
      byteAt (hotkeyBytes h) 8 = byteOf (actionArgument h.action / 256) := by
  cases trigger : h.trigger <;> simp [hotkeyBytes, trigger, triggerBytes, le16, byteAt]

theorem parseHotkey_back {h : Hotkey} (allowed : triggerAllowed h.trigger = true)
    (count : ∀ keys, h.trigger = .leader keys → 1 ≤ keys.length ∧ keys.length ≤ 3)
    (range : ∀ t, h.action = .shareFor t → 1 ≤ t ∧ t ≤ 3600) : parseHotkey (hotkeyBytes h) = some h := by
  obtain ⟨code, low, high⟩ := byteAt_hotkeyBytes h
  have trigger : parseTrigger (hotkeyBytes h) = some h.trigger := by
    rw [hotkeyBytes, List.append_assoc]
    exact parseTrigger_back count _
  have action : parseAction (natAt (hotkeyBytes h) 6) (read16 (hotkeyBytes h) 7) = some h.action := by
    rw [natAt_eq code (actionCode_lt _), read16_eq low high (actionArgument_lt fun t shares => (range t shares).2)]
    exact parseAction_back range
  have noModifiers : byteAt (hotkeyBytes h) 0 = 1#8 → byteAt (hotkeyBytes h) 5 = 0#8 := by
    cases h with
    | mk t a => cases t <;> simp [hotkeyBytes, triggerBytes, byteAt]
  simp only [parseHotkey, trigger, action]
  exact if_pos ⟨allowed, noModifiers⟩

/-! Windows, port settings, layout records and mode settings. -/

theorem parseWindow_back {w : Window} (wide : 1 ≤ w.ww) (tall : 1 ≤ w.wh) (right : w.wx0 + w.ww ≤ 32768)
    (bottom : w.wy0 + w.wh ≤ 32768) : parseWindow (windowBytes w) = some w := by
  have computer : parseComputer (byteAt (windowBytes w) 0) = some w.computer := parseComputer_computerByte _
  have domain : indexOf? 4 (natAt (windowBytes w) 1) = some w.domain := by
    rw [natAt_eq (n := w.domain.val) rfl (by omega), indexOf?_val]
  have home : parseHome (byteAt (windowBytes w) 2) = some w.home := parseHome_screenByte _
  have x0 : read16 (windowBytes w) 3 = w.wx0 := read16_eq rfl rfl (by omega)
  have y0 : read16 (windowBytes w) 5 = w.wy0 := read16_eq rfl rfl (by omega)
  have ww : read16 (windowBytes w) 7 = w.ww := read16_eq rfl rfl (by omega)
  have wh : read16 (windowBytes w) 9 = w.wh := read16_eq rfl rfl (by omega)
  simp only [parseWindow, computer, domain, home, x0, y0, ww, wh]
  exact if_pos ⟨wide, by omega, tall, by omega, right, bottom⟩

/-- The three bits of byte 0 of a port settings record. -/
def portBits (form : PointerForm) (key focus : Bool) : Byte :=
  (if form = .relative then 1#8 else 0#8) ||| (if key then 2#8 else 0#8) ||| (if focus then 4#8 else 0#8)

theorem portBits_bits (form : PointerForm) (key focus : Bool) :
    (if (portBits form key focus).getLsbD 0 then PointerForm.relative else .absolute) = form ∧
      (portBits form key focus).getLsbD 1 = key ∧ (portBits form key focus).getLsbD 2 = focus := by
  cases form <;> revert key focus <;> decide

theorem rawPortSettings_back {p : PortSettings} (timeout : p.timeout < 256) (retries : p.retries < 256) :
    rawPortSettings (portSettingsBytes p) = p := by
  have seconds : natAt (portSettingsBytes p) 1 = p.timeout := natAt_eq rfl timeout
  have signals : natAt (portSettingsBytes p) 2 = p.retries := natAt_eq rfl retries
  have mark : byteAt (portSettingsBytes p) 0 = portBits p.form p.wakeOnKey p.wakeOnFocus := rfl
  obtain ⟨form, key, focus⟩ := portBits_bits p.form p.wakeOnKey p.wakeOnFocus
  simp only [rawPortSettings, seconds, signals, mark, form, key, focus]

theorem parsePortSettings_back {p : PortSettings} (low : 1 ≤ p.timeout) (high : p.timeout ≤ 30) (retries : p.retries ≤ 7) :
    parsePortSettings (portSettingsBytes p) = some p := by
  have raw := rawPortSettings_back (p := p) (by omega) (by omega)
  simp only [parsePortSettings, raw]
  exact if_pos ⟨low, high, retries⟩

theorem parsePlacement_back {p : Placement} (x0 : p.x0 < 65536) (y0 : p.y0 < 65536) (w : p.w < 65536) (h : p.h < 65536) :
    parsePlacement (placementBytes p) = p := by
  have left : read16 (placementBytes p) 1 = p.x0 := read16_eq rfl rfl x0
  have top : read16 (placementBytes p) 3 = p.y0 := read16_eq rfl rfl y0
  have wide : read16 (placementBytes p) 5 = p.w := read16_eq rfl rfl w
  have tall : read16 (placementBytes p) 7 = p.h := read16_eq rfl rfl h
  have mark : byteAt (placementBytes p) 0 = flagByte p.enabled := rfl
  simp only [parsePlacement, left, top, wide, tall, mark]
  obtain ⟨enabled, _, _, _, _⟩ := p
  cases enabled <;> rfl

theorem parseModeSettings_back {m : ModeSettings} (gain : 1 ≤ m.gain) (gainHigh : m.gain ≤ 255)
    (edge : m.edgeResistance ≤ 1023) (key : isLeaderUsage m.leaderKey = true) (leader : 50 ≤ m.leaderWindow)
    (leaderHigh : m.leaderWindow ≤ 1000) (command : 500 ≤ m.commandWindow) (commandHigh : m.commandWindow ≤ 5000)
    (age : m.ageLimit ≤ 255) : parseModeSettings (modeSettingsBytes m) = some m := by
  have g : natAt (modeSettingsBytes m) 0 = m.gain := natAt_eq rfl (by omega)
  have e : read16 (modeSettingsBytes m) 1 = m.edgeResistance := read16_eq rfl rfl (by omega)
  have k : byteAt (modeSettingsBytes m) 3 = m.leaderKey := rfl
  have l : read16 (modeSettingsBytes m) 4 = m.leaderWindow := read16_eq rfl rfl (by omega)
  have c : read16 (modeSettingsBytes m) 6 = m.commandWindow := read16_eq rfl rfl (by omega)
  have a : read16 (modeSettingsBytes m) 8 = m.ageLimit := read16_eq rfl rfl (by omega)
  have f : parseComputer (byteAt (modeSettingsBytes m) 10) = some m.initialFocus := parseComputer_computerByte _
  simp only [parseModeSettings, g, e, k, l, c, a, f]
  exact if_pos ⟨gain, edge, key, leader, leaderHigh, command, commandHigh, age⟩

/-! Presets. -/

theorem parsePresetSource_back (x : Option Source) : parsePresetSource (presetSourceByte x) = some x := by
  cases x with
  | none => rfl
  | some src =>
    have other : sourceByte src ≠ 0xFF#8 := by
      cases src with
      | none => decide
      | some j => exact byteOf_val_ne (m := 16) j (by omega) (by decide)
    simp only [parsePresetSource, presetSourceByte, if_neg other, parseSource_sourceByte, Option.map_some]

/-- The two share bytes of a preset record, where the index byte of a share without an index is free. -/
def shareBytes (free : Byte) : Option Selection → List Byte
  | none => [0xFF#8, free]
  | some .nothing => [0#8, free]
  | some (.screen s) => [1#8, byteOf s.val]
  | some (.input j) => [2#8, byteOf j.val]

theorem presetBytes_eq (free : Byte) (p : Preset) :
    presetBytes free p = p.sources.toList.map presetSourceByte ++ computerByte p.focus :: shareBytes free p.share := by
  obtain ⟨sources, focus, share⟩ := p
  unfold presetBytes shareBytes
  rw [List.append_assoc]
  cases share with
  | none => rfl
  | some sel => cases sel <;> rfl

theorem length_shareBytes (free : Byte) (share : Option Selection) : (shareBytes free share).length = 2 := by
  cases share with
  | none => rfl
  | some sel => cases sel <;> rfl

theorem parsePresetShare_back (free : Byte) (share : Option Selection) :
    parsePresetShare (byteAt (shareBytes free share) 0) (byteAt (shareBytes free share) 1) = some share := by
  match share with
  | none => rfl
  | some .nothing => rfl
  | some (.screen sc) =>
    have value : (byteOf sc.val).toNat = sc.val := toNat_byteOf (by omega)
    have parse : parsePresetShare 1#8 (byteOf sc.val) =
        (indexOf? 8 (byteOf sc.val).toNat).map (fun s => some (.screen s)) := rfl
    rw [value, indexOf?_val] at parse
    exact parse
  | some (.input j) =>
    have value : (byteOf j.val).toNat = j.val := toNat_byteOf (by omega)
    have parse : parsePresetShare 2#8 (byteOf j.val) =
        (indexOf? 16 (byteOf j.val).toNat).map (fun j => some (.input j)) := rfl
    rw [value, indexOf?_val] at parse
    exact parse

theorem byteAt_append_right (a b : List Byte) (i : Nat) : byteAt (a ++ b) (a.length + i) = byteAt b i := by
  simp only [byteAt, List.getD_eq_getElem?_getD]
  rw [List.getElem?_append_right (by omega), Nat.add_sub_cancel_left]

theorem byteAt_map_toList {α : Type} {n : Nat} (v : Vector α n) (f : α → Byte) (more : List Byte) (i : Fin n) :
    byteAt (v.toList.map f ++ more) i.val = f (v.get i) := by
  have bound : i.val < (v.toList.map f).length := by simp
  simp only [byteAt, List.getD_eq_getElem?_getD]
  rw [List.getElem?_append_left bound, List.getElem?_eq_getElem bound, Option.getD_some, List.getElem_map,
    Vector.getElem_toList]
  rfl

theorem parsePreset_back (free : Byte) (p : Preset) : parsePreset (presetBytes free p) = some p := by
  have source (i : Fin 8) : parsePresetSource (byteAt (presetBytes free p) i.val) = some (p.sources.get i) := by
    rw [presetBytes_eq, byteAt_map_toList, parsePresetSource_back]
  have tail (i : Nat) :
      byteAt (presetBytes free p) (8 + i) = byteAt (computerByte p.focus :: shareBytes free p.share) i := by
    have eight_long : (p.sources.toList.map presetSourceByte).length = 8 := by simp
    have := byteAt_append_right (p.sources.toList.map presetSourceByte) (computerByte p.focus :: shareBytes free p.share) i
    rw [eight_long] at this
    rw [presetBytes_eq]
    exact this
  have focus : parseComputer (byteAt (presetBytes free p) 8) = some p.focus := by
    rw [show byteAt (presetBytes free p) 8 = computerByte p.focus from tail 0]
    exact parseComputer_computerByte _
  have share : parsePresetShare (byteAt (presetBytes free p) 9) (byteAt (presetBytes free p) 10) = some p.share := by
    rw [show byteAt (presetBytes free p) 9 = byteAt (shareBytes free p.share) 0 from tail 1,
      show byteAt (presetBytes free p) 10 = byteAt (shareBytes free p.share) 1 from tail 2]
    exact parsePresetShare_back free p.share
  have inRange : presetInRange (presetBytes free p) = true := by
    simp only [presetInRange, focus, share, Option.isSome_some, Bool.and_true, List.all_eq_true, List.mem_range]
    intro i below
    rw [source ⟨i, below⟩]
    rfl
  have loaded : loadPreset (presetBytes free p) = p := by
    have sources : (Vector.ofFn fun i : Fin 8 => (parsePresetSource (byteAt (presetBytes free p) i.val)).getD none) =
        p.sources := by
      refine vector_ext fun i => ?_
      rw [get_ofFn, source]
      rfl
    simp only [loadPreset, focus, share, sources, Option.getD_some]
  rw [parsePreset, if_pos inRange, loaded]

/-- Settles O51. -/
theorem recordsReadBack : Obligations.RecordsReadBack := by
  unfold Obligations.RecordsReadBack
  exact ⟨fun h allowed count range => parseHotkey_back allowed count range,
    fun w wide tall right bottom => parseWindow_back wide tall right bottom,
    fun p low high retries => parsePortSettings_back low high retries, parsePreset_back,
    fun p x0 y0 w h => parsePlacement_back x0 y0 w h,
    fun m gain gainHigh edge key leader leaderHigh command commandHigh age =>
      parseModeSettings_back gain gainHigh edge key leader leaderHigh command commandHigh age⟩

/-! The saved section (R183, R188). -/

theorem wordSum_append {a : List Byte} (even : a.length % 2 = 0) (b : List Byte) :
    wordSum (a ++ b) = wordSum a + wordSum b := by
  induction a using wordSum.induct with
  | case1 => simp [wordSum]
  | case2 x => simp at even
  | case3 low high rest ih =>
    have shorter : rest.length % 2 = 0 := by
      simp only [List.length_cons] at even
      omega
    simp only [List.cons_append, wordSum, ih shorter]
    omega

/-- The check word completes the sum of the words (R183). -/
theorem sectionValid_checkWord {content : List Byte} (even : content.length % 2 = 0) :
    sectionValid (content ++ checkWord content) = true := by
  have word : wordSum (checkWord content) = 65535 - wordSum content % 65536 := by
    simp only [checkWord, le16, wordSum, byteOf, BitVec.toNat_ofNat]
    omega
  rw [sectionValid, decide_eq_true_eq, wordSum_append even, word]
  omega

/-- Records of one length, one after the other. -/
theorem length_flatMap_of {α : Type} {l : List α} {f : α → List Byte} {n : Nat} (h : ∀ x, (f x).length = n) :
    (l.flatMap f).length = n * l.length := by
  induction l with
  | nil => simp
  | cons x l ih =>
    rw [List.flatMap_cons, List.length_append, h, ih, List.length_cons]
    ring

theorem length_hotkeySlotBytes (free : Nat → Byte) (start : Nat) (slot : Option Hotkey) :
    (hotkeySlotBytes free start slot).length = 9 := by
  cases slot with
  | none => rfl
  | some h => exact length_hotkeyBytes h

theorem length_presetBytes (free : Byte) (p : Preset) : (presetBytes free p).length = 11 := by
  simp [presetBytes_eq, length_shareBytes]

theorem length_sectionContent (s : State) : (sectionContent s).length = 668 := by
  simp only [sectionContent, List.length_append]
  rw [length_flatMap_of (n := 9) fun i => length_hotkeySlotBytes _ _ _, length_flatMap_of (n := 11) fun w => rfl,
    length_flatMap_of (n := 3) fun p => rfl, length_flatMap_of (n := 11) fun p => length_presetBytes _ _,
    length_flatMap_of (n := 9) fun p => rfl]
  simp [modeSettingsBytes, le16, eight]

/-- Settles O52. -/
theorem savedSectionIsValid : Obligations.SavedSectionIsValid := by
  unfold Obligations.SavedSectionIsValid
  intro s
  have length := length_sectionContent s
  refine ⟨?_, sectionValid_checkWord (by rw [length])⟩
  rw [sectionToWrite, List.length_append, length]
  rfl

end Sys2Proof.Safety
end

section
/-! PROOFS. Power-on, the reset state and the desk reset (R183 to R188, R20, R28, R45, R121, R156). -/

namespace Sys2Proof.Safety

open Sys2Proof.Machine

/-! The memory at power-on (R188). -/

theorem byteAt_map_range (f : Nat → Byte) {n i : Nat} (h : i < n) : byteAt ((List.range n).map f) i = f i := by
  simp [byteAt, List.getD_eq_getElem?_getD, h]

theorem byteAt_readBlock {m : List Host.Cell} {start length i : Nat} (h : i < length) :
    byteAt (readBlock m start length) i = readCell m (start + i) := byteAt_map_range _ h

theorem readCell_cellsOf_zero (bytes : List Byte) (a : Nat) : readCell (cellsOf 0 bytes) a = byteAt bytes a := by
  have read := readCell_cellsOf 0 bytes a
  rwa [Nat.zero_add] at read

theorem readBlock_cellsOf (bytes : List Byte) (start length : Nat) :
    readBlock (cellsOf 0 bytes) start length = (List.range length).map (fun i => byteAt bytes (start + i)) := by
  simp only [readBlock, readCell_cellsOf_zero]

/-- A disagreeing section differs from its bytes in the low byte of the check word alone. -/
theorem byteAt_disagreeing {free : Byte} {bytes : List Byte} {i : Nat} (h : i ≠ 668 ∨ sectionValid bytes = false) :
    byteAt (disagreeing free bytes) i = byteAt bytes i := by
  unfold disagreeing
  split
  · next valid =>
    have other : Config.checkOffset ≠ i := fun eq =>
      h.elim (fun ne => ne eq.symm) (fun invalid => by rw [invalid] at valid; cases valid)
    simp only [byteAt, List.getD_eq_getElem?_getD, List.getElem?_modify, if_neg other]
    simp
  · rfl

theorem memoryAtPowerOn_idle {image : Option (List Byte)} {s : State} (h : s.image.writing = none) :
    memoryAtPowerOn image s = (image.map (cellsOf 0)).getD s.image.memory := by
  simp [memoryAtPowerOn, h]

/-- Beside the tables section the memory at power-on is what it answers or held. -/
theorem readCell_memoryAtPowerOn_outside {image : Option (List Byte)} {s : State} {a : Nat} (h : a < 22 ∨ 692 ≤ a) :
    readCell (memoryAtPowerOn image s) a = readCell ((image.map (cellsOf 0)).getD s.image.memory) a := by
  unfold memoryAtPowerOn
  dsimp only
  split
  · unfold memoryAfterPowerLoss
    dsimp only
    rw [readCell_writeBlock, length_disagreeing]
    refine if_neg fun inside => ?_
    have length : (if image.isSome = true then
        readBlock ((image.map (cellsOf 0)).getD s.image.memory) Config.tablesOffset Config.tablesLength
        else (List.range Config.tablesLength).map (Config.freeByte s.freeUses)).length = 670 := by
      split
      · simp [readBlock, Config.tablesLength]
      · simp [Config.tablesLength]
    rw [length] at inside
    simp only [Config.tablesOffset] at inside
    omega
  · rfl

/-- What the memory answers is what it holds after power-on, but for the check byte of an interrupted write (R188). -/
theorem readCell_memoryAtPowerOn {bytes : List Byte} {s : State} {a : Nat}
    (h : s.image.writing = none ∨ a ≠ 690 ∨ sectionValid ((List.range 670).map (fun i => byteAt bytes (22 + i))) = false) :
    readCell (memoryAtPowerOn (some bytes) s) a = byteAt bytes a := by
  by_cases inside : 22 ≤ a ∧ a < 692
  · cases writing : s.image.writing with
    | none =>
      rw [memoryAtPowerOn_idle writing]
      exact readCell_cellsOf_zero bytes a
    | some written =>
      have lost : memoryAtPowerOn (some bytes) s =
          writeBlock (cellsOf 0 bytes) 22
            (disagreeing (Config.freeByte s.freeUses Config.tablesLength) (readBlock (cellsOf 0 bytes) 22 670)) := by
        simp only [memoryAtPowerOn, writing, memoryAfterPowerLoss]
        rfl
      have block := readBlock_cellsOf bytes 22 670
      have check : a - 22 ≠ 668 ∨ sectionValid (readBlock (cellsOf 0 bytes) 22 670) = false := by
        rw [block]
        rcases h with idle | other | invalid
        · rw [writing] at idle
          cases idle
        · exact .inl (by omega)
        · exact .inr invalid
      have length : (readBlock (cellsOf 0 bytes) 22 670).length = 670 := readBlock_length _ _ _
      have place : 22 + (a - 22) = a := by omega
      have byte : byteAt (readBlock (cellsOf 0 bytes) 22 670) (a - 22) = byteAt bytes a := by
        rw [byteAt_readBlock (by omega), place, readCell_cellsOf_zero]
      rw [lost, readCell_writeBlock, length_disagreeing, length, if_pos ⟨inside.1, by omega⟩, byteAt_disagreeing check, byte]
  · rw [readCell_memoryAtPowerOn_outside (by omega)]
    exact readCell_cellsOf_zero bytes a

/-! The image as the memory holds it (R183). -/

/-- Bytes cut out of a block are a block. -/
theorem take_drop_readBlock (m : List Host.Cell) {start size length : Nat} (h : start + size ≤ length) :
    ((readBlock m 0 length).drop start).take size = readBlock m start size := by
  refine List.ext_getElem ?_ fun i _ _ => ?_
  · simp only [readBlock, List.length_take, List.length_drop, List.length_map, List.length_range]
    omega
  · simp [readBlock]

theorem tablesSection_imageOf (m : List Host.Cell) : tablesSection (imageOf m) = readBlock m 22 670 :=
  take_drop_readBlock m (by decide)

theorem validTables_of_bad_section {bytes : List Byte} (h : sectionValid (tablesSection bytes) = false) :
    validTables (some bytes) = none := by
  simp [validTables, h]

theorem validTables_invalid {m : List Host.Cell} (h : sectionValid (readBlock m 22 670) = false)
    (image : Option (List Byte)) : validTables (image.map (fun _ => imageOf m)) = none := by
  cases image with
  | none => rfl
  | some bytes => exact validTables_of_bad_section (by rw [tablesSection_imageOf]; exact h)

theorem tablesFrom_of_invalid {image : Option (List Byte)} (h : validTables image = none) :
    tablesFrom image = tablesFrom none ∧ sourcesFrom image = sourcesFrom none := by
  simp only [tablesFrom, sourcesFrom, h]
  exact ⟨rfl, rfl⟩

/-- Settles O3. -/
theorem powerOnStartsEveryBlock : Obligations.PowerOnStartsEveryBlock := by
  unfold Obligations.PowerOnStartsEveryBlock
  intro image s
  refine ⟨powerOn image s, rfl, fun bytes answered a h => ?_, fun silent idle => ?_, fun silent a outside => ?_,
    fun writing => ?_, rfl, rfl, rfl, rfl, rfl, rfl, rfl, fun k => ?_, rfl, rfl, rfl, rfl, rfl, fun j => get_replicate _ j,
    fun sc => powerOn_screen image s sc, rfl, fun i => get_replicate _ i, rfl, rfl, rfl, rfl, rfl, rfl, ?_⟩
  · subst answered
    exact readCell_memoryAtPowerOn h
  · subst silent
    exact memoryAtPowerOn_idle idle
  · subst silent
    exact readCell_memoryAtPowerOn_outside outside
  · obtain ⟨written, inFlight⟩ := Option.ne_none_iff_exists'.mp writing
    have invalid := sectionValid_memoryAtPowerOn inFlight image
    have none := validTables_invalid invalid image
    obtain ⟨tables, sources⟩ := tablesFrom_of_invalid none
    refine ⟨invalid, tables, ?_, fun sc => ?_⟩
    · have flag : (powerOn image s).image.tablesInvalid = (validTables (imageAtPowerOn image s)).isNone := rfl
      rw [flag]
      exact congrArg Option.isNone none
    · rw [powerOn_screen, ← sources]
      rfl
  · rw [powerOn_port]
    rfl
  · have uses : (powerOn image s).freeUses = s.freeUses + (if s.image.writing.isSome then 1 else 0) := rfl
    rw [uses]
    cases s.image.writing with
    | none => rfl
    | some written => rfl

/-! The reset state (R186). -/

theorem memoryAtPowerOn_reset : memoryAtPowerOn (some []) State.reset = [] := rfl

/-- An image without a good header gives no valid section (R183). -/
theorem valid_of_bad_header {bytes : List Byte} (h : headerGood bytes = false) :
    validSettings (some bytes) = none ∧ validTables (some bytes) = none := by
  simp [validSettings, validTables, h]

/-- A blank memory has no good header, so that both sections take their defaults (R183). -/
theorem headerGood_blank : headerGood (imageOf []) = false := by
  have blank (i : Nat) (h : i < 692) : byteAt (imageOf []) i = 0#8 := byteAt_readBlock h
  have version : read16 (imageOf []) 0 = 0 := by
    simp only [read16, natAt, blank 0 (by decide), blank (0 + 1) (by decide)]
    rfl
  simp [headerGood, version]

theorem powerOn_reset : powerOn (some []) State.reset = State.reset := by
  have image : imageAtPowerOn (some []) State.reset = some (imageOf []) := rfl
  obtain ⟨noSettings, noTables⟩ := valid_of_bad_header headerGood_blank
  have settings : settingsFrom (some (imageOf [])) = defaultSettings := by simp [settingsFrom, noSettings]
  obtain ⟨tables, sources⟩ := tablesFrom_of_invalid noTables
  have ports : (State.reset.ports.map portAtPowerOn) = State.reset.ports :=
    vector_ext fun k => (get_map _ _ k).trans (by rw [show State.reset.ports.get k = emptyPort from get_replicate _ k]; rfl)
  rw [powerOn_eq, image, memoryAtPowerOn_reset]
  unfold powerOnWith loadImage
  rw [settings, tables, sources, noSettings, noTables]
  exact congrArg (fun ps => { State.reset with ports := ps }) ports

theorem reset_port (k : Computer) : State.reset.port k = emptyPort := get_replicate _ k

theorem reset_screen (sc : Screen) : State.reset.screen sc = emptyScreen (defaultSources.get sc) := get_map _ _ _

theorem reset_tables : State.reset.tables = tablesFrom none := rfl

theorem bounded_reset : Bounded State.reset where
  held := by decide
  journal := by decide
  errors := by decide
  overflow := by decide
  foreign := by decide
  mismatches := by decide
  resync k := by rw [reset_port]; decide
  repeats sc := by rw [reset_screen]; exact Nat.zero_le _
  skips sc := by rw [reset_screen]; exact Nat.zero_le _
  shareRepeat := by decide
  shareSkip := by decide

theorem portSettled_emptyPort : PortSettled emptyPort where
  presence := ⟨fun _ => rfl, fun _ => rfl⟩
  length := by decide
  queue _ := rfl
  resync _ := rfl
  pair _ := rfl

theorem wakeSettled_emptyPort : WakeSettled emptyPort where
  presence := ⟨fun _ => rfl, fun _ => rfl⟩
  attempt := ⟨fun h => (by cases h), fun h => (by cases h)⟩
  armed h := by cases h
  signals a h := by cases h

theorem ownersFenced_reset : OwnersFenced State.reset where
  presence k := by rw [reset_port]; exact portSettled_emptyPort.presence
  queueable _ he := absurd he List.not_mem_nil
  suppressed _ he := absurd he List.not_mem_nil
  oneDomain _ he := absurd he List.not_mem_nil
  buttons b k h := by
    have none : State.reset.keys.buttons.get b = none := get_replicate _ b
    rw [none] at h
    cases h
  broadcast k h := by
    have none : inSet State.reset.focusUnit.broadcast k = false := inSet_zero k
    rw [none] at h
    cases h

theorem snapshotsCurrent_reset : SnapshotsCurrent State.reset where
  distinct := List.Pairwise.nil
  current k := by
    have last : State.reset.keys.snapshots.get k = emptySnapshot := get_replicate _ k
    rw [last]
    rfl

theorem screensSettled_reset : ScreensSettled State.reset := by
  refine ⟨fun sc => ?_, fun _ => rfl⟩
  rw [reset_screen]
  exact ⟨fun _ => rfl, fun _ => rfl, fun _ => rfl⟩

/-- Settles O4. -/
theorem resetIsBlankPowerOnAndGood : Obligations.ResetIsBlankPowerOnAndGood := by
  unfold Obligations.ResetIsBlankPowerOnAndGood
  refine ⟨congrArg Host.Outcome.next powerOn_reset, bounded_reset, fun k => ?_, fun k => ?_, fun k _ => ?_,
    ownersFenced_reset, snapshotsCurrent_reset, ?_, screensSettled_reset, ⟨fun p h => (by cases h), fun h => (by cases h)⟩,
    ⟨layoutFault_tablesFrom none, fun p h => (by cases h)⟩, windowsInside_iff.mpr (inSpace_tablesFrom none),
    hotkeysSound_tablesFrom none reset_tables, memoryWf_reset⟩
  · rw [reset_port]
    exact portSettled_emptyPort
  · rw [reset_port]
    exact wakeSettled_emptyPort
  · rw [reset_port]
    rfl
  · have value : ledValue State.reset = (State.reset.port 0).leds := rfl
    rw [LedsCurrent, value, reset_port]
    rfl

end Sys2Proof.Safety
end

section
/-! PROOFS. The desk reset (R20, R28, R45, R121, R156, R158, R187). -/

namespace Sys2Proof.Safety

open Sys2Proof.Machine

/-! Source requests with an IDLE engine (R140). -/

/-- A screen's record after a request for a source (R140). -/
def requested (r : ScreenRecord) (src : Source) : ScreenRecord :=
  if intendedOf r = src then r
  else if r.sink.isSome then { r with pending := some src }
  else { r with committed := src }

theorem screen_requestSource_eq (sc : Screen) (src : Source) (s : State) (t : Screen) :
    (requestSource sc src s).screen t = if t = sc then requested (s.screen sc) src else s.screen t := by
  rw [screen_requestSource]
  unfold requestOutcome requested
  by_cases same : intendedOf (s.screen sc) = src
  · simp [same]
  · by_cases sink : (s.screen sc).sink.isSome = true
    · rw [if_neg same, if_neg same, if_pos sink, if_pos sink]
    · rw [if_neg same, if_neg same, if_neg sink, if_neg sink]

theorem requestSource_idle {sc : Screen} {src : Source} {s : State} (idle : s.engine = none) :
    (requestSource sc src s).engine = none ∧ (requestSource sc src s).ports = s.ports := by
  unfold requestSource
  cases requestOutcome s sc src with
  | noChange => exact ⟨idle, rfl⟩
  | pending => exact ⟨idle, rfl⟩
  | committed =>
    have stays := engineCommit_idle sc src (s.setScreen sc { s.screen sc with committed := src }) idle
    dsimp only
    rw [stays]
    exact ⟨idle, rfl⟩

theorem requestSources_idle (reqs : List (Screen × Source)) {s : State} (idle : s.engine = none) :
    (requestSources reqs s).engine = none ∧ (requestSources reqs s).ports = s.ports := by
  unfold requestSources
  induction reqs generalizing s with
  | nil => exact ⟨idle, rfl⟩
  | cons q reqs ih =>
    obtain ⟨engine, ports⟩ := requestSource_idle (sc := q.1) (src := q.2) idle
    rw [List.foldl_cons]
    exact ⟨(ih engine).1, (ih engine).2.trans ports⟩

/-- One request for each screen of a list leaves each of them as its own request does. -/
theorem screen_requestSources_of_each {f : Screen → Source} {l : List Screen} (distinct : l.Nodup) (s : State) (sc : Screen) :
    (requestSources (l.map (fun x => (x, f x))) s).screen sc =
      if sc ∈ l then requested (s.screen sc) (f sc) else s.screen sc := by
  unfold requestSources
  induction l generalizing s with
  | nil => simp
  | cons x l ih =>
    obtain ⟨fresh, rest⟩ := List.nodup_cons.mp distinct
    rw [List.map_cons, List.foldl_cons, ih rest, screen_requestSource_eq]
    by_cases here : sc = x
    · subst here
      simp [fresh]
    · simp [here]

theorem screen_initialRequests (sources : Vector Source 8) (s : State) (sc : Screen) :
    (requestSources (initialRequests sources) s).screen sc = requested (s.screen sc) (sources.get sc) := by
  have each := screen_requestSources_of_each (f := fun x => sources.get x) (l := eight) (by decide) s sc
  rwa [if_pos (mem_eight sc)] at each

/-! What the screens read of a request. -/

theorem requested_keeps (r : ScreenRecord) (src : Source) :
    (requested r src).sink = r.sink ∧ (requested r src).shown = r.shown ∧ (requested r src).border = r.border ∧
      (requested r src).repeats = r.repeats ∧ (requested r src).skips = r.skips := by
  unfold requested
  repeat' split
  · exact ⟨rfl, rfl, rfl, rfl, rfl⟩
  · exact ⟨rfl, rfl, rfl, rfl, rfl⟩
  · exact ⟨rfl, rfl, rfl, rfl, rfl⟩

theorem intendedOf_requested {r : ScreenRecord} {src : Source} (h : r.sink ≠ none ∨ r.pending = none) :
    intendedOf (requested r src) = src := by
  unfold requested
  split
  · next same => exact same
  · split
    · rfl
    · next absent =>
      have noSink : r.sink = none := by simpa using absent
      have noPending := h.resolve_left fun present => present noSink
      simp [intendedOf, noPending]

/-! The desk reset. -/

/-- The lowest enterable screen depends on the tables and the crosspoint alone. -/
theorem lowestScreenOf_congr {t v : State} (tables : t.tables = v.tables) (video : t.video = v.video) :
    lowestScreenOf t = lowestScreenOf v := by
  have same (k : Computer) (sc : Screen) : enterableOf t k sc = enterableOf v k sc := by
    have computer : screenComputer t sc = screenComputer v sc := by
      simp only [screenComputer, State.screen, video]
      generalize intendedOf (v.video.screens.get sc) = src
      cases src with
      | none => rfl
      | some j => simp only [computerOf, State.window, tables]
    simp only [enterableOf, enterable, computer, State.placement, State.screen, tables, video]
  funext k
  exact congrArg eight.find? (funext (same k))

theorem lowestScreenOf_freshPointer (v : State) : lowestScreenOf (freshPointer v) = lowestScreenOf v :=
  lowestScreenOf_congr rfl rfl

/-- A fresh pointer, once the LED notice is made, stands where that part's own focus and screens place it. -/
theorem refreshLeds_freshPointer_pointer (v : State) :
    (refreshLeds (freshPointer v)).pointer =
      { offPointer with
        place :=
          ((refreshLeds (freshPointer v)).focusUnit.focus.bind (lowestScreenOf (refreshLeds (freshPointer v)))).map
            (fun sc => centreOf sc ((refreshLeds (freshPointer v)).placement sc)) } := by
  have screens : lowestScreenOf (refreshLeds (freshPointer v)) = lowestScreenOf v :=
    lowestScreenOf_congr (by simp) (by simp)
  have placement : (refreshLeds (freshPointer v)).placement = v.placement := by
    funext sc
    simp [State.placement]
  rw [screens, placement, refreshLeds_focusUnit, freshPointer_focusUnit, refreshLeds_pointer]
  rfl

/-! The blocks that take their desk-reset rule. -/

theorem resetBlocks_screen (s : State) (sc : Screen) :
    (resetBlocks s).screen sc = clearScreenCounters (s.screen sc) := get_map _ _ _

theorem resetBlocks_port (s : State) (k : Computer) :
    (resetBlocks s).port k = portAtDeskReset (s.isManagement k) (s.port k) := get_ofFn _ k

theorem resetBlocks_slots (s : State) :
    (resetBlocks s).console.slots = s.console.slots.map (Option.map forgetPrevious) := rfl

theorem resetBlocks_schedule (s : State) : (resetBlocks s).schedule = Vector.replicate 8 none := rfl

/-- The part just before a desk reset makes its requests. -/
def clearedBlocks (answers : Bool) (s : State) : State := resetBlocks (loadImage (imageAtReset answers s) s)

/-- The part after the requests of a desk reset, the pointer not yet set. -/
def requestedBlocks (answers : Bool) (s : State) : State :=
  requestSources (initialRequests (sourcesFrom (imageAtReset answers s))) (clearedBlocks answers s)

section
variable (answers : Bool) (s : State)

theorem deskResetState_blocks : deskResetState answers s = refreshLeds (freshPointer (requestedBlocks answers s)) := rfl

theorem deskResetState_video : (deskResetState answers s).video = (requestedBlocks answers s).video := by
  rw [deskResetState_blocks, refreshLeds_video, freshPointer_video]

theorem deskResetState_screen (sc : Screen) :
    (deskResetState answers s).screen sc =
      requested (clearScreenCounters (s.screen sc)) ((sourcesFrom (imageAtReset answers s)).get sc) := by
  have loaded : (loadImage (imageAtReset answers s) s).screen sc = s.screen sc := by
    rw [State.screen, State.screen, loadImage_video]
  have requests : (deskResetState answers s).screen sc = (requestedBlocks answers s).screen sc := by
    rw [State.screen, State.screen, deskResetState_video]
  rw [requests, requestedBlocks, screen_initialRequests, clearedBlocks, resetBlocks_screen, loaded]

theorem deskResetState_slots :
    (deskResetState answers s).console.slots = s.console.slots.map (Option.map forgetPrevious) := by
  rw [deskResetState_blocks, refreshLeds_slots, freshPointer_console, requestedBlocks, requestSources_console,
    clearedBlocks, resetBlocks_slots, loadImage_console]

theorem deskResetState_schedule : (deskResetState answers s).schedule = Vector.replicate 8 none := by
  rw [deskResetState_blocks, refreshLeds_schedule, freshPointer_schedule, requestedBlocks, requestSources_schedule,
    clearedBlocks, resetBlocks_schedule]

theorem deskResetState_image :
    (deskResetState answers s).image =
      { s.image with
        settingsInvalid := (validSettings (imageAtReset answers s)).isNone
        tablesInvalid := (validTables (imageAtReset answers s)).isNone } := by
  rw [deskResetState_blocks, refreshLeds_image, freshPointer_image, requestedBlocks, requestSources_image,
    clearedBlocks, resetBlocks_image]
  rfl

theorem deskResetState_pointer :
    (deskResetState answers s).pointer =
      { offPointer with
        place :=
          ((deskResetState answers s).focusUnit.focus.bind (lowestScreenOf (deskResetState answers s))).map
            (fun sc => centreOf sc ((deskResetState answers s).placement sc)) } := by
  rw [deskResetState_blocks]
  exact refreshLeds_freshPointer_pointer _

theorem deskResetState_idle (idle : s.engine = none) :
    (deskResetState answers s).engine = none ∧
      (deskResetState answers s).ports = (clearedBlocks answers s).ports := by
  have cleared : (clearedBlocks answers s).engine = none := by
    rw [clearedBlocks, resetBlocks_engine, loadImage_engine, idle]
  obtain ⟨engine, ports⟩ := requestSources_idle (initialRequests (sourcesFrom (imageAtReset answers s))) cleared
  rw [deskResetState_blocks, refreshLeds_engine, refreshLeds_ports, freshPointer_engine, freshPointer_ports]
  exact ⟨engine, ports⟩

theorem deskResetState_port_idle (idle : s.engine = none) (k : Computer) :
    (deskResetState answers s).port k = portAtDeskReset ((deskResetState answers s).isManagement k) (s.port k) := by
  have managed : (deskResetState answers s).isManagement k = (loadImage (imageAtReset answers s) s).isManagement k := by
    rw [State.isManagement, State.isManagement, deskResetState_settings]
    rfl
  have loaded : (loadImage (imageAtReset answers s) s).port k = s.port k := by
    rw [State.port, State.port, loadImage_ports]
  have cleared := resetBlocks_port (loadImage (imageAtReset answers s) s) k
  rw [State.port, (deskResetState_idle answers s idle).2, managed, ← loaded]
  exact cleared

end

/-- What a desk reset makes of a port beside its result slot (R121). -/
theorem portAtDeskReset_effects (managed : Bool) (p : Port) :
    (portAtDeskReset managed p).link = p.link ∧ (portAtDeskReset managed p).sensed = p.sensed ∧
      (portAtDeskReset managed p).debounce = p.debounce ∧ (portAtDeskReset managed p).leds = p.leds ∧
      (portAtDeskReset managed p).lastPair = p.lastPair ∧ (portAtDeskReset managed p).armed = p.armed ∧
      (portAtDeskReset managed p).attempt = p.attempt ∧ (portAtDeskReset managed p).sticky = noSticky ∧
      (portAtDeskReset managed p).resyncCount = 0 ∧
      (p.link.queueable = true →
        (portAtDeskReset managed p).queue = [] ∧
          ∃ acc, (portAtDeskReset managed p).resync = some acc ∧ acc.pointerDropped = true) := by
  unfold portAtDeskReset
  split
  · refine ⟨rfl, rfl, rfl, rfl, rfl, rfl, rfl, rfl, rfl, fun _ => ⟨rfl, _, rfl, ?_⟩⟩
    exact Bool.or_true _
  · next other => exact ⟨rfl, rfl, rfl, rfl, rfl, rfl, rfl, rfl, rfl, fun queueable => absurd queueable other⟩

theorem portAtDeskReset_slot (managed : Bool) (p : Port) :
    portAtDeskReset managed p = { portAtDeskReset managed p with slot := if managed = false then none else p.slot } := by
  cases managed with
  | false => rfl
  | true =>
    unfold portAtDeskReset
    split
    · rfl
    · rfl

/-- A port after the answered desk reset: its desk-reset rule, and the slot of R168. -/
theorem port_writeSlot_deskResetState {s : State} (idle : s.engine = none) (answers : Bool) (p : Computer) (slot : ResultSlot)
    (k : Computer) :
    (writeSlot p slot (deskResetState answers s)).port k =
      { portAtDeskReset ((deskResetState answers s).isManagement k) (s.port k) with
        slot :=
          if (deskResetState answers s).isManagement k = false then none
          else if k = p then some slot else (s.port k).slot } := by
  rw [port_writeSlot, deskResetState_port_idle answers s idle, deskResetState_port_idle answers s idle]
  cases member : (deskResetState answers s).isManagement k with
  | false =>
    have elsewhere : ¬ (k = p ∧ (deskResetState answers s).isManagement p = true) := by
      rintro ⟨rfl, h⟩
      rw [member] at h
      cases h
    rw [if_neg elsewhere]
    exact portAtDeskReset_slot false _
  | true =>
    by_cases here : k = p
    · subst here
      rw [if_pos ⟨rfl, member⟩, member, if_neg (by decide), if_pos rfl]
    · rw [if_neg fun h => here h.1, if_neg (by decide), if_neg here]
      exact portAtDeskReset_slot true _

/-- A plain OK writes the issuing port's slot, if the port still stands in the management port set (R168). -/
theorem finish_ok (c : CommandSpec) (r : CommandReport) (u : State) :
    finish c r { state := u, result := .ok } =
      writeSlot r.port { tag := r.tag, command := c.code, result := .ok, data := [] } u := rfl

/-- The answer of an admitted desk reset, in its issuer's slot (R181). -/
def resetSlot (r : CommandReport) : ResultSlot := { tag := r.tag, command := 0x41#8, result := .ok, data := [] }

/-- Settles O50. -/
theorem deskResetReloads : Obligations.DeskResetReloads := by
  unfold Obligations.DeskResetReloads
  intro r answers s admitted
  refine ⟨fun writing => ?_, ?_⟩
  · have answer : deskResetBody answers s = Reply.mk s .busy [] none false :=
      if_pos (Option.isSome_iff_ne_none.mpr writing)
    exact congrArg Host.Outcome.next (admitted.answers answer)
  rintro idleMemory read rfl
  have body : deskResetBody answers s = { state := deskResetState answers s, result := .ok } :=
    if_neg (by simp [saveActive, idleMemory])
  have taken : takeCommand deskResetSpec (deskResetBody answers) r s =
      writeSlot r.port (resetSlot r) (deskResetState answers s) := by
    refine (admitted.take_fixed 0x41#8 (deskResetBody answers) (by decide) (by simp)).trans ?_
    rw [body]
    exact finish_ok _ r _
  have idle := admitted.idle
  have managed : s.isManagement r.port = true := admitted.managed
  have leds (k : Computer) : ((writeSlot r.port (resetSlot r) (deskResetState answers s)).port k).leds =
      ((deskResetState answers s).port k).leds := by
    rw [onlySlot_writeSlot r.port (resetSlot r) (deskResetState answers s) k]
  have current : LedsCurrent (deskResetState answers s) := ledsCurrent_refreshLeds _
  refine ⟨writeSlot r.port (resetSlot r) (deskResetState answers s), congrArg Host.Outcome.next taken, ?_⟩
  refine ⟨by rw [writeSlot_settings, deskResetState_settings]; rfl, by rw [writeSlot_tables, deskResetState_tables]; rfl,
    by rw [writeSlot_image]; exact deskResetState_image answers s, by simp, by simp,
    by simp, by simp [initialFocusUnit], ?_, fun i => ?_, by simp, ?_, fun k => ?_, fun empty k outside => ?_, by simp,
    fun sc => ?_, by simp, fun i => ?_, ?_, by simp, by simp, by simp⟩
  · have screens := lowestScreenOf_congr (t := writeSlot r.port (resetSlot r) (deskResetState answers s))
      (v := deskResetState answers s) (writeSlot_tables _ _ _) (writeSlot_video _ _ _)
    have placement : (writeSlot r.port (resetSlot r) (deskResetState answers s)).placement = (deskResetState answers s).placement := by
      funext sc
      rw [State.placement, writeSlot_tables]
      rfl
    rw [screens, placement, writeSlot_pointer, writeSlot_focusUnit]
    exact deskResetState_pointer answers s
  · rw [State.slotDevice, writeSlot_console, deskResetState_slots, get_map]
    refine congrArg (fun f => Option.map f (s.slotDevice i)) (funext fun d => ?_)
    cases d <;> rfl
  · rw [writeSlot_console, ledValue_congr (by rw [writeSlot_recognizer]) (by rw [writeSlot_focusUnit]) leds]
    exact current
  · rw [port_writeSlot_deskResetState idle, writeSlot_settings]
    obtain ⟨link, sensed, debounce, ledState, pair, armed, attempt, sticky, count, queue⟩ :=
      portAtDeskReset_effects ((deskResetState answers s).isManagement k) (s.port k)
    refine ⟨link, sensed, debounce, ledState, pair, armed, attempt, sticky, count, queue, rfl⟩
  · rw [port_writeSlot_deskResetState idle]
    have other : k ≠ r.port := by
      rintro rfl
      rw [managed] at outside
      cases outside
    dsimp only
    rw [if_neg other, empty k outside, ite_self]
  · have record : (writeSlot r.port (resetSlot r) (deskResetState answers s)).screen sc = (deskResetState answers s).screen sc := by
      rw [State.screen, writeSlot_video]
      rfl
    rw [record, deskResetState_screen]
    obtain ⟨sink, shown, border, repeats, skips⟩ :=
      requested_keeps (clearScreenCounters (s.screen sc)) ((sourcesFrom (imageAtReset answers s)).get sc)
    exact ⟨sink, shown, border, repeats, skips, fun h => intendedOf_requested h⟩
  · rw [State.entry, writeSlot_schedule, deskResetState_schedule]
    exact get_replicate _ i
  · rw [writeSlot_engine]
    exact (deskResetState_idle answers s idle).1

end Sys2Proof.Safety
end

section
/-! PROOFS. The advance of the millisecond counter (R157, R161, R164). -/

namespace Sys2Proof.Safety

open Sys2Proof.Machine

/-! What is due when every time lies ahead. -/

theorem isDueAt_eq_false {clock : Millis} {expiry : Option Millis} (h : ∀ e ∈ expiry, (clock - e).toInt < 0) :
    isDueAt clock expiry = false := by
  cases expiry with
  | none => rfl
  | some e => exact isDue_of_not (Int.not_le.mpr (h e rfl))

theorem leaderTime_ahead {s : State}
    (h : ∀ i e, s.recognizer = .tap1Down i e ∨ s.recognizer = .tap1Up i e ∨ s.recognizer = .tap2Down i e →
      (s.clock - e).toInt < 0) :
    ∀ e ∈ leaderTime s.recognizer, (s.clock - e).toInt < 0 := by
  intro e running
  cases state : s.recognizer with
  | idle => simp [state, leaderTime] at running
  | command b f => simp [state, leaderTime] at running
  | tap1Down i f => exact h i e (.inl (by simpa [state, leaderTime] using running))
  | tap1Up i f => exact h i e (.inr (.inl (by simpa [state, leaderTime] using running)))
  | tap2Down i f => exact h i e (.inr (.inr (by simpa [state, leaderTime] using running)))

theorem commandTime_ahead {s : State} (h : ∀ buffer e, s.recognizer = .command buffer e → (s.clock - e).toInt < 0) :
    ∀ e ∈ commandTime s.recognizer, (s.clock - e).toInt < 0 := by
  intro e running
  cases state : s.recognizer with
  | command b f => exact h b e (by simpa [state, commandTime] using running)
  | idle => simp [state, commandTime] at running
  | tap1Down i f => simp [state, commandTime] at running
  | tap1Up i f => simp [state, commandTime] at running
  | tap2Down i f => simp [state, commandTime] at running

theorem ageing_ahead {s : State} (h : ∀ e ∈ s.keys.held, hasAged s e = false) (slot : Slot) (usage : Byte) :
    comesDue s (.ageing slot usage) = false := by
  unfold comesDue
  dsimp only
  cases found : s.keys.held.find? (isHeldAs slot usage) with
  | none => rfl
  | some e => exact h e (List.mem_of_find?_eq_some found)

theorem forall_mem_map {α β : Type} {f : α → β} {o : Option α} {P : β → Prop} (h : ∀ a ∈ o, P (f a)) :
    ∀ b ∈ o.map f, P b := by
  rintro b member
  obtain ⟨a, here, rfl⟩ := Option.mem_map.mp member
  exact h a here

/-! The entries that an action inserts (R154). -/

theorem entry_setEntry (s : State) (i : ScheduleIndex) (e : Option ScheduleEntry) (j : ScheduleIndex) :
    (s.setEntry i e).entry j = if j = i then e else s.entry j := get_set _ _ _ _

theorem entry_doShareFor {t : Nat} {cause : Cause} {s : State} {j : ScheduleIndex} {e : ScheduleEntry}
    (h : e ∈ (doShareFor t cause s).state.entry j) :
    e ∈ s.entry j ∨ e = newEntry s (t * 1000) .unshare (originFor cause) := by
  unfold doShareFor at h
  split at h
  · exact .inl h
  · split at h
    · exact .inl h
    · dsimp only at h
      rw [State.entry, changeSelection_schedule, ← State.entry, entry_setEntry] at h
      split at h
      · exact .inr (Option.some.inj h).symm
      · exact .inl h

/-- Only SHARE_FOR inserts an entry. -/
theorem entry_runAction {a : Action} {cause : Cause} {s : State} {j : ScheduleIndex} {e : ScheduleEntry}
    (h : e ∈ (runAction a cause s).state.entry j) :
    e ∈ s.entry j ∨ ∃ t, a = .shareFor t ∧ e = newEntry s (t * 1000) .unshare (originFor cause) := by
  cases a with
  | shareFor t => exact (entry_doShareFor h).imp_right fun new => ⟨t, rfl, new⟩
  | _ => exact .inl (by simpa [State.entry, runAction] using h)

/-- A share's time lies ahead: it is a second to an hour (R154). -/
theorem isDue_share {clock : Millis} {t : Nat} (low : 1 ≤ t) (high : t ≤ 3600) :
    isDue clock (clock + BitVec.ofNat 32 (t * 1000)) = false := by
  refine isDue_of_not ?_
  have back : clock - (clock + BitVec.ofNat 32 (t * 1000)) = -BitVec.ofNat 32 (t * 1000) := by bv_omega
  have size : (-BitVec.ofNat 32 (t * 1000)).toNat = 2 ^ 32 - t * 1000 := by
    rw [BitVec.toNat_neg, BitVec.toNat_ofNat]
    omega
  rw [back, BitVec.toInt_eq_toNat_cond, size]
  split <;> omega

/-! No entry is passed over. -/

/-- Every entry that is due still has its turn to come, and every share's time is in its range. -/
def DueHaveTurns (rest : List Expiry) (s : State) : Prop :=
  ∀ i, ∀ e ∈ s.entry i,
    (isDue s.clock e.due = true → .firing i ∈ rest) ∧ ∀ n, e.action = .shareFor n → 1 ≤ n ∧ n ≤ 3600

theorem DueHaveTurns.congr {rest : List Expiry} {s u : State} (h : DueHaveTurns rest s) (clock : u.clock = s.clock)
    (schedule : u.schedule = s.schedule) : DueHaveTurns rest u := by
  intro i e entry
  rw [State.entry, schedule] at entry
  rw [clock]
  exact h i e entry

theorem DueHaveTurns.shrink {x : Expiry} {rest : List Expiry} {s : State} (h : DueHaveTurns (x :: rest) s)
    (other : ∀ i, x = .firing i → ∀ e ∈ s.entry i, isDue s.clock e.due = false) : DueHaveTurns rest s := by
  intro i e entry
  obtain ⟨turn, range⟩ := h i e entry
  refine ⟨fun due => (List.mem_cons.mp (turn due)).resolve_left fun here => ?_, range⟩
  rw [other i here.symm e entry] at due
  cases due

theorem schedule_judgeFiring_entry (e : ScheduleEntry) (answer : Result) (s : State) (j : ScheduleIndex) :
    (judgeFiring e answer s).entry j = s.entry j := by
  rw [State.entry, judgeFiring_schedule]
  rfl

/-- A firing removes its entry, and what its action inserts lies ahead. -/
theorem dueHaveTurns_fireEntry {i : ScheduleIndex} {e : ScheduleEntry} {rest : List Expiry} {s : State}
    (h : DueHaveTurns (.firing i :: rest) s) (here : s.entry i = some e) : DueHaveTurns rest (fireEntry i e s) := by
  intro j f entry
  have clock : (fireEntry i e s).clock = s.clock := by simp [fireEntry]
  unfold fireEntry at entry
  dsimp only at entry
  rw [schedule_judgeFiring_entry] at entry
  rw [clock]
  rcases entry_runAction entry with stood | ⟨t, action, rfl⟩
  · rw [entry_setEntry] at stood
    split at stood
    · cases stood
    · next other =>
      obtain ⟨turn, range⟩ := h j f stood
      refine ⟨fun due => (List.mem_cons.mp (turn due)).resolve_left fun same => ?_, range⟩
      exact other (Expiry.firing.inj same)
  · obtain ⟨low, high⟩ := (h i e here).2 t action
    refine ⟨fun due => ?_, fun n other => by cases other⟩
    have ahead := isDue_share (clock := s.clock) low high
    exact absurd due (by simpa [newEntry, timeFromNow] using ahead)

theorem dueHaveTurns_takeExpiry {x : Expiry} {rest : List Expiry} {s : State} (h : DueHaveTurns (x :: rest) s) :
    DueHaveTurns rest (takeExpiry s x) := by
  cases x with
  | firing i =>
    unfold takeExpiry fireIfDue
    dsimp only
    split
    · next e here =>
      split
      · exact dueHaveTurns_fireEntry h here
      · next ahead =>
        refine h.shrink fun j same f entry => ?_
        obtain rfl := Expiry.firing.inj same
        rw [here] at entry
        obtain rfl := Option.some.inj entry
        exact Bool.eq_false_iff.mpr ahead
    · next empty =>
      refine h.shrink fun j same f entry => ?_
      obtain rfl := Expiry.firing.inj same
      rw [empty] at entry
      cases entry
  | _ => exact (h.shrink fun i e => by cases e).congr (by simp [takeExpiry]) (by simp [takeExpiry])

theorem dueHaveTurns_foldl {order : List Expiry} {s : State} (h : DueHaveTurns order s) :
    DueHaveTurns [] (order.foldl takeExpiry s) := by
  induction order generalizing s with
  | nil => exact h
  | cons x rest ih => exact ih (dueHaveTurns_takeExpiry h)

theorem firing_mem_dueNow {s : State} {i : ScheduleIndex} {e : ScheduleEntry} (here : e ∈ s.entry i)
    (due : isDue s.clock e.due = true) : .firing i ∈ dueNow s := by
  refine List.mem_filter.mpr ⟨List.mem_append_right _ (List.mem_map_of_mem (mem_eight i)), ?_⟩
  have entry : s.entry i = some e := here
  simp [comesDue, entry, isDueAt, due]

/-- Settles O5. -/
theorem tickAdvancesClock : Obligations.TickAdvancesClock := by
  unfold Obligations.TickAdvancesClock
  refine ⟨?_, ?_, ?_⟩
  · rintro s u rfl
    obtain ⟨order, perm, taken⟩ := takeDue_cases (advanceClock s)
    refine ⟨order, takeDue (advanceClock s), perm, rfl, takeDue_clock _, ?_⟩
    rw [taken, perm.length_eq]
    rfl
  · intro s u hu leader command ageing debounce wake firing
    refine congrArg Host.Outcome.next ?_
    rw [show advanceClock s = u from hu.symm]
    refine takeDue_of_none (List.filter_eq_nil_iff.mpr fun x _ => Bool.not_eq_true _ ▸ ?_)
    cases x with
    | leader => exact isDueAt_eq_false (leaderTime_ahead leader)
    | command => exact isDueAt_eq_false (commandTime_ahead command)
    | ageing slot usage => exact ageing_ahead ageing slot usage
    | debounce k => exact isDueAt_eq_false (debounce k)
    | wake k => exact isDueAt_eq_false (forall_mem_map (wake k))
    | firing i => exact isDueAt_eq_false (forall_mem_map (firing i))
  · intro s t range stepped
    obtain rfl := Host.Outcome.next.inj stepped
    obtain ⟨order, perm, taken⟩ := takeDue_cases (advanceClock s)
    have start : DueHaveTurns order
        { advanceClock s with freeUses := (advanceClock s).freeUses + (dueNow (advanceClock s)).length } :=
      fun i e here => ⟨fun due => perm.mem_iff.mpr (firing_mem_dueNow here due), range i e here⟩
    intro i e here
    rw [taken] at here ⊢
    have ahead := mt (dueHaveTurns_foldl start i e here).1 (List.not_mem_nil)
    exact Int.not_le.mp (mt (isDue_iff _ _).mpr ahead)

end Sys2Proof.Safety
end

section
/-! PROOFS. The arithmetic of the pointer: the gain (R76) and the absolute mapping (R93). -/

namespace Sys2Proof.Safety

open Sys2Proof.Machine

/-! The gain (R76). -/

/-- The scaled motion keeps within 16 times 32625. -/
theorem scaledMotion_bounds {gain : Nat} {motion residue : Int} (high : gain ≤ 255) (left : -2047 ≤ motion)
    (right : motion ≤ 2047) (low : -15 ≤ residue) (top : residue ≤ 15) :
    -522000 ≤ scaledMotion gain motion residue ∧ scaledMotion gain motion residue ≤ 522000 := by
  have size : (motion * gain).natAbs ≤ 2047 * 255 := by
    rw [Int.natAbs_mul]
    exact Nat.mul_le_mul (by omega) (by simpa using high)
  unfold scaledMotion
  omega

/-- A quotient truncated toward zero: the remainder is under 16 and has the sign of what was divided. -/
theorem tdiv_sixteen (a : Int) :
    (0 ≤ a → 0 ≤ a - 16 * a.tdiv 16 ∧ a - 16 * a.tdiv 16 ≤ 15) ∧
      (a ≤ 0 → -15 ≤ a - 16 * a.tdiv 16 ∧ a - 16 * a.tdiv 16 ≤ 0) := by
  have parts := Int.mul_tdiv_add_tmod a 16
  have below : (a.tmod 16).natAbs < 16 := by
    rw [Int.natAbs_tmod]
    exact Nat.mod_lt _ (by decide)
  constructor
  · intro sign
    have := Int.tmod_nonneg 16 sign
    omega
  · intro sign
    have := Int.tmod_nonneg 16 (show 0 ≤ -a by omega)
    rw [Int.neg_tmod] at this
    omega

/-- Settles O15. -/
theorem gainSplitsMotion : Obligations.GainSplitsMotion := by
  unfold Obligations.GainSplitsMotion
  intro gain motion residue _ high left right low top
  obtain ⟨least, most⟩ := scaledMotion_bounds high left right low top
  obtain ⟨up, down⟩ := tdiv_sixteen (scaledMotion gain motion residue)
  rw [show motion * gain + residue = scaledMotion gain motion residue from rfl]
  unfold gainResidue gainUnits
  generalize scaledMotion gain motion residue = a at *
  rcases Int.le_total 0 a with sign | sign
  · have := up sign
    omega
  · have := down sign
    omega

/-! The absolute mapping (R93, R94). -/

/-- A mapped axis lands in its window while the offset lies in the screen. -/
theorem mapAxis_bounds {w0 wsize offset size : Nat} (h : offset < size) (wide : 1 ≤ wsize) :
    w0 ≤ mapAxis w0 wsize offset size ∧ mapAxis w0 wsize offset size < w0 + wsize := by
  have fits : (2 * offset + 1) * wsize < 2 * size * wsize := Nat.mul_lt_mul_of_pos_right (by omega) wide
  exact ⟨Nat.le_add_right _ _, Nat.add_lt_add_left (Nat.div_lt_of_lt_mul fits) _⟩

/-- Settles O16. -/
theorem mappingStaysInWindow : Obligations.MappingStaysInWindow := by
  unfold Obligations.MappingStaysInWindow
  intro w box p here wide tall
  obtain ⟨-, left, right, above, under⟩ := here
  obtain ⟨xLow, xHigh⟩ := mapAxis_bounds (w0 := w.wx0) (show p.x - box.x0 < box.w by omega) wide
  obtain ⟨yLow, yHigh⟩ := mapAxis_bounds (w0 := w.wy0) (show p.y - box.y0 < box.h by omega) tall
  exact ⟨rfl, rfl, xLow, xHigh, yLow, yHigh⟩

end Sys2Proof.Safety
end

section
/-! PROOFS. What a focus change leaves (R52 to R56). -/

namespace Sys2Proof.Safety

open Sys2Proof.Machine

/-! The wake-on-focus request (R56, R125). -/

/-- Port k sleeps, is armed, and wakes on focus. -/
def WakesOnFocus (s : State) (k : Computer) : Prop :=
  (s.port k).link = .suspended ∧ (s.port k).armed = true ∧ (s.settingsOf k).wakeOnFocus = true

theorem wakeAnswer_of_suspended {p : Port} (asleep : p.link = .suspended) (armed : p.armed = true) :
    wakeAnswer p = .accepted := by
  simp [wakeAnswer, asleep, armed]

theorem wakeOnFocus_wakes {s : State} {k : Computer} (h : WakesOnFocus s k) : wakeOnFocus k s = startWake k s := by
  obtain ⟨asleep, armed, wanted⟩ := h
  unfold wakeOnFocus wakeRequest
  rw [if_pos ⟨asleep, wanted⟩, if_pos (wakeAnswer_of_suspended asleep armed)]

theorem wakeOnFocus_leaves {s : State} {k : Computer} (h : ¬ WakesOnFocus s k) : wakeOnFocus k s = s := by
  unfold wakeOnFocus wakeRequest
  split
  · next wanted =>
    refine if_neg fun accepted => ?_
    obtain ⟨asleep, armed⟩ := wakeAnswer_accepted accepted
    exact h ⟨asleep, armed, wanted.2⟩
  · rfl

theorem startWake_journal (k : Computer) (s : State) : (startWake k s).journal = (record (.wakeSent k) s).journal := rfl

theorem startWake_sent (k : Computer) (s : State) : (startWake k s).sent = s.sent ++ [.wakeSignal k] := rfl

theorem port_startWake (k : Computer) (s : State) (j : Computer) :
    (startWake k s).port j =
      if j = k then
        { s.port k with
          link := .waking
          attempt := some
            { signals := 1, retryLimit := (s.settingsOf k).retries, timeout := (s.settingsOf k).timeout
              expiry := s.clock + BitVec.ofNat 32 (1000 * (s.settingsOf k).timeout) } }
      else s.port j := by
  have sent := port_onPort k
    (fun p =>
      { p with
        link := .waking
        attempt := some
          { signals := 1, retryLimit := (s.settingsOf k).retries, timeout := (s.settingsOf k).timeout
            expiry := s.clock + BitVec.ofNat 32 (1000 * (s.settingsOf k).timeout) } })
    (s.send (.wakeSignal k)) j
  exact sent

/-! The LED notice of a refresh (R21). -/

theorem refreshLeds_sent (s : State) :
    (refreshLeds s).sent = s.sent ++ if ledValue s = s.console.ledSent then [] else [.ledNotice (ledValue s)] := by
  unfold refreshLeds
  split
  · exact (List.append_nil _).symm
  · rfl

theorem refreshLeds_console (s : State) : (refreshLeds s).console = { s.console with ledSent := ledValue s } := by
  unfold refreshLeds
  split
  · next current =>
    rw [current]
  · rfl

theorem ledValue_refreshLeds (s : State) : ledValue (refreshLeds s) = ledValue s :=
  ledValue_congr (by simp) (by simp) fun j => by simp [State.port]

/-! The steps before the record and the wake. -/

/-- Focus has passed to k, with modifiers and broadcast set adjusted. -/
def passedTo (k : Computer) (s : State) : State :=
  clearMotion (adjustBroadcast s.focusUnit.focus k (carryModifiers s.focusUnit.focus k (focused k s)))

/-- Focus has passed to k, with the pointer placed and the LED notice made. -/
def refocused (k : Computer) (cause : Cause) (s : State) : State := refreshLeds (placeForFocus cause k (passedTo k s))

section
variable (k : Computer) (cause : Cause) (s : State)

theorem focusChange_refocused :
    focusChange k cause s = wakeOnFocus k (record (.focus s.focusUnit.focus k cause) (refocused k cause s)) := rfl

theorem ledValue_refocused : ledValue (refocused k cause s) = ledValue (placeForFocus cause k (passedTo k s)) :=
  ledValue_refreshLeds _

theorem refocused_console :
    (refocused k cause s).console = { s.console with ledSent := ledValue (refocused k cause s) } := by
  rw [ledValue_refocused, refocused, refreshLeds_console, placeForFocus_console]
  simp [passedTo, focused]

theorem refocused_sent :
    (refocused k cause s).sent =
      s.sent ++
        if ledValue (refocused k cause s) = s.console.ledSent then []
        else [.ledNotice (ledValue (refocused k cause s))] := by
  rw [ledValue_refocused, refocused, refreshLeds_sent, placeForFocus_console, placeForFocus_sent]
  have stands : (passedTo k s).console = s.console ∧ (passedTo k s).sent = s.sent := by simp [passedTo, focused]
  rw [stands.1, stands.2]

/-- All that the steps before the record can change. -/
theorem refocused_frame :
    refocused k cause s =
      { s with
        sent := (refocused k cause s).sent, console := (refocused k cause s).console,
        keys := (refocused k cause s).keys, focusUnit := (refocused k cause s).focusUnit,
        pointer := (refocused k cause s).pointer, ports := (refocused k cause s).ports } := by
  apply State.eq_of_fields <;> simp [refocused, passedTo, focused]

/-- The modifier carry offers snapshots and does nothing else to a port. -/
theorem refocused_port (j : Computer) :
    (refocused k cause s).port j =
      { s.port j with
        queue := ((refocused k cause s).port j).queue, resync := ((refocused k cause s).port j).resync } := by
  have same : (refocused k cause s).port j = (carryModifiers s.focusUnit.focus k (focused k s)).port j := by
    simp [refocused, passedTo, State.port]
  rw [same]
  unfold carryModifiers
  split
  · rfl
  · split
    · rw [port_refreshSnapshots_frame]
      rfl
    · rfl

theorem refocused_pointer :
    (refocused k cause s).pointer.rx = 0 ∧ (refocused k cause s).pointer.ry = 0 ∧
      (refocused k cause s).pointer.push = none := by
  unfold refocused
  rw [refreshLeds_pointer]
  cases cause with
  | glide => exact ⟨rfl, rfl, rfl⟩
  | relocate => exact ⟨rfl, rfl, rfl⟩
  | _ =>
    unfold placeForFocus warp
    dsimp only
    split
    · exact ⟨rfl, rfl, rfl⟩
    · exact ⟨rfl, rfl, rfl⟩

theorem refocused_pointer_stands (stands : cause = .glide ∨ cause = .relocate) :
    (refocused k cause s).pointer.place = s.pointer.place ∧ (refocused k cause s).pointer.headless = false := by
  unfold refocused
  rcases stands with rfl | rfl <;> simp [placeForFocus, clearHeadless, passedTo, clearMotion, focused]

/-- A warp's place and headless mark (R50, R83). -/
theorem warp_pointer (u : State) :
    (warp k u).pointer.place = (lowestScreenOf u k).map (fun sc => centreOf sc (u.placement sc)) ∧
      (warp k u).pointer.headless = (lowestScreenOf u k).isNone := by
  unfold warp
  cases lowestScreenOf u k with
  | none => exact ⟨rfl, rfl⟩
  | some sc => exact ⟨rfl, rfl⟩

theorem refocused_pointer_warps (glide : cause ≠ .glide) (relocate : cause ≠ .relocate) :
    (refocused k cause s).pointer.place = (lowestScreenOf s k).map (fun sc => centreOf sc (s.placement sc)) ∧
      (refocused k cause s).pointer.headless = (lowestScreenOf s k).isNone := by
  have warped (u : State) : placeForFocus cause k u = warp k u := by
    cases cause
    case glide => exact absurd rfl glide
    case relocate => exact absurd rfl relocate
    all_goals rfl
  unfold refocused
  rw [refreshLeds_pointer, warped]
  have tables : (passedTo k s).tables = s.tables := by simp [passedTo, focused]
  have screens : lowestScreenOf (passedTo k s) = lowestScreenOf s :=
    lowestScreenOf_congr tables (by simp [passedTo, focused])
  have placement : (passedTo k s).placement = s.placement := by
    funext sc
    rw [State.placement, State.placement, tables]
  rw [← screens, ← placement]
  exact warp_pointer k _

end

/-! The records and the wake. -/

theorem record_journal_congr {event : JournalEvent} {t u : State} (clock : u.clock = t.clock) (journal : u.journal = t.journal) :
    (record event u).journal = (record event t).journal := by
  unfold record
  rw [clock, journal]

theorem records_record (event : JournalEvent) (s : State) :
    ∃ more, (record event s).journal.records = s.journal.records ++ more := by
  unfold record
  dsimp only
  split
  · exact ⟨_, rfl⟩
  · exact ⟨[], (List.append_nil _).symm⟩

theorem records_record_of_room {event : JournalEvent} {s : State} (room : s.journal.records.length < 32) :
    (record event s).journal.records = s.journal.records ++ [{ time := s.clock, event := event }] :=
  congrArg Journal.records (if_pos room)

/-- A record enters a journal with room, and the wake's record follows it. -/
theorem records_wakeOnFocus_record {event : JournalEvent} {k : Computer} {s : State} (room : s.journal.records.length < 32) :
    ∃ more, (wakeOnFocus k (record event s)).journal.records =
      s.journal.records ++ { time := s.clock, event := event } :: more := by
  have entered := records_record_of_room (event := event) room
  by_cases wakes : WakesOnFocus (record event s) k
  · obtain ⟨more, later⟩ := records_record (.wakeSent k) (record event s)
    rw [wakeOnFocus_wakes wakes, startWake_journal, later, entered, List.append_assoc]
    exact ⟨more, rfl⟩
  · rw [wakeOnFocus_leaves wakes]
    exact ⟨[], entered⟩

/-- What a wake-on-focus request does, by whether it is one (R56, R125). -/
theorem wakeOnFocus_effects {k : Computer} {s : State} {woken : Bool} (h : woken = true ↔ WakesOnFocus s k) :
    (wakeOnFocus k s).journal = (if woken = true then (record (.wakeSent k) s).journal else s.journal) ∧
      (wakeOnFocus k s).sent = s.sent ++ (if woken = true then [.wakeSignal k] else []) ∧
      (wakeOnFocus k s).port k =
        { s.port k with
          link := if woken = true then .waking else (s.port k).link
          attempt :=
            if woken = true then
              some
                { signals := 1, retryLimit := (s.settingsOf k).retries, timeout := (s.settingsOf k).timeout
                  expiry := s.clock + BitVec.ofNat 32 (1000 * (s.settingsOf k).timeout) }
            else (s.port k).attempt } := by
  cases woken with
  | true =>
    rw [wakeOnFocus_wakes (h.mp rfl)]
    exact ⟨rfl, rfl, (port_startWake k s k).trans (if_pos rfl)⟩
  | false =>
    rw [wakeOnFocus_leaves (mt h.mpr (by decide))]
    exact ⟨rfl, (List.append_nil _).symm, rfl⟩

theorem port_wakeOnFocus_of_ne {j k : Computer} (other : j ≠ k) (s : State) : (wakeOnFocus k s).port j = s.port j := by
  by_cases wakes : WakesOnFocus s k
  · rw [wakeOnFocus_wakes wakes, port_startWake, if_neg other]
  · rw [wakeOnFocus_leaves wakes]

theorem carryEntry_focused (s : State) (f k : Computer) (e : HeldKey) :
    carryEntry (focused k s) f k e =
      if isModifier e.usage = true ∧ inSet e.owners f = true then
        { e with
          owners :=
            if s.domainOf k = s.domainOf f ∧ s.queueable k = true then including (without e.owners f) k
            else without e.owners f }
      else e := by
  unfold carryEntry isCarried
  exact ite_congr (Bool.and_eq_true _ _) (fun _ => rfl) fun _ => rfl

/-- Settles O42. -/
theorem focusChangeEffects : Obligations.FocusChangeEffects := by
  unfold Obligations.FocusChangeEffects
  rintro k cause s t rfl
  have frame := refocused_frame k cause s
  have sent := refocused_sent k cause s
  have console := refocused_console k cause s
  have port := refocused_port k cause s
  have current : LedsCurrent (focusChange k cause s) := ledsCurrent_focusChange s k cause
  have held := carryModifiers_held s.focusUnit.focus k (focused k s)
  have pointer : (focusChange k cause s).pointer = (refocused k cause s).pointer := by simp [focusChange_refocused]
  have consoleNow : (focusChange k cause s).console = (refocused k cause s).console := by simp [focusChange_refocused]
  have notice : ledValue (focusChange k cause s) = ledValue (refocused k cause s) := by
    rw [← current, consoleNow, console]
  obtain ⟨rx, ry, push⟩ := refocused_pointer k cause s
  refine ⟨focusChange_focusUnit k cause s, fun f focus => ?_, fun focus => ?_, pointer ▸ rx, pointer ▸ ry, pointer ▸ push,
    fun stands => pointer ▸ refocused_pointer_stands k cause s stands,
    fun glide relocate => pointer ▸ refocused_pointer_warps k cause s glide relocate, current, fun room => ?_,
    fun woken hwoken => ?_, fun j other => ?_, ?_, ?_, ?_⟩
  · rw [focusChange_keys, held, focus]
    dsimp only
    by_cases carry : s.tables.modeWord.getLsbD 2 = true
    · simp only [carry, true_and]
      refine (if_pos carry).trans (List.map_congr_left fun e _ => carryEntry_focused s f k e)
    · simp only [carry, Bool.false_eq_true, false_and, if_false, List.map_id']
      exact if_neg carry
  · rw [focusChange_keys, held, focus]
    rfl
  · have journal : (refocused k cause s).journal = s.journal ∧ (refocused k cause s).clock = s.clock := by rw [frame]; exact ⟨rfl, rfl⟩
    have entered := records_wakeOnFocus_record (event := .focus s.focusUnit.focus k cause) (k := k) (s := refocused k cause s)
      (by rw [journal.1]; exact room)
    rw [journal.1, journal.2] at entered
    exact entered
  · have settings : (record (.focus s.focusUnit.focus k cause) (refocused k cause s)).settingsOf k = s.settingsOf k := by
      rw [frame]
      rfl
    have wakes : woken = true ↔ WakesOnFocus (record (.focus s.focusUnit.focus k cause) (refocused k cause s)) k := by
      rw [hwoken, WakesOnFocus, settings, record_port, port k]
    obtain ⟨journal, sentLater, woke⟩ := wakeOnFocus_effects wakes
    have recorded : (record (.focus s.focusUnit.focus k cause) (refocused k cause s)).journal =
        (record (.focus s.focusUnit.focus k cause) s).journal :=
      record_journal_congr (by rw [frame]) (by rw [frame])
    refine ⟨?_, ?_, ?_⟩
    · rw [focusChange_refocused, journal, recorded]
      refine ite_congr rfl (fun _ => record_journal_congr ?_ recorded) fun _ => rfl
      rw [record_clock, record_clock, frame]
    · rw [notice, focusChange_refocused, sentLater, record_sent, sent]
    · rw [focusChange_refocused, woke, settings, record_port, port k, record_clock, frame]
  · rw [focusChange_refocused, port_wakeOnFocus_of_ne other]
    exact port j
  · simp [focusChange_keys, focused]
  · simp [focusChange_keys, focused]
  · apply State.eq_of_fields
    case h6 => rw [consoleNow, console]
    all_goals simp [focusChange_refocused, refocused, passedTo, focused]

end Sys2Proof.Safety
end

section
/-! PROOFS. Console pointer reports where the pointer does not walk (R16 to R18, R51, R74 to R77, R96 to R98). -/

namespace Sys2Proof.Safety

open Sys2Proof.Machine

/-! The report of R18. -/

theorem restingReport_eq (s : State) (k : Computer) (wheel : Int) :
    restingReport s k wheel = quietReport s k (s.buttonsOf k) wheel := rfl

theorem quietReport_congr {s u : State} {k : Computer} (settings : u.settingsOf k = s.settingsOf k)
    (pair : (u.port k).lastPair = (s.port k).lastPair) (buttons : ButtonSet) (wheel : Int) :
    quietReport u k buttons wheel = quietReport s k buttons wheel := by
  unfold quietReport
  rw [settings, pair]

theorem port_offerOwed (k : Computer) (s : State) (j : Computer) :
    (offerOwed k s).port j = if j = k then offerTo (restingReport s k 0) (s.port k) else s.port j := port_onPort _ _ _ _

/-- The reports of R18 to the members of a list: each member's port takes its own. -/
theorem port_foldl_offerOwed (ks : ComputerSet) {l : List Computer} (distinct : l.Nodup) (s : State) (j : Computer) :
    (l.foldl (fun t k => if inSet ks k then offerOwed k t else t) s).port j =
      if j ∈ l ∧ inSet ks j = true then offerTo (restingReport s j 0) (s.port j) else s.port j := by
  induction l generalizing s with
  | nil => simp
  | cons x rest ih =>
    obtain ⟨fresh, distinctRest⟩ := List.nodup_cons.mp distinct
    rw [List.foldl_cons, ih distinctRest]
    by_cases member : inSet ks x = true
    · rw [if_pos member]
      by_cases here : j = x
      · subst here
        rw [if_neg fun h => fresh h.1, port_offerOwed, if_pos rfl, if_pos ⟨List.mem_cons_self, member⟩]
      · have port : (offerOwed x s).port j = s.port j := (port_offerOwed x s j).trans (if_neg here)
        have report : restingReport (offerOwed x s) j 0 = restingReport s j 0 := by
          rw [restingReport_eq, restingReport_eq]
          exact quietReport_congr (s := s) (u := offerOwed x s) rfl (by rw [port]) _ _
        rw [port, report]
        simp [here]
    · rw [if_neg member]
      have other : j = x → inSet ks j ≠ true := fun here => here ▸ member
      by_cases here : j = x
      · simp [here, fresh, member]
      · simp [here]

theorem port_offerOwedTo (ks : ComputerSet) (s : State) (j : Computer) :
    (offerOwedTo ks s).port j = if inSet ks j = true then offerTo (restingReport s j 0) (s.port j) else s.port j := by
  refine (port_foldl_offerOwed ks (by decide) s j).trans ?_
  simp [mem_eight]

/-! The button transitions (R16 to R18). -/

theorem ButtonsTaken.eq {before now : ButtonSet} {s : State} {owners : Vector (Option Computer) 5}
    (h : ButtonsTaken before now (glideTarget s) s owners) : buttonsAfter s before now = owners := by
  refine vector_ext fun b => ?_
  rw [h b, buttonsAfter, get_ofFn]
  exact ite_congr (by simp) (fun _ => rfl) fun _ => ite_congr (by simp) (fun _ => rfl) fun _ => rfl

theorem buttonsAfter_self (s : State) (now : ButtonSet) : buttonsAfter s now now = s.keys.buttons := by
  refine vector_ext fun b => ?_
  rw [buttonsAfter, get_ofFn]
  simp

theorem inSet_buttonsChanged (before after : Vector (Option Computer) 5) (k : Computer) :
    inSet (buttonsChanged before after) k = decide (buttonsIn before k ≠ buttonsIn after k) := inSet_setOf _ _

theorem inSet_otherOwners (s : State) (changed : ComputerSet) (k : Computer) :
    inSet (otherOwners s changed) k = true ↔ glideTarget s ≠ some k ∧ inSet changed k = true := by
  unfold otherOwners
  cases glideTarget s with
  | none => simp
  | some f =>
    dsimp only
    rw [inSet_without, Bool.and_eq_true, decide_eq_true_iff, and_comm, ne_comm, ne_eq, ne_eq, Option.some.injEq]

section
variable (before now : ButtonSet) (s : State)

/-- All that the button transitions can change. -/
theorem takeButtons_eq :
    takeButtons before now s =
      { s with
        keys := { s.keys with buttons := buttonsAfter s before now }
        ports := (takeButtons before now s).ports } := by
  apply State.eq_of_fields <;> simp [takeButtons, State.setButtons]

theorem port_takeButtons (k : Computer) :
    (takeButtons before now s).port k =
      if glideTarget s = some k ∨ buttonsIn s.keys.buttons k = buttonsIn (buttonsAfter s before now) k then s.port k
      else offerTo (quietReport s k (buttonsIn (buttonsAfter s before now) k) 0) (s.port k) := by
  unfold takeButtons
  dsimp only
  rw [port_offerOwedTo]
  by_cases target : glideTarget s = some k
  · rw [if_neg (by rw [inSet_otherOwners]; simp [target]), if_pos (.inl target)]
    rfl
  · by_cases same : buttonsIn s.keys.buttons k = buttonsIn (buttonsAfter s before now) k
    · rw [if_neg (by rw [inSet_otherOwners, inSet_buttonsChanged]; simp [same]), if_pos (.inr same)]
      rfl
    · rw [if_pos (by rw [inSet_otherOwners, inSet_buttonsChanged]; simp [same, target]),
        if_neg (not_or.mpr ⟨target, same⟩)]
      rfl

end

/-- A report that changes no button leaves the records alone. -/
theorem takeButtons_self (now : ButtonSet) (s : State) : takeButtons now now s = s := by
  have none : otherOwners s (buttonsChanged s.keys.buttons s.keys.buttons) = 0#8 := by
    refine set_ext fun k => ?_
    rw [inSet_zero, ← Bool.not_eq_true, inSet_otherOwners, inSet_buttonsChanged]
    simp
  unfold takeButtons
  rw [buttonsAfter_self]
  dsimp only
  rw [none]
  rfl

/-! A report of the POINTER slot. -/

theorem takePointerReport_pointer {slot buttons wheel : Byte} {dx dy : BitVec 12} {i : Slot} {before : ButtonSet} {s : State}
    (index : indexOf? 4 slot.toNat = some i) (device : s.slotDevice i = some (.pointer before)) :
    takePointerReport slot buttons dx dy wheel s =
      takePointing i before (readButtons buttons) (readMotion dx) (readMotion dy) (readWheel wheel) s := by
  unfold takePointerReport
  rw [index]
  dsimp only
  rw [device]

/-- The glide target whose buttons a report changes is owed its report (R98). -/
def owedBy (before now : ButtonSet) (s : State) : Option Computer :=
  owedTarget s (buttonsChanged s.keys.buttons (buttonsAfter s before now))

theorem owedBy_eq_some {before now : ButtonSet} {s : State} {k : Computer} :
    owedBy before now s = some k ↔
      glideTarget s = some k ∧ buttonsIn s.keys.buttons k ≠ buttonsIn (buttonsAfter s before now) k := by
  unfold owedBy owedTarget
  rw [Option.filter_eq_some_iff, inSet_buttonsChanged, decide_eq_true_iff]

theorem owedBy_self (now : ButtonSet) (s : State) : owedBy now now s = none := by
  refine Option.eq_none_iff_forall_ne_some.mpr fun k owed => ?_
  exact (owedBy_eq_some.mp owed).2 (by rw [buttonsAfter_self])

/-- A report whose placement step has nothing to do. -/
theorem takePointing_placed {i : Slot} {before now : ButtonSet} {dx dy wheel : Int} {s : State} (placed : placementStep s = s) :
    takePointing i before now dx dy wheel s =
      (takeMotion (owedBy before now s) (decide (now ≠ 0#5)) dx dy wheel (takeButtons before now s)).setSlot i
        (some (.pointer now)) := by
  unfold takePointing
  dsimp only
  rw [placed]
  rfl

theorem setSlot_self {s : State} {i : Slot} {d : Option Device} (h : s.slotDevice i = d) : s.setSlot i d = s := by
  subst h
  unfold State.setSlot State.slotDevice
  rw [set_get_self]

/-- A report that changes no button, of a pointer that is placed already: the motion step alone. -/
theorem takePointing_motion {i : Slot} {now : ButtonSet} {dx dy wheel : Int} {s u : State} (placed : placementStep s = s)
    (moved : takeMotion none (decide (now ≠ 0#5)) dx dy wheel s = u) (device : u.slotDevice i = some (.pointer now)) :
    takePointing i now now dx dy wheel s = u := by
  rw [takePointing_placed placed, owedBy_self, takeButtons_self, moved, setSlot_self device]

theorem placementStep_on {s : State} {p : Place} (h : s.pointer.place = some p) : placementStep s = s := by
  unfold placementStep
  rw [h]

theorem placementStep_nowhere {s : State} {f : Computer} (off : s.pointer.place = none) (focus : s.focusUnit.focus = some f)
    (screenless : lowestScreenOf s f = none) (near : s.pointer.headless = true ∨ lowestScreenNear s f = none) :
    placementStep s = s := by
  unfold placementStep
  rw [off, focus]
  dsimp only
  rw [screenless]
  dsimp only
  split
  · rfl
  · next headed =>
    rw [near.resolve_left headed]

theorem placementStep_unfocused {s : State} (focus : s.focusUnit.focus = none) : placementStep s = s := by
  unfold placementStep
  rw [focus]
  split
  · next h => cases h
  · rfl

/-! The motion step where the pointer does not walk (R75 to R77, R96, R97). -/

theorem glideTarget_eq_some {s : State} {f : Computer} :
    glideTarget s = some f ↔
      s.focusUnit.locked = false ∧ s.pointer.headless = false ∧ s.focusUnit.focus = some f := by
  unfold glideTarget
  cases s.focusUnit.locked <;> cases s.pointer.headless <;> simp

theorem glideTarget_locked {s : State} (locked : s.focusUnit.locked = true) : glideTarget s = none := by
  simp [glideTarget, locked]

/-- A hand-over made for the owed computer serves it (R98). -/
theorem serveOwed_served {h : HandOver} {owed : Option Computer} {f : Computer} {s : State}
    (target : handOverTarget h s = some f) (howed : owed = none ∨ owed = some f) : serveOwed h owed s = s := by
  unfold serveOwed
  rcases howed with rfl | rfl
  · rfl
  · exact if_pos target

section
variable {owed : Option Computer} {held : Bool} {dx dy wheel : Int} {s : State}

theorem takeMotion_discarded (target : glideTarget s = none) :
    takeMotion none held dx dy wheel s = setResidues 0 0 s := by
  have step : motionStep held dx dy wheel s = (setResidues 0 0 s, .nothing) := by
    unfold motionStep
    rw [target]
  unfold takeMotion
  rw [step]
  rfl

variable {f : Computer} (target : glideTarget s = some f) (howed : owed = none ∨ owed = some f)
include target howed

theorem takeMotion_off (off : s.pointer.place = none) :
    takeMotion owed held dx dy wheel s = handNoPosition f (decide (owed = some f)) wheel (setResidues 0 0 s) := by
  obtain ⟨-, -, focus⟩ := glideTarget_eq_some.mp target
  have step : motionStep held dx dy wheel s = (setResidues 0 0 s, .noPosition wheel) := by
    unfold motionStep
    rw [target]
    dsimp only
    rw [off]
  have taken : takeHandOver (.noPosition wheel) owed (setResidues 0 0 s) =
      handNoPosition f (decide (owed = some f)) wheel (setResidues 0 0 s) := by
    unfold takeHandOver
    rw [show (setResidues 0 0 s).focusUnit.focus = some f from focus]
  unfold takeMotion
  rw [step]
  dsimp only
  rw [taken]
  refine serveOwed_served (f := f) ?_ howed
  simp [handOverTarget, focus]

theorem takeMotion_relative {p : Place} (place : s.pointer.place = some p) (form : (s.settingsOf f).form = .relative) :
    takeMotion owed held dx dy wheel s =
      handRelative f (decide (owed = some f)) (saturate (unitsX s dx)) (saturate (unitsY s dy)) wheel (applyGain dx dy s) := by
  obtain ⟨-, -, focus⟩ := glideTarget_eq_some.mp target
  have step : motionStep held dx dy wheel s =
      (applyGain dx dy s, .relative (saturate (unitsX s dx)) (saturate (unitsY s dy)) wheel) := by
    unfold motionStep useMotion
    rw [target]
    dsimp only
    rw [place]
    dsimp only
    rw [form]
  have taken : takeHandOver (.relative (saturate (unitsX s dx)) (saturate (unitsY s dy)) wheel) owed (applyGain dx dy s) =
      handRelative f (decide (owed = some f)) (saturate (unitsX s dx)) (saturate (unitsY s dy)) wheel (applyGain dx dy s) := by
    unfold takeHandOver
    rw [show (applyGain dx dy s).focusUnit.focus = some f from focus]
  unfold takeMotion
  rw [step]
  dsimp only
  rw [taken]
  refine serveOwed_served (f := f) ?_ howed
  simp [handOverTarget, focus]

end

/-! The frame of a report (R6, R18). -/

/-- The part after the button transitions, with a new pointer record. -/
def reported (before now : ButtonSet) (q : Pointer) (s : State) : State := { takeButtons before now s with pointer := q }

section
variable {i : Slot} {before now : ButtonSet} {q : Pointer} {s t : State}

theorem pointerReportFrame_of_ports {target : Option Computer} {ports : Vector Port 8} (htarget : glideTarget s = target)
    (result : t = { reported before now q s with ports := ports }.setSlot i (some (.pointer now)))
    (others : ∀ k, target ≠ some k → ports.get k = (takeButtons before now s).port k) :
    PointerReportFrame i now (buttonsAfter s before now) target q s t := by
  refine ⟨?_, fun k other => ?_⟩
  · rw [result, reported, takeButtons_eq]
    rfl
  · have port : t.port k = (takeButtons before now s).port k := by
      rw [result]
      exact others k other
    rw [port, port_takeButtons, htarget]
    simp only [other, false_or]

theorem pointerReportFrame_untargeted (target : glideTarget s = none)
    (result : t = (reported before now q s).setSlot i (some (.pointer now))) :
    PointerReportFrame i now (buttonsAfter s before now) none q s t :=
  pointerReportFrame_of_ports target result fun _ _ => rfl

theorem port_takeButtons_target {f : Computer} (target : glideTarget s = some f) :
    (takeButtons before now s).port f = s.port f := by
  rw [port_takeButtons, if_pos (.inl target)]

/-- The report for the glide target, if one is due, changes its port alone. -/
theorem pointerReportFrame_targeted {f : Computer} {r : Report} {due : Prop} [Decidable due] (target : glideTarget s = some f)
    (result : t =
      (if due then offer f r (reported before now q s) else reported before now q s).setSlot i (some (.pointer now))) :
    PointerReportFrame i now (buttonsAfter s before now) (some f) q s t ∧
      t.port f = if due then offerTo r (s.port f) else s.port f := by
  have quiet : (reported before now q s).port f = s.port f := port_takeButtons_target target
  by_cases yes : due
  · rw [if_pos yes] at result ⊢
    refine ⟨pointerReportFrame_of_ports target result fun k other => ?_, ?_⟩
    · have elsewhere := port_onPort f (offerTo r) (reported before now q s) k
      exact elsewhere.trans (if_neg fun here => other (congrArg some here.symm))
    · rw [result, ← quiet]
      exact port_onPort_self _ _ _
  · rw [if_neg yes] at result ⊢
    refine ⟨pointerReportFrame_of_ports target result fun _ _ => rfl, ?_⟩
    rw [result]
    exact quiet

end

/-! The hand-overs, read at the report's state. -/

theorem saturate_eq_zero {x : Int} : saturate x = 0 ↔ x = 0 := by
  unfold saturate
  omega

theorem decide_owed {before now : ButtonSet} {s : State} {f : Computer} (target : glideTarget s = some f) :
    (decide (owedBy before now s = some f) = true) ↔
      buttonsIn s.keys.buttons f ≠ buttonsIn (buttonsAfter s before now) f := by
  rw [decide_eq_true_iff, owedBy_eq_some]
  exact and_iff_right target

theorem owedBy_of_target {before now : ButtonSet} {s : State} {f : Computer} (target : glideTarget s = some f) :
    owedBy before now s = none ∨ owedBy before now s = some f := by
  cases owed : owedBy before now s with
  | none => exact .inl rfl
  | some g =>
    obtain ⟨here, -⟩ := owedBy_eq_some.mp owed
    exact .inr (here.symm.trans target)

section
variable (before now : ButtonSet) (s : State)

theorem glideTarget_takeButtons : glideTarget (takeButtons before now s) = glideTarget s := by
  simp [glideTarget]

theorem setResidues_takeButtons (rx ry : Int) :
    setResidues rx ry (takeButtons before now s) = reported before now { s.pointer with rx := rx, ry := ry } s := by
  rw [setResidues, takeButtons_pointer]
  rfl

theorem applyGain_takeButtons (dx dy : Int) :
    applyGain dx dy (takeButtons before now s) =
      reported before now
        { s.pointer with
          rx := gainResidue s.tables.modeSettings.gain dx s.pointer.rx
          ry := gainResidue s.tables.modeSettings.gain dy s.pointer.ry } s := by
  rw [applyGain, setResidues_takeButtons, takeButtons_tables, takeButtons_pointer]

end

/-- A relative report is due when there is motion, the wheel, or a button change (R97). -/
theorem relative_due {ux uy wheel : Int} {changed : Bool} {same : Prop} (h : changed = true ↔ ¬ same) :
    (saturate ux ≠ 0 ∨ saturate uy ≠ 0 ∨ wheel ≠ 0 ∨ changed = true) ↔ ¬ (ux = 0 ∧ uy = 0 ∧ wheel = 0 ∧ same) := by
  rw [ne_eq, ne_eq, saturate_eq_zero, saturate_eq_zero, h]
  tauto

theorem resting_due {wheel : Int} {changed : Bool} {same : Prop} (h : changed = true ↔ ¬ same) :
    (wheel ≠ 0 ∨ changed = true) ↔ ¬ (wheel = 0 ∧ same) := by
  rw [h]
  tauto

theorem takePointing_of_placementStep {i : Slot} {before now : ButtonSet} {dx dy wheel : Int} {s u : State}
    (step : placementStep s = u) (placed : placementStep u = u) :
    takePointing i before now dx dy wheel s = takePointing i before now dx dy wheel u := by
  unfold takePointing
  rw [step, placed]

section
variable (before now : ButtonSet) (q : Pointer) (s : State) (f : Computer)

theorem settingsOf_takeButtons : (takeButtons before now s).settingsOf f = s.settingsOf f := by
  rw [State.settingsOf, takeButtons_tables]
  rfl

theorem settingsOf_reported : (reported before now q s).settingsOf f = s.settingsOf f := settingsOf_takeButtons before now s f

theorem buttonsOf_reported : (reported before now q s).buttonsOf f = buttonsIn (buttonsAfter s before now) f := by
  rw [State.buttonsOf, reported, takeButtons_eq]

end

/-! The three ways of a report where the pointer does not walk. -/

section
variable {i : Slot} {before now : ButtonSet} {dx dy wheel : Int} {s : State} (placed : placementStep s = s)
include placed

/-- No glide target: motion and wheel are discarded (R75). -/
theorem takePointing_untargeted (target : glideTarget s = none) :
    PointerReportFrame i now (buttonsAfter s before now) none { s.pointer with rx := 0, ry := 0 } s
      (takePointing i before now dx dy wheel s) := by
  have unowed : owedBy before now s = none :=
    Option.eq_none_iff_forall_ne_some.mpr fun k owed => by
      obtain ⟨here, -⟩ := owedBy_eq_some.mp owed
      rw [target] at here
      cases here
  refine pointerReportFrame_untargeted target ?_
  rw [takePointing_placed placed, unowed, takeMotion_discarded ((glideTarget_takeButtons before now s).trans target),
    setResidues_takeButtons]

variable {f : Computer} (target : glideTarget s = some f)
include target

/-- The pointer is OFF: the wheel or a button change gives one report with no new position (R96). -/
theorem takePointing_off (off : s.pointer.place = none) :
    PointerReportFrame i now (buttonsAfter s before now) (some f) { s.pointer with rx := 0, ry := 0 } s
        (takePointing i before now dx dy wheel s) ∧
      (takePointing i before now dx dy wheel s).port f =
        if wheel = 0 ∧ buttonsIn s.keys.buttons f = buttonsIn (buttonsAfter s before now) f then s.port f
        else offerTo (quietReport s f (buttonsIn (buttonsAfter s before now) f) wheel) (s.port f) := by
  have handed := takeMotion_off (held := decide (now ≠ 0#5)) (dx := dx) (dy := dy) (wheel := wheel)
    ((glideTarget_takeButtons before now s).trans target) (owedBy_of_target (before := before) (now := now) target)
    (by rw [takeButtons_pointer, off])
  rw [setResidues_takeButtons, handNoPosition] at handed
  have report : restingReport (reported before now { s.pointer with rx := 0, ry := 0 } s) f wheel =
      quietReport s f (buttonsIn (buttonsAfter s before now) f) wheel := by
    rw [restingReport_eq, buttonsOf_reported]
    refine quietReport_congr (settingsOf_reported before now _ s f) ?_ _ _
    exact congrArg Port.lastPair (port_takeButtons_target target)
  rw [report] at handed
  rw [takePointing_placed placed]
  obtain ⟨frame, port⟩ := pointerReportFrame_targeted target
    (congrArg (fun u => u.setSlot i (some (.pointer now))) handed)
  refine ⟨frame, port.trans ?_⟩
  rw [← ite_not]
  exact if_congr (not_iff_comm.mp (resting_due (decide_owed target)).symm) rfl rfl

/-- A RELATIVE focus: one relative report (R77, R97). -/
theorem takePointing_relative {p : Place} (place : s.pointer.place = some p) (form : (s.settingsOf f).form = .relative)
    {ux uy : Int} (hx : ux = unitsX s dx) (hy : uy = unitsY s dy) :
    PointerReportFrame i now (buttonsAfter s before now) (some f) (applyGain dx dy s).pointer s
        (takePointing i before now dx dy wheel s) ∧
      (takePointing i before now dx dy wheel s).port f =
        if ux = 0 ∧ uy = 0 ∧ wheel = 0 ∧ buttonsIn s.keys.buttons f = buttonsIn (buttonsAfter s before now) f then s.port f
        else
          offerTo (.relative (saturate ux) (saturate uy) (buttonsIn (buttonsAfter s before now) f) wheel) (s.port f) := by
  have handed := takeMotion_relative (held := decide (now ≠ 0#5)) (dx := dx) (dy := dy) (wheel := wheel)
    ((glideTarget_takeButtons before now s).trans target) (owedBy_of_target (before := before) (now := now) target)
    ((congrArg Pointer.place (takeButtons_pointer before now s)).trans place)
    ((congrArg PortSettings.form (settingsOf_takeButtons before now s f)).trans form)
  have units : unitsX (takeButtons before now s) dx = ux ∧ unitsY (takeButtons before now s) dy = uy := by
    rw [hx, hy, unitsX, unitsY, takeButtons_pointer, takeButtons_tables]
    exact ⟨rfl, rfl⟩
  rw [applyGain_takeButtons, units.1, units.2, handRelative, buttonsOf_reported] at handed
  rw [takePointing_placed placed]
  obtain ⟨frame, port⟩ := pointerReportFrame_targeted target
    (congrArg (fun u => u.setSlot i (some (.pointer now))) handed)
  refine ⟨frame, port.trans ?_⟩
  rw [← ite_not]
  exact if_congr (not_iff_comm.mp (relative_due (decide_owed target)).symm) rfl rfl

end

/-- Settles O17. -/
theorem pointerReportWithoutWalk : Obligations.PointerReportWithoutWalk := by
  unfold Obligations.PointerReportWithoutWalk
  intro slot i buttons wheel dx dy s index
  have run {before : ButtonSet} {u : State} (device : u.slotDevice i = some (.pointer before)) :
      exec (.consolePointerReport slot buttons dx dy wheel) u =
        .next (takePointing i before (readButtons buttons) (readMotion dx) (readMotion dy) (readWheel wheel) u) :=
    congrArg Host.Outcome.next (takePointerReport_pointer index device)
  refine ⟨fun p device place => ⟨?_, fun locked => ?_⟩, ?_, fun before f device off focus => ⟨fun sc screen => ?_, ?_⟩⟩
  · rintro f locked headed focus form ux uy rfl rfl t rfl
    have target := glideTarget_eq_some.mpr ⟨locked, headed, focus⟩
    rw [run device]
    refine congrArg Host.Outcome.next (takePointing_motion (placementStep_on place) ?_ ?_)
    · rw [takeMotion_relative target (.inl rfl) place form, handRelative, ← ite_not]
      refine if_congr ?_ rfl rfl
      rw [relative_due (same := True) (by simp)]
      simp [unitsX, unitsY]
    · split
      · exact device
      · exact device
  · rw [run device]
    refine congrArg Host.Outcome.next (takePointing_motion (placementStep_on place) ?_ device)
    exact takeMotion_discarded (glideTarget_locked locked)
  · rintro before owners target device htarget taken nowhere
    have here : glideTarget s = target := by
      rw [htarget]
      unfold glideTarget
      exact if_congr (by simp) rfl rfl
    obtain rfl := (here ▸ taken).eq
    have placed : placementStep s = s := by
      cases place : s.pointer.place with
      | some p => exact placementStep_on place
      | none =>
        cases focus : s.focusUnit.focus with
        | none => exact placementStep_unfocused focus
        | some f =>
          obtain ⟨screenless, near⟩ := nowhere place f focus
          exact placementStep_nowhere place focus screenless near
    rw [run device]
    refine ⟨fun none => ⟨_, rfl, takePointing_untargeted placed (here.trans none)⟩, fun f some off => ⟨_, rfl, ?_⟩, ?_⟩
    · exact takePointing_off placed (here.trans some) off
    · rintro f p some place form ux uy hx hy
      exact ⟨_, rfl, takePointing_relative placed (here.trans some) place form hx hy⟩
  · have step : placementStep s =
        { s with
          pointer := { place := some (centreOf sc (s.placement sc)), rx := 0, ry := 0, headless := false, push := none } } := by
      unfold placementStep
      rw [off, focus]
      dsimp only
      rw [screen]
      rfl
    rw [run device, takePointing_of_placementStep step (placementStep_on rfl)]
    exact (run (u := { s with pointer := { place := _, rx := 0, ry := 0, headless := false, push := none } }) device).symm
  · intro sc c screenless headed near owner
    have step : placementStep s = focusChange c .relocate (centred sc s) := by
      unfold placementStep
      rw [off, focus]
      dsimp only
      rw [screenless, headed]
      dsimp only
      rw [if_neg (by decide), near]
      dsimp only
      rw [relocateTo, owner]
      rfl
    have place : (focusChange c .relocate (centred sc s)).pointer.place = some (centreOf sc (s.placement sc)) := by
      rw [focusChange_refocused, wakeOnFocus_pointer, record_pointer]
      exact (refocused_pointer_stands c .relocate (centred sc s) (.inr rfl)).1
    have slot : (focusChange c .relocate (centred sc s)).slotDevice i = some (.pointer before) := by
      rw [State.slotDevice, focusChange_slots]
      exact device
    rw [run device, run slot, takePointing_of_placementStep step (placementStep_on place)]

end Sys2Proof.Safety
end

section
/-! PROOFS. Console pointer reports for an ABSOLUTE focus: the walk, the push and the crossing (R76 to R82, R93, R95). -/

namespace Sys2Proof.Safety

open Sys2Proof.Machine

/-! A position handed over (R93, R95). -/

theorem handPosition_handedOn {u : State} {p : Place} (place : u.pointer.place = some p) (k : Computer) (wheel : Int) :
    handPosition k false wheel u = handedOn k wheel p u := by
  unfold handPosition handedOn mappedPair
  rw [place]
  dsimp only
  cases intendedOf (u.screen p.screen) with
  | none => rfl
  | some j => exact if_congr (by simp) rfl rfl

theorem handPosition_placed {u : State} {p : Place} {j : Input} (place : u.pointer.place = some p)
    (source : intendedOf (u.screen p.screen) = some j) (k : Computer) (changed : Bool) (wheel : Int) {pair : Nat × Nat}
    (hpair : pair = mapPair (u.window j) (u.placement p.screen) p) :
    handPosition k changed wheel u =
      if u.queueable k = true ∧ ((u.port k).lastPair ≠ some pair ∨ wheel ≠ 0 ∨ changed = true) then
        offer k (.absolute pair.1 pair.2 (u.buttonsOf k) wheel) u
      else u := by
  subst hpair
  unfold handPosition mappedPair
  rw [place]
  dsimp only
  rw [source]

section
variable {owed : Option Computer} {held : Bool} {dx dy wheel : Int} {s : State} {f g : Computer} {p : Place} {done : WalkEnd}
  (target : glideTarget s = some f) (place : s.pointer.place = some p) (form : (s.settingsOf f).form = .absolute)
  (walked : walkBoth held (unitsX s dx) (unitsY s dy) (applyGain dx dy s) = done)
  (focus : done.state.focusUnit.focus = some g)
include target place form walked focus

theorem takeMotion_absolute (walks : done.ontoRelative = false) (howed : owed = none ∨ owed = some g) :
    takeMotion owed held dx dy wheel s = handPosition g (decide (owed = some g)) wheel done.state := by
  have step : motionStep held dx dy wheel s = (done.state, .position wheel) := by
    unfold motionStep useMotion
    rw [target]
    dsimp only
    rw [place]
    dsimp only
    rw [form]
    dsimp only
    rw [walked, walks]
    rfl
  have taken : takeHandOver (.position wheel) owed done.state = handPosition g (decide (owed = some g)) wheel done.state := by
    unfold takeHandOver
    rw [focus]
  unfold takeMotion
  rw [step]
  dsimp only
  rw [taken]
  refine serveOwed_served (f := g) ?_ howed
  simp [handOverTarget, focus]

theorem takeMotion_ontoRelative (crossed : done.ontoRelative = true) :
    takeMotion none held dx dy wheel s = handRelative g false 0 0 wheel done.state := by
  have step : motionStep held dx dy wheel s = (done.state, .relative 0 0 wheel) := by
    unfold motionStep useMotion
    rw [target]
    dsimp only
    rw [place]
    dsimp only
    rw [form]
    dsimp only
    rw [walked, crossed]
    rfl
  have taken : takeHandOver (.relative 0 0 wheel) none done.state = handRelative g false 0 0 wheel done.state := by
    unfold takeHandOver
    rw [focus]
    rfl
  unfold takeMotion
  rw [step]
  dsimp only
  rw [taken]
  rfl

end

/-! The walk inside the pointer's screen (R78). -/

theorem moveTo_coordinate (a : Axis) (p : Place) : moveTo a (coordinate a p) p = p := by
  cases a <;> rfl

theorem setPlace_self {s : State} {p : Place} (place : s.pointer.place = some p) : setPlace p s.pointer.push s = s := by
  unfold setPlace
  rw [← place]

theorem walkAxis_zero (held : Bool) (a : Axis) (s : State) :
    walkAxis held a 0 s = { state := s, ontoRelative := false } := by
  unfold walkAxis
  cases s.pointer.place with
  | none => rfl
  | some p => exact if_pos rfl

/-- The push record after a walk of some units within the screen (R78). -/
def pushAfter (a : Axis) (units : Int) (push : Option Push) : Option Push := if units = 0 then push else clearPushOn a push

theorem walkAxis_inside {held : Bool} {a : Axis} {units : Int} {s : State} {p : Place} (place : s.pointer.place = some p)
    (low : spanLow a (s.placement p.screen) ≤ coordinate a p + units)
    (high : coordinate a p + units ≤ spanHigh a (s.placement p.screen)) :
    walkAxis held a units s =
      { state := setPlace (moveTo a (coordinate a p + units) p) (pushAfter a units s.pointer.push) s
        ontoRelative := false } := by
  by_cases still : units = 0
  · subst still
    rw [walkAxis_zero, Int.add_zero, moveTo_coordinate, pushAfter, if_pos rfl, setPlace_self place]
  · unfold walkAxis
    rw [place]
    dsimp only
    rw [if_neg still, walk, place]
    dsimp only
    rw [if_pos ⟨low, high⟩, pushAfter, if_neg still]

theorem pushAfter_eq_filter (a : Axis) (units : Int) (push : Option Push) :
    pushAfter a units push = push.filter (fun q => decide (units = 0) || decide (q.direction.axis ≠ a)) := by
  unfold pushAfter clearPushOn
  split
  · next still =>
    cases push with
    | none => rfl
    | some q => exact (if_pos (by simp [still])).symm
  · next moves => simp [moves]

theorem pushAfter_both (ux uy : Int) (push : Option Push) :
    pushAfter .y uy (pushAfter .x ux push) =
      push.filter
        (fun q => (decide (ux = 0) || decide (q.direction.axis ≠ .x)) && (decide (uy = 0) || decide (q.direction.axis ≠ .y))) := by
  rw [pushAfter_eq_filter, pushAfter_eq_filter, Option.filter_filter]

theorem walkBoth_inside {held : Bool} {ux uy : Int} {s : State} {p : Place} (place : s.pointer.place = some p)
    (left : spanLow .x (s.placement p.screen) ≤ p.x + ux) (right : p.x + ux ≤ spanHigh .x (s.placement p.screen))
    (top : spanLow .y (s.placement p.screen) ≤ p.y + uy) (bottom : p.y + uy ≤ spanHigh .y (s.placement p.screen)) :
    walkBoth held ux uy s =
      { state :=
          setPlace { p with x := (p.x + ux).toNat, y := (p.y + uy).toNat }
            (pushAfter .y uy (pushAfter .x ux s.pointer.push)) s
        ontoRelative := false } := by
  unfold walkBoth
  rw [walkAxis_inside (a := .x) place left right]
  dsimp only
  rw [if_neg (by decide)]
  exact walkAxis_inside (a := .y)
    (s := setPlace (moveTo .x (p.x + ux) p) (pushAfter .x ux s.pointer.push) s)
    (p := moveTo .x (p.x + ux) p) rfl top bottom

/-! The walk beyond the pointer's screen (R79 to R81). -/

section
variable {a : Axis} {toHigh : Bool} {target edge : Int} {box : Placement} {p : Place}

/-- The target lies beyond the screen's edge on the axis, toward the higher or the lower end. -/
def Beyond (a : Axis) (toHigh : Bool) (target edge : Int) (box : Placement) : Prop :=
  if toHigh = true then spanHigh a box < target ∧ edge = spanHigh a box else target < spanLow a box ∧ edge = spanLow a box

variable (beyond : Beyond a toHigh target edge box) (low : spanLow a box ≤ coordinate a p) (high : coordinate a p ≤ spanHigh a box)
include beyond

theorem Beyond.outside : ¬ (spanLow a box ≤ target ∧ target ≤ spanHigh a box) := by
  unfold Beyond at beyond
  split at beyond <;> omega

theorem Beyond.edge_eq : edge = edgeOf a toHigh box := by
  unfold Beyond at beyond
  unfold edgeOf
  cases toHigh with
  | true => exact beyond.2
  | false => exact beyond.2

include low high

theorem Beyond.toHigh_eq : toHigh = decide (spanHigh a box < target) := by
  unfold Beyond at beyond
  cases toHigh with
  | true => exact (decide_eq_true beyond.1).symm
  | false =>
    have below : target < spanLow a box := beyond.1
    exact (decide_eq_false (by omega)).symm

theorem Beyond.moves : target - coordinate a p ≠ 0 := by
  unfold Beyond at beyond
  split at beyond <;> omega

end

section
variable {held : Bool} {a : Axis} {toHigh : Bool} {target edge : Int} {visits : Nat} {s : State} {p : Place}
  (place : s.pointer.place = some p) (out : Beyond a toHigh target edge (s.placement p.screen))
  (low : spanLow a (s.placement p.screen) ≤ coordinate a p) (high : coordinate a p ≤ spanHigh a (s.placement p.screen))
include place out low high

/-- No neighbour, or none that can be entered: the pointer stops at the edge (R79). -/
theorem walk_stops (wall : ∀ n, neighbourAt s a (beyond toHigh edge) p = some n → enterable s n = false) :
    walk held a target (visits + 1) s =
      { state := setPlace (moveTo a edge p) (clearPushOn a s.pointer.push) s, ontoRelative := false } := by
  rw [walk, place]
  dsimp only
  rw [if_neg out.outside, ← out.toHigh_eq low high, ← out.edge_eq]
  split
  · rfl
  · next n found => rw [if_pos (by simp [wall n found])]

variable {n : Screen} (found : neighbourAt s a (beyond toHigh edge) p = some n) (enters : enterable s n = true)
include found enters

/-- A neighbour of the same computer is entered (R79). -/
theorem walk_enters (same : screenComputer s n = screenComputer s p.screen) :
    walk held a target (visits + 1) s =
      walk held a target visits (setPlace { moveTo a (beyond toHigh edge) p with screen := n } s.pointer.push s) := by
  rw [walk, place]
  dsimp only
  rw [if_neg out.outside, ← out.toHigh_eq low high, ← out.edge_eq, found]
  dsimp only
  rw [if_neg (by simp [enters]), if_pos same]

/-- A neighbour of another computer is pushed against (R80, R81). -/
theorem walk_pushes {c : Computer} (owner : screenComputer s n = some c) (other : screenComputer s p.screen ≠ some c) :
    walk held a target (visits + 1) s =
      pushAgainst held a toHigh (target - edge).natAbs n c (moveTo a edge p)
        { moveTo a (beyond toHigh edge) p with screen := n } s := by
  rw [walk, place]
  dsimp only
  rw [if_neg out.outside, ← out.toHigh_eq low high, ← out.edge_eq, found]
  dsimp only
  rw [if_neg (by simp [enters]), if_neg (fun same => other (same.symm.trans owner)), owner]

end

/-- Units on one axis alone: the report's walk is that axis's. -/
theorem walkBoth_one_axis {held : Bool} {a : Axis} {v : Int} {s : State} {p : Place} (place : s.pointer.place = some p)
    (moves : v ≠ 0) :
    walkBoth held (if a = .x then v else 0) (if a = .x then 0 else v) s = walk held a (coordinate a p + v) 8 s := by
  have axis : walkAxis held a v s = walk held a (coordinate a p + v) 8 s := by
    unfold walkAxis
    rw [place]
    exact if_neg moves
  unfold walkBoth
  cases a with
  | x =>
    rw [if_pos rfl, if_pos rfl, axis]
    dsimp only
    split
    · rfl
    · next onward =>
      rw [walkAxis_zero, ← Bool.eq_false_iff.mpr onward]
  | y =>
    have other : ¬ Axis.y = Axis.x := by decide
    rw [if_neg other, if_neg other, walkAxis_zero]
    exact axis

/-! The push (R80, R81). -/

theorem crossingBlocked_iff {s : State} {f : Computer} (focus : s.focusUnit.focus = some f) (now : ButtonSet) (c : Computer) :
    crossingBlocked s (decide (now ≠ 0#5)) c = true ↔
      s.tables.modeWord.getLsbD 0 = false ∨ s.tables.modeWord.getLsbD 1 = true ∨ now ≠ 0#5 ∨
        (s.domainOf f ≠ s.domainOf c ∧
          s.settings.crossing.getLsbD (4 * (s.domainOf f).val + (s.domainOf c).val) = false) := by
  unfold crossingBlocked
  rw [focus]
  simp [glideSet, focusHoldSet, crossingAllowed, or_assoc]

theorem pushAmount_eq (push : Option Push) (n : Screen) (d : Direction) (m : Nat) :
    pushAmount push n d m =
      min 1023
        ((match push with
          | some q => if q.neighbour = n ∧ q.direction = d then q.amount else 0
          | none => 0) + m) := by
  unfold pushAmount
  cases push with
  | none => exact congrArg (min 1023) (Nat.zero_add m).symm
  | some q =>
    dsimp only
    split
    · rfl
    · exact congrArg (min 1023) (Nat.zero_add m).symm

/-! A focus change clears the pointer's motion, whatever it was (R52, R73). -/

theorem refreshSnapshot_withPointer (k : Computer) (q : Pointer) (s : State) :
    refreshSnapshot k { s with pointer := q } = { refreshSnapshot k s with pointer := q } := by
  unfold refreshSnapshot
  by_cases same : s.snapshot k = s.keys.snapshots.get k
  · rw [if_pos same]
    exact if_pos same
  · rw [if_neg same]
    exact if_neg same

theorem refreshSnapshots_withPointer (ks : ComputerSet) (q : Pointer) (s : State) :
    refreshSnapshots ks { s with pointer := q } = { refreshSnapshots ks s with pointer := q } := by
  unfold refreshSnapshots
  induction eight generalizing s with
  | nil => rfl
  | cons k rest ih =>
    rw [List.foldl_cons, List.foldl_cons]
    split
    · rw [refreshSnapshot_withPointer, ih]
    · rw [ih]

theorem carryModifiers_withPointer (previous : Option Computer) (k : Computer) (q : Pointer) (s : State) :
    carryModifiers previous k { s with pointer := q } = { carryModifiers previous k s with pointer := q } := by
  cases previous with
  | none => rfl
  | some f =>
    unfold carryModifiers
    dsimp only
    by_cases carries : carrySet s = true ∧ s.keys.held.any (isCarried f) = true
    · rw [if_pos carries]
      refine (if_pos carries).trans ?_
      exact refreshSnapshots_withPointer _ q (s.setHeld (s.keys.held.map (carryEntry s f k)))
    · rw [if_neg carries]
      exact if_neg carries

theorem passedTo_withPointer (k : Computer) (q : Pointer) (s : State) :
    passedTo k { s with pointer := q } = { passedTo k s with pointer := { q with rx := 0, ry := 0, push := none } } := by
  have carried := carryModifiers_withPointer s.focusUnit.focus k q (focused k s)
  unfold passedTo
  rw [show carryModifiers ({ s with pointer := q } : State).focusUnit.focus k (focused k { s with pointer := q }) =
    { carryModifiers s.focusUnit.focus k (focused k s) with pointer := q } from carried]
  rfl

/-- The residues and the push record before a focus change do not matter. -/
theorem focusChange_withPointer {k : Computer} {cause : Cause} {q r : Pointer} {s : State} (place : q.place = r.place)
    (headless : q.headless = r.headless) :
    focusChange k cause { s with pointer := q } = focusChange k cause { s with pointer := r } := by
  have same : passedTo k { s with pointer := q } = passedTo k { s with pointer := r } := by
    rw [passedTo_withPointer k q, passedTo_withPointer k r, place, headless]
  rw [focusChange_refocused, focusChange_refocused, refocused, refocused, same]

/-! The three outcomes of a push (R80, R81). -/

section
variable {held : Bool} {a : Axis} {toHigh : Bool} {m : Nat} {n : Screen} {c : Computer} {p entry : Place} {s : State}

theorem pushAgainst_blocked (blocked : crossingBlocked s held c = true) :
    pushAgainst held a toHigh m n c p entry s =
      { state := setPlace p (clearPushOn a s.pointer.push) s, ontoRelative := false } := if_pos blocked

variable (enters : crossingBlocked s held c ≠ true) {amount : Nat}
  (hamount : amount = pushAmount s.pointer.push n (directionOf a toHigh) m)
include enters hamount

theorem pushAgainst_pushes (short : amount < s.tables.modeSettings.edgeResistance) :
    pushAgainst held a toHigh m n c p entry s =
      { state := setPlace p (some { neighbour := n, direction := directionOf a toHigh, amount := amount }) s
        ontoRelative := false } := by
  subst hamount
  exact (if_neg enters).trans (if_pos short)

theorem pushAgainst_crosses (enough : s.tables.modeSettings.edgeResistance ≤ amount) :
    pushAgainst held a toHigh m n c p entry s = crossTo entry c s := by
  subst hamount
  exact (if_neg enters).trans (if_neg (Nat.not_lt.mpr enough))

end

theorem slotDevice_handedOn (k : Computer) (wheel : Int) (p : Place) (t : State) (i : Slot) :
    (handedOn k wheel p t).slotDevice i = t.slotDevice i := by
  unfold handedOn
  split
  · rfl
  · dsimp only
    split
    · rfl
    · rfl

/-- A report of the pointer inside its screen, its state before the hand-over (R78). -/
theorem takeMotion_inside {owed : Option Computer} {held : Bool} {dx dy wheel : Int} {s : State} {f : Computer} {p : Place}
    {j : Input} (target : glideTarget s = some f) (place : s.pointer.place = some p) (form : (s.settingsOf f).form = .absolute)
    (source : intendedOf (s.screen p.screen) = some j) {ux uy : Int} (hx : ux = unitsX s dx) (hy : uy = unitsY s dy)
    (left : (s.placement p.screen).x0 ≤ p.x + ux) (right : p.x + ux ≤ (s.placement p.screen).x0 + (s.placement p.screen).w - 1)
    (top : (s.placement p.screen).y0 ≤ p.y + uy) (bottom : p.y + uy ≤ (s.placement p.screen).y0 + (s.placement p.screen).h - 1)
    (howed : owed = none ∨ owed = some f) {moved : Place} (hmoved : moved = { p with x := (p.x + ux).toNat, y := (p.y + uy).toNat })
    {t : State} (ht : t = setPlace moved (pushAfter .y uy (pushAfter .x ux s.pointer.push)) (applyGain dx dy s))
    {pair : Nat × Nat} (hpair : pair = mapPair (s.window j) (s.placement p.screen) moved) :
    takeMotion owed held dx dy wheel s =
      if s.queueable f = true ∧ ((s.port f).lastPair ≠ some pair ∨ wheel ≠ 0 ∨ decide (owed = some f) = true) then
        offer f (.absolute pair.1 pair.2 (s.buttonsOf f) wheel) t
      else t := by
  obtain ⟨-, -, focus⟩ := glideTarget_eq_some.mp target
  have walked : walkBoth held (unitsX s dx) (unitsY s dy) (applyGain dx dy s) = { state := t, ontoRelative := false } := by
    subst hx hy hmoved ht
    exact walkBoth_inside (s := applyGain dx dy s) (p := p) place left right top bottom
  have stands : t.pointer.place = some moved ∧ t.focusUnit = s.focusUnit := by
    subst ht
    exact ⟨rfl, rfl⟩
  rw [takeMotion_absolute (done := { state := t, ontoRelative := false }) target place form walked
    ((congrArg FocusUnit.focus stands.2).trans focus) rfl howed]
  subst hmoved hpair ht
  exact handPosition_placed stands.1 source f _ wheel rfl

theorem walk_inside {held : Bool} {a : Axis} {target : Int} {visits : Nat} {s : State} {p : Place}
    (place : s.pointer.place = some p) (low : spanLow a (s.placement p.screen) ≤ target)
    (high : target ≤ spanHigh a (s.placement p.screen)) :
    walk held a target (visits + 1) s =
      { state := setPlace (moveTo a target p) (clearPushOn a s.pointer.push) s, ontoRelative := false } := by
  rw [walk, place]
  dsimp only
  rw [if_pos ⟨low, high⟩]

theorem moveTo_onto (a : Axis) (v w : Int) (n : Screen) (p : Place) :
    moveTo a v { moveTo a w p with screen := n } = { moveTo a v p with screen := n } := by
  cases a <;> rfl

section
variable {i : Slot} {now : ButtonSet} {dx dy wheel : Int} {s t : State} {f g : Computer} {p q : Place}
  (target : glideTarget s = some f) (place : s.pointer.place = some p) (form : (s.settingsOf f).form = .absolute)
  (focus : t.focusUnit.focus = some g) (device : t.slotDevice i = some (.pointer now))
include target place form focus device

/-- A report whose walk ends on a screen of an ABSOLUTE computer hands that place on (R82). -/
theorem takePointing_walked
    (walked : walkBoth (decide (now ≠ 0#5)) (unitsX s dx) (unitsY s dy) (applyGain dx dy s) =
      { state := t, ontoRelative := false })
    (here : t.pointer.place = some q) : takePointing i now now dx dy wheel s = handedOn g wheel q t := by
  refine takePointing_motion (placementStep_on place) ?_ ((slotDevice_handedOn g wheel q t i).trans device)
  rw [takeMotion_absolute target place form walked focus rfl (.inl rfl)]
  exact handPosition_handedOn here g wheel

/-- A report whose walk ends with a crossing onto a RELATIVE computer gives it the wheel (R81). -/
theorem takePointing_crossed
    (walked : walkBoth (decide (now ≠ 0#5)) (unitsX s dx) (unitsY s dy) (applyGain dx dy s) =
      { state := t, ontoRelative := true }) :
    takePointing i now now dx dy wheel s =
      if wheel = 0 then t else offer g (.relative 0 0 (t.buttonsOf g) wheel) t := by
  refine takePointing_motion (placementStep_on place) ?_ ?_
  · rw [takeMotion_ontoRelative target place form walked focus rfl, handRelative, ← ite_not]
    exact if_congr (by simp) rfl rfl
  · split
    · exact device
    · exact device

end

/-- Settles O18. -/
theorem absolutePointerReport : Obligations.AbsolutePointerReport := by
  unfold Obligations.AbsolutePointerReport
  refine ⟨?_, ?_, ?_⟩
  · rintro slot i buttons wheel dx dy p f j ux uy s t index device place locked headed focus form source hx hy left right
      top bottom rfl
    have target := glideTarget_eq_some.mpr ⟨locked, headed, focus⟩
    have moved := takeMotion_inside (owed := none) (held := decide (readButtons buttons ≠ 0#5)) (wheel := readWheel wheel)
      target place form source hx hy left right top bottom (.inl rfl) rfl rfl rfl
    rw [pushAfter_both] at moved
    refine congrArg Host.Outcome.next ((takePointerReport_pointer index device).trans
      (takePointing_motion (placementStep_on place) (moved.trans ?_) ?_))
    · exact if_congr (by simp) rfl rfl
    · dsimp only
      split
      · exact device
      · exact device
  · rintro slot i buttons wheel dx dy p f j ux uy before owners pair s index device place locked headed focus form source
      taken hx hy left right top bottom hpair
    have target := glideTarget_eq_some.mpr ⟨locked, headed, focus⟩
    obtain rfl := (target.symm ▸ taken).eq
    have moved := takeMotion_inside (owed := owedBy before (readButtons buttons) s)
      (held := decide (readButtons buttons ≠ 0#5)) (wheel := readWheel wheel)
      (s := { s with
        keys := { s.keys with buttons := buttonsAfter s before (readButtons buttons) }
        ports := (takeButtons before (readButtons buttons) s).ports })
      target place form source hx hy left right top bottom (owedBy_of_target target) rfl rfl hpair
    rw [← takeButtons_eq, pushAfter_both, applyGain_takeButtons, takeButtons_pointer] at moved
    have quiet : (takeButtons before (readButtons buttons) s).port f = s.port f := port_takeButtons_target target
    have buttonsOf : (takeButtons before (readButtons buttons) s).buttonsOf f =
        buttonsIn (buttonsAfter s before (readButtons buttons)) f := by
      rw [takeButtons_eq]
      rfl
    rw [State.queueable, quiet, buttonsOf] at moved
    obtain ⟨frame, port⟩ := pointerReportFrame_targeted target
      (congrArg (fun u => u.setSlot i (some (.pointer (readButtons buttons)))) moved)
    refine ⟨_, congrArg Host.Outcome.next ((takePointerReport_pointer index device).trans
      (takePointing_placed (placementStep_on place))), frame, port.trans ?_⟩
    exact if_congr (and_congr_right' (or_congr_right (or_congr_right (decide_owed target)))) rfl rfl
  · rintro slot i buttons wheel dx dy p f a toHigh v target edge box atEdge halted s index device place locked headed focus
      form hx hy rfl rfl out low high rfl hhalted
    have target := glideTarget_eq_some.mpr ⟨locked, headed, focus⟩
    have moves : v ≠ 0 := by
      have moved := Beyond.moves (a := a) (p := p) out low high
      omega
    have axis (done : WalkEnd)
        (walked : walk (decide (readButtons buttons ≠ 0#5)) a (coordinate a p + v) 8
          (applyGain (readMotion dx) (readMotion dy) s) = done) :
        walkBoth (decide (readButtons buttons ≠ 0#5)) (unitsX s (readMotion dx)) (unitsY s (readMotion dy))
          (applyGain (readMotion dx) (readMotion dy) s) = done := by
      rw [unitsX, unitsY, hx, hy]
      exact (walkBoth_one_axis (s := applyGain (readMotion dx) (readMotion dy) s) place moves).trans walked
    have run {u : State}
        (taken : takePointing i (readButtons buttons) (readButtons buttons) (readMotion dx) (readMotion dy) (readWheel wheel) s = u) :
        exec (.consolePointerReport slot buttons dx dy wheel) s = .next u :=
      congrArg Host.Outcome.next ((takePointerReport_pointer index device).trans taken)
    have halts (push : Option Push)
        (walked : walk (decide (readButtons buttons ≠ 0#5)) a (coordinate a p + v) 8
            (applyGain (readMotion dx) (readMotion dy) s) =
          { state := setPlace (moveTo a edge p) push (applyGain (readMotion dx) (readMotion dy) s), ontoRelative := false }) :
        exec (.consolePointerReport slot buttons dx dy wheel) s =
          .next (handedOn f (readWheel wheel) (moveTo a edge p) (halted push)) := by
      rw [hhalted]
      exact run (takePointing_walked target place form focus device (axis _ walked) rfl)
    have pushed (n : Screen) (c : Computer) (found : neighbourAt s a (beyond toHigh edge) p = some n)
        (enters : enterable s n = true) (owner : screenComputer s n = some c) (other : screenComputer s p.screen ≠ some c) :=
      walk_pushes (held := decide (readButtons buttons ≠ 0#5)) (visits := 7)
        (s := applyGain (readMotion dx) (readMotion dy) s) place out low high found enters owner other
    have blockedIff := crossingBlocked_iff (s := applyGain (readMotion dx) (readMotion dy) s) focus (readButtons buttons)
    refine ⟨fun wall => halts _ (walk_stops place out low high wall), fun n c found enters owner => ⟨fun same nearLow nearHigh => ?_,
      fun other blocked amount hblocked hamount => ⟨fun yes => halts _ ?_, fun no short => halts _ ?_,
        fun no enough entry t hentry ht => ?_⟩⟩⟩
    · have walked := (walk_enters (held := decide (readButtons buttons ≠ 0#5)) (visits := 7)
        (s := applyGain (readMotion dx) (readMotion dy) s) place out low high found enters (owner.trans same.symm)).trans
        (walk_inside rfl nearLow nearHigh)
      rw [moveTo_onto] at walked
      rw [hhalted]
      exact run (takePointing_walked target place form focus device (axis _ walked) rfl)
    · exact (pushed n c found enters owner other).trans (pushAgainst_blocked ((hblocked.trans (blockedIff c).symm).mp yes))
    · exact (pushed n c found enters owner other).trans
        (pushAgainst_pushes (mt (hblocked.trans (blockedIff c).symm).mpr no)
          (hamount.trans (pushAmount_eq _ _ _ _).symm) short)
    · have walked := (pushed n c found enters owner other).trans
        (pushAgainst_crosses (mt (hblocked.trans (blockedIff c).symm).mpr no)
          (hamount.trans (pushAmount_eq _ _ _ _).symm) enough)
      have crossed : focusChange c .glide (setPlace entry none (applyGain (readMotion dx) (readMotion dy) s)) = t := by
        rw [ht]
        exact focusChange_withPointer rfl rfl
      have there : t.pointer.place = some entry := by
        rw [ht, focusChange_refocused, wakeOnFocus_pointer, record_pointer]
        exact (refocused_pointer_stands c .glide _ (.inl rfl)).1
      have focused : t.focusUnit.focus = some c := by
        rw [ht, focusChange_focusUnit]
      have slots : t.slotDevice i = some (.pointer (readButtons buttons)) := by
        rw [ht, State.slotDevice, focusChange_slots]
        exact device
      have buttonsOf : t.buttonsOf c = s.buttonsOf c := by
        rw [ht, State.buttonsOf, focusChange_buttons]
        rfl
      rw [← hentry, crossTo, crossed] at walked
      have formOf : ((applyGain (readMotion dx) (readMotion dy) s).settingsOf c).form =
        (s.settingsOf c).form := rfl
      cases formC : (s.settingsOf c).form with
      | absolute =>
        rw [formOf, formC] at walked
        exact run (takePointing_walked target place form focused slots (axis _ walked) there)
      | relative =>
        rw [formOf, formC] at walked
        rw [← buttonsOf]
        exact run (takePointing_crossed target place form focused slots (axis _ walked))

end Sys2Proof.Safety
end

section
/-! PROOFS. One press or one release of a keyboard report (R4, R5, R8 to R10). -/

namespace Sys2Proof.Safety

open Sys2Proof.Machine

/-! The places of the held-key table: no action enters or removes one. -/

/-- The slots and usages that the held-key table holds. -/
def places (s : State) : List (Slot × Byte) := s.keys.held.map (fun e => (e.slot, e.usage))

theorem places_congr {s t : State} (h : t.keys.held = s.keys.held) : places t = places s := by
  unfold places
  rw [h]

theorem any_isHeldAs (s : State) (i : Slot) (u : Byte) : s.keys.held.any (isHeldAs i u) = true ↔ (i, u) ∈ places s := by
  simp [places, isHeldAs, Prod.ext_iff]

theorem places_focusChange (k : Computer) (cause : Cause) (s : State) : places (focusChange k cause s) = places s := by
  unfold places
  rw [focusChange_keys, carryModifiers_held]
  split
  · split
    · rw [List.map_map]
      refine List.map_congr_left fun e _ => ?_
      simp only [Function.comp_apply, carryEntry]
      split
      · rfl
      · rfl
    · rfl
  · rfl

theorem places_emptyOwners (s : State) : places (emptyOwners s) = places s := by
  unfold places
  rw [emptyOwners_held, List.map_map]
  rfl

theorem places_doLock (s : State) : places (doLock s) = places s := by
  unfold doLock
  split
  · rfl
  · refine (places_congr ?_).trans (places_emptyOwners { s with focusUnit := { s.focusUnit with locked := true } })
    simp

theorem places_relocateTo (sc : Screen) (s : State) : places (relocateTo sc s) = places s := by
  unfold relocateTo
  split
  · exact places_focusChange _ _ _
  · rfl

theorem places_relocate (s : State) : places (relocate s) = places s := by
  unfold relocate
  split
  · rfl
  · split
    · rfl
    · split
      · exact places_relocateTo _ _
      · rfl

theorem places_recheckPointer (concerned : Screen → Bool) (s : State) : places (recheckPointer concerned s) = places s := by
  unfold recheckPointer
  repeat' split
  · exact places_relocate s
  all_goals rfl

theorem places_doFocus (k : Computer) (cause : Cause) (s : State) : places (doFocus k cause s) = places s := by
  unfold doFocus
  split
  · exact places_focusChange k cause s
  · rfl

theorem places_doCycle (cause : Cause) (s : State) : places (doCycle cause s) = places s := by
  unfold doCycle
  split
  · exact places_focusChange _ cause s
  · rfl

theorem places_selectFocus (k : Computer) (cause : Cause) (s : State) : places (selectFocus k cause s) = places s := by
  unfold selectFocus
  split
  · refine places_congr ?_
    unfold warp
    split <;> simp
  · exact places_focusChange k cause s

theorem places_requestSources (reqs : List (Screen × Source)) (s : State) : places (requestSources reqs s) = places s :=
  places_congr (by rw [requestSources_keys])

theorem places_doSelect (k : Computer) (cause : Cause) (s : State) : places (doSelect k cause s).state = places s := by
  unfold doSelect
  split
  · rfl
  · exact (places_recheckPointer _ _).trans ((places_selectFocus k cause _).trans (places_requestSources _ s))

theorem places_doPreset (p : PresetIndex) (s : State) : places (doPreset p s).state = places s := by
  have shared (pr : Preset) (t : State) : places (presetShare pr t) = places t := places_congr (by simp)
  have focused (pr : Preset) (t : State) : places (presetFocus pr t) = places t := by
    unfold presetFocus
    split
    · exact places_doFocus _ _ t
    · rfl
  unfold doPreset
  refine (places_recheckPointer _ _).trans ?_
  rw [focused, shared, places_requestSources]
  rfl

theorem places_runAction (a : Action) (cause : Cause) (s : State) : places (runAction a cause s).state = places s := by
  cases a with
  | focus k => exact places_doFocus k cause s
  | select k => exact places_doSelect k cause s
  | cycle => exact places_doCycle cause s
  | applyPreset p => exact places_doPreset p s
  | lock => exact places_doLock s
  | _ => exact places_congr (by simp [runAction])

/-! A matched hotkey (R39 to R41). -/

theorem askAlert_alerted (kind : AlertKind) (s : State) : askAlert kind s = alerted kind s := rfl

theorem fireHotkey_fired (h : Hotkey) (s : State) : fireHotkey h s = fired h s := by
  unfold fireHotkey fired
  split
  · rfl
  · refine congrArg (fun kind => alerted kind (runAction h.action .hotkey s).state) ?_
    exact if_congr (isSuccess_iff _) rfl rfl

theorem places_refreshLeds (s : State) : places (refreshLeds s) = places s := places_congr (by rw [refreshLeds_keys])

theorem places_alerted (kind : AlertKind) (s : State) : places (alerted kind s) = places s := by
  unfold alerted
  split
  · rfl
  · rfl

theorem places_fired (h : Hotkey) (s : State) : places (fired h s) = places s := by
  unfold fired
  split
  · exact places_alerted _ s
  · exact (places_alerted _ _).trans (places_runAction h.action .hotkey s)

/-! Presses at the key ownership unit (R8, R9). -/

theorem refreshSnapshots_zero (s : State) : refreshSnapshots 0#8 s = s := by
  unfold refreshSnapshots
  simp

theorem wakeOnKey_zero (s : State) : wakeOnKey 0#8 s = s := by
  unfold wakeOnKey
  simp

/-- A claimed press of a key that is not held is suppressed, or counted. -/
theorem takePress_claimed {i : Slot} {u : Byte} {m : ModifierSet} {ks : List Byte} {s : State} (fresh : (i, u) ∉ places s) :
    (takePress i u true s).setSlot i (some (.keyboard m ks)) = claimedPress i u m ks s := by
  have new : s.keys.held.any (isHeldAs i u) = false := Bool.eq_false_iff.mpr (mt (any_isHeldAs s i u).mp fresh)
  unfold takePress claimedPress
  rw [new, if_neg (by decide)]
  by_cases room : s.keys.held.length < 24
  · have owners : (newHeldKey s i u true).owners = 0#8 := rfl
    rw [if_pos (show s.keys.held.length < Config.heldCapacity from room), if_pos room]
    dsimp only
    rw [owners, refreshSnapshots_zero, wakeOnKey_zero]
    rfl
  · rw [if_neg (show ¬ s.keys.held.length < Config.heldCapacity from room), if_neg room]
    rfl

end Sys2Proof.Safety
end

section
/-! PROOFS. The recognizer at reports of one press or one release (R29 to R41). -/

namespace Sys2Proof.Safety

open Sys2Proof.Machine

/-! Reports of one key, and of none (R4, R5). -/

/-- The usage fields of a report of one key. -/
def oneKey (u : Byte) : List Byte := [u, 0#8, 0#8, 0#8, 0#8, 0#8]

/-- The usage fields of a report of no key. -/
def noKey : List Byte := [0#8, 0#8, 0#8, 0#8, 0#8, 0#8]

theorem isRollover_oneKey (u : Byte) : isRollover (oneKey u) = false := by
  have zero : (0#8 : Byte) ≠ rolloverUsage := by decide
  simp [isRollover, oneKey, zero]

theorem isRollover_noKey : isRollover noKey = false := by decide

theorem reportModifiers_oneKey {u : Byte} (plain : isModifier u = false) (m : ModifierSet) :
    reportModifiers m (oneKey u) = m := by
  have zero : isModifier 0#8 = false := by decide
  simp [reportModifiers, oneKey, plain, zero]

theorem reportModifiers_noKey (m : ModifierSet) : reportModifiers m noKey = m := by
  have zero : isModifier 0#8 = false := by decide
  simp [reportModifiers, noKey, zero]

theorem reportKeys_oneKey {u : Byte} (usage : 2 ≤ u.toNat) (plain : isModifier u = false) : reportKeys (oneKey u) = [u] := by
  simp [reportKeys, oneKey, firstOccurrences, usage, plain]

theorem reportKeys_noKey : reportKeys noKey = [] := by decide

/-- No modifier goes up or down while the set stands. -/
theorem modifierUsages_self (m : ModifierSet) : modifierUsages (m &&& ~~~m) = [] := by
  have none : m &&& ~~~m = 0#8 := by simp
  rw [none]
  rfl

theorem transitions_press (m : ModifierSet) (u : Byte) : transitions m m [] [u] = [.press u] := by
  unfold transitions
  rw [modifierUsages_self]
  simp [sortUsages]

theorem transitions_release (m : ModifierSet) (u : Byte) : transitions m m [u] [] = [.release u] := by
  unfold transitions
  rw [modifierUsages_self]
  simp [sortUsages, insertUsage]

theorem modifierUsages_modifierBit {u : Byte} (modifier : isModifier u = true) : modifierUsages (modifierBit u) = [u] := by
  have all : ∀ i : Fin 8, modifierUsages (modifierBit (byteOf (224 + i.val))) = [byteOf (224 + i.val)] := by decide
  have range : 224 ≤ u.toNat ∧ u.toNat ≤ 231 := by simpa [isModifier] using modifier
  have usage : byteOf (224 + (u.toNat - 224)) = u := by
    rw [byteOf, Nat.add_sub_cancel' range.1]
    exact BitVec.eq_of_toNat_eq (by simp)
  have here := all ⟨u.toNat - 224, by omega⟩
  dsimp only at here
  rwa [usage] at here

theorem transitions_modifier {u : Byte} (modifier : isModifier u = true) :
    transitions 0#8 (modifierBit u) [] [] = [.press u] := by
  have new : modifierBit u &&& ~~~(0#8 : ModifierSet) = modifierBit u := by
    rw [BitVec.not_zero, BitVec.and_allOnes]
  have gone : (0#8 : ModifierSet) &&& ~~~modifierBit u = 0#8 := by simp
  have none : modifierUsages 0#8 = [] := rfl
  unfold transitions
  rw [new, gone, none, modifierUsages_modifierBit modifier]
  rfl

section
variable {slot : Byte} {i : Slot} {m : ModifierSet} {u : Byte} {s t : State}
  (index : indexOf? 4 slot.toNat = some i)
include index

/-- A press of one key goes through the recognizer and then the key ownership unit. -/
theorem exec_press {claimed : Bool} (usage : 2 ≤ u.toNat) (plain : isModifier u = false)
    (device : s.slotDevice i = some (.keyboard m [])) (recognized : recognizePress i u s = (t, claimed)) :
    exec (.consoleKeyboardReport slot m #v[u, 0#8, 0#8, 0#8, 0#8, 0#8]) s =
      .next ((takePress i u claimed t).setSlot i (some (.keyboard m [u]))) := by
  have taken := takeKeyboardReport_keySet index device m (isRollover_oneKey u)
  rw [reportModifiers_oneKey plain, reportKeys_oneKey usage plain, takeKeySet, transitions_press, List.foldl_cons,
    List.foldl_nil, takeTransition] at taken
  rw [recognized] at taken
  exact congrArg Host.Outcome.next taken

theorem exec_modifier_press {claimed : Bool} (modifier : isModifier u = true)
    (device : s.slotDevice i = some (.keyboard 0#8 [])) (recognized : recognizePress i u s = (t, claimed)) :
    exec (.consoleKeyboardReport slot (modifierBit u) (Vector.replicate 6 0#8)) s =
      .next ((takePress i u claimed t).setSlot i (some (.keyboard (modifierBit u) []))) := by
  have taken := takeKeyboardReport_keySet index device (modifierBit u) isRollover_noKey
  rw [reportModifiers_noKey, reportKeys_noKey, takeKeySet, transitions_modifier modifier, List.foldl_cons,
    List.foldl_nil, takeTransition] at taken
  rw [recognized] at taken
  exact congrArg Host.Outcome.next taken

theorem exec_release (device : s.slotDevice i = some (.keyboard m [u])) (recognized : recognizeRelease i u s = t) :
    exec (.consoleKeyboardReport slot m (Vector.replicate 6 0#8)) s =
      .next ((takeRelease i u t).setSlot i (some (.keyboard m []))) := by
  have taken := takeKeyboardReport_keySet index device m isRollover_noKey
  rw [reportModifiers_noKey, reportKeys_noKey, takeKeySet, transitions_release, List.foldl_cons,
    List.foldl_nil, takeTransition] at taken
  rw [recognized] at taken
  exact congrArg Host.Outcome.next taken

end

/-! The hotkey table's searches (R34, R37). -/

theorem findHotkey_eq_none {s : State} {t : Trigger} (h : HasNoEntry s t) : findHotkey s t = none := by
  refine List.find?_eq_none.mpr fun g member => ?_
  obtain ⟨n, here⟩ := mem_hotkeyList.mp member
  simpa [hasTrigger] using h n g here

/-- The first match in a list of slots with the empty ones left out, read slot by slot. -/
theorem find?_filterMap_id {α : Type} {p : α → Bool} {l : List (Option α)} {a : α} {n : Nat} (here : l[n]? = some (some a))
    (matched : p a = true) (first : ∀ m, m < n → ∀ b, l[m]? = some (some b) → p b = false) :
    (l.filterMap id).find? p = some a := by
  induction l generalizing n with
  | nil => simp at here
  | cons o rest ih =>
    cases n with
    | zero =>
      obtain rfl := Option.some.inj (by simpa using here : some o = some (some a))
      simp [matched]
    | succ n =>
      have later := ih (n := n) (by simpa using here) fun m below b at_m => first (m + 1) (by omega) b (by simpa using at_m)
      cases o with
      | none => simpa using later
      | some b =>
        have skipped := first 0 (by omega) b (by simp)
        simpa [skipped] using later

theorem getElem?_toList {α : Type} {n : Nat} (v : Vector α n) (i : Fin n) : v.toList[i.val]? = some (v.get i) := by
  rw [List.getElem?_eq_getElem (by simp), Vector.getElem_toList]
  rfl

theorem findHotkey_eq_some {s : State} {t : Trigger} {h : Hotkey} (found : HasEntry s t h) : findHotkey s t = some h := by
  obtain ⟨n, here, trigger, first⟩ := found
  refine find?_filterMap_id (n := n.val) ?_ (decide_eq_true trigger) fun m below b at_m => ?_
  · rw [getElem?_toList]
    exact congrArg some here
  · have bound : m < 32 := below.trans n.isLt
    rw [getElem?_toList s.tables.hotkeys ⟨m, bound⟩] at at_m
    exact decide_eq_false (first ⟨m, bound⟩ below b (Option.some.inj at_m))

/-- A LEADER entry goes on beyond a buffer exactly when its keys are the buffer and more (R34). -/
theorem isBegun_iff (buffer : List Byte) (h : Hotkey) :
    isBegun buffer h = true ↔ ∃ more, more ≠ [] ∧ h.trigger = .leader (buffer ++ more) := by
  unfold isBegun leaderKeys
  cases trigger : h.trigger with
  | chord m k => simp
  | leader keys =>
    simp only [startsProperly, Bool.and_eq_true, decide_eq_true_iff, Trigger.leader.injEq]
    constructor
    · rintro ⟨shorter, same⟩
      refine ⟨keys.drop buffer.length, fun none => ?_, ?_⟩
      · have := List.drop_eq_nil_iff.mp none
        omega
      · conv_lhs => rw [← List.take_append_drop buffer.length keys, same]
    · rintro ⟨more, some, rfl⟩
      have := List.length_pos_iff.mpr some
      simp
      omega

/-! The recognizer's own steps. -/

section
variable {i : Slot} {u : Byte} {s : State}

theorem recognizePress_command {buffer : List Byte} {e : Millis} (command : s.recognizer = .command buffer e) :
    recognizePress i u s = (pressInCommand buffer u s, true) := by
  unfold recognizePress
  rw [command]

theorem recognizePress_leader (outside : ∀ buffer e, s.recognizer ≠ .command buffer e)
    (leader : u = s.tables.modeSettings.leaderKey) : recognizePress i u s = (pressLeader i s, false) := by
  unfold recognizePress
  split
  · next buffer e command => exact absurd command (outside buffer e)
  · exact if_pos leader

theorem recognizePress_other (outside : ∀ buffer e, s.recognizer ≠ .command buffer e)
    (other : u ≠ s.tables.modeSettings.leaderKey) : recognizePress i u s = pressOther u s := by
  unfold recognizePress
  split
  · next buffer e command => exact absurd command (outside buffer e)
  · exact if_neg other

theorem pressLeader_second {e : Millis} (up : s.recognizer = .tap1Up i e) :
    pressLeader i s =
      { s with
        recognizer := .tap2Down i (s.clock + BitVec.ofNat 32 s.tables.modeSettings.leaderWindow) } := by
  unfold pressLeader
  rw [up]
  exact if_pos rfl

/-- A leader press that does not follow a tap on the same slot begins a sequence (R29). -/
theorem pressLeader_first (fresh : ∀ e, s.recognizer ≠ .tap1Up i e) :
    pressLeader i s =
      { s with
        recognizer := .tap1Down i (s.clock + BitVec.ofNat 32 s.tables.modeSettings.leaderWindow) } := by
  unfold pressLeader
  split
  · next j e up =>
    refine if_neg fun here => ?_
    subst here
    exact fresh e up
  · rfl

theorem pressOther_unmatched (entry : HasNoEntry s (.chord (modifiersOf s.keys.held) u)) :
    pressOther u s = ({ s with recognizer := .idle }, false) := by
  have unmatched : matchedChord s u = none := by
    unfold matchedChord
    split
    · rfl
    · exact findHotkey_eq_none entry
  unfold pressOther
  rw [unmatched]
  rfl

theorem pressOther_matched {h : Hotkey} (plain : isModifier u = false)
    (entry : HasEntry s (.chord (modifiersOf s.keys.held) u) h) :
    pressOther u s = (fired h { s with recognizer := .idle }, true) := by
  have matched : matchedChord s u = some h := by
    unfold matchedChord
    rw [plain, if_neg (by decide)]
    exact findHotkey_eq_some entry
  unfold pressOther
  rw [matched]
  exact congrArg (·, true) (fireHotkey_fired h _)

variable {buffer : List Byte} {e : Millis}

theorem returnToIdle_command {t : State} (command : t.recognizer = .command buffer e) :
    returnToIdle t = refreshLeds { t with recognizer := .idle } := by
  unfold returnToIdle
  rw [command]
  rfl

theorem pressInCommand_begun (plain : isModifier u = false) (other : u ≠ 41#8)
    (entry : HasNoEntry s (.leader (buffer ++ [u])))
    (begun : ∃ n h more, s.hotkey n = some h ∧ more ≠ [] ∧ h.trigger = .leader (buffer ++ [u] ++ more)) :
    pressInCommand buffer u s =
      { s with
        recognizer := .command (buffer ++ [u]) (s.clock + BitVec.ofNat 32 s.tables.modeSettings.commandWindow) } := by
  obtain ⟨n, h, more, here, some, trigger⟩ := begun
  have goesOn : (hotkeyList s.tables.hotkeys).any (isBegun (buffer ++ [u])) = true :=
    List.any_eq_true.mpr ⟨h, mem_hotkeyList.mpr ⟨n, here⟩, (isBegun_iff _ h).mpr ⟨more, some, trigger⟩⟩
  unfold pressInCommand appendUsage
  rw [plain, if_neg (by decide), if_neg (show u ≠ escapeUsage from other)]
  dsimp only
  rw [findHotkey_eq_none entry]
  exact if_pos goesOn

variable (command : s.recognizer = .command buffer e)
include command

theorem pressInCommand_escape : pressInCommand buffer 41#8 s = refreshLeds { s with recognizer := .idle } :=
  returnToIdle_command command

variable (plain : isModifier u = false) (other : u ≠ 41#8)
include plain other

theorem pressInCommand_matched {h : Hotkey} (entry : HasEntry s (.leader (buffer ++ [u])) h) :
    pressInCommand buffer u s = refreshLeds { fired h s with recognizer := .idle } := by
  unfold pressInCommand appendUsage
  rw [plain, if_neg (by decide), if_neg (show u ≠ escapeUsage from other)]
  dsimp only
  rw [findHotkey_eq_some entry]
  dsimp only
  rw [fireHotkey_fired]
  exact returnToIdle_command (t := fired h s) (by rw [← fireHotkey_fired, fireHotkey_recognizer, command])

variable (entry : HasNoEntry s (.leader (buffer ++ [u])))
include entry

theorem pressInCommand_ended
    (ended : ∀ n h more, s.hotkey n = some h → h.trigger ≠ .leader (buffer ++ [u] ++ more)) :
    pressInCommand buffer u s = alerted .refuse (refreshLeds { s with recognizer := .idle }) := by
  have stops : (hotkeyList s.tables.hotkeys).any (isBegun (buffer ++ [u])) = false := by
    refine List.any_eq_false.mpr fun h member begun => ?_
    obtain ⟨n, here⟩ := mem_hotkeyList.mp member
    obtain ⟨more, -, trigger⟩ := (isBegun_iff _ h).mp begun
    exact ended n h more here trigger
  unfold pressInCommand appendUsage
  rw [plain, if_neg (by decide), if_neg (show u ≠ escapeUsage from other)]
  dsimp only
  rw [findHotkey_eq_none entry]
  dsimp only
  rw [stops, if_neg (by decide), returnToIdle_command command]
  rfl

end

/-! The timers (R32, R35). -/

theorem expireLeader_running {i : Slot} {e : Millis} {s : State}
    (tap : s.recognizer = .tap1Down i e ∨ s.recognizer = .tap1Up i e ∨ s.recognizer = .tap2Down i e) :
    expireLeader s = if 0 ≤ (s.clock - e).toInt then { s with recognizer := .idle } else s := by
  unfold expireLeader
  rcases tap with tap | tap | tap <;> rw [tap] <;> exact if_congr (isDue_iff _ _) rfl rfl

theorem expireCommand_running {buffer : List Byte} {e : Millis} {s : State} (command : s.recognizer = .command buffer e) :
    expireCommand s = if 0 ≤ (s.clock - e).toInt then refreshLeds { s with recognizer := .idle } else s := by
  unfold expireCommand
  rw [command]
  exact if_congr (isDue_iff _ _) (returnToIdle_command command) rfl

theorem expireCommand_outside {s : State} (outside : ∀ buffer e, s.recognizer ≠ .command buffer e) : expireCommand s = s := by
  unfold expireCommand
  split
  · next buffer e command => exact absurd command (outside buffer e)
  · rfl

/-! Releases of the leader key (R30). -/

theorem recognizeRelease_first {i : Slot} {e : Millis} {s : State} (down : s.recognizer = .tap1Down i e) :
    recognizeRelease i s.tables.modeSettings.leaderKey s =
      { s with recognizer := .tap1Up i (s.clock + BitVec.ofNat 32 s.tables.modeSettings.leaderWindow) } := by
  unfold recognizeRelease
  rw [if_pos rfl, down]
  exact if_pos rfl

theorem recognizeRelease_second {i : Slot} {e : Millis} {s : State} (down : s.recognizer = .tap2Down i e) :
    recognizeRelease i s.tables.modeSettings.leaderKey s =
      refreshLeds
        { s with
          recognizer := .command [] (s.clock + BitVec.ofNat 32 s.tables.modeSettings.commandWindow) } := by
  unfold recognizeRelease
  rw [if_pos rfl, down]
  exact if_pos rfl

/-- Settles O10. -/
theorem recognizerSteps : Obligations.RecognizerSteps := by
  unfold Obligations.RecognizerSteps
  refine ⟨fun i e s => ⟨fun idle => ?_, recognizeRelease_first, fun up => ?_, recognizeRelease_second⟩,
    fun i e s tap => congrArg Host.Outcome.next (expireLeader_running tap),
    fun buffer e s command => congrArg Host.Outcome.next (expireCommand_running command),
    fun s => ⟨fun idle => ?_, fun outside => congrArg Host.Outcome.next (expireCommand_outside outside)⟩, ?_⟩
  · rw [recognizePress_leader (by simp [idle]) rfl, pressLeader_first (by simp [idle])]
  · rw [recognizePress_leader (by simp [up]) rfl, pressLeader_second up]
  · have stays : expireLeader s = s := by
      unfold expireLeader
      rw [idle]
    exact congrArg Host.Outcome.next stays
  intro slot i m u s index usage
  have notHeld (fresh : ∀ x ∈ s.keys.held, ¬ (x.slot = i ∧ x.usage = u)) : (i, u) ∉ places s := by
    intro member
    obtain ⟨x, held, same⟩ := List.mem_map.mp member
    exact fresh x held (Prod.ext_iff.mp same)
  have claim {buffer : List Byte} {e : Millis} {t : State} (device : s.slotDevice i = some (.keyboard m []))
      (plain : isModifier u = false) (command : s.recognizer = .command buffer e)
      (fresh : ∀ x ∈ s.keys.held, ¬ (x.slot = i ∧ x.usage = u)) (pressed : pressInCommand buffer u s = t)
      (kept : places t = places s) :
      exec (.consoleKeyboardReport slot m #v[u, 0#8, 0#8, 0#8, 0#8, 0#8]) s = .next (claimedPress i u m [u] t) := by
    have taken := exec_press index usage plain device (recognizePress_command command)
    rw [pressed, takePress_claimed (kept ▸ notHeld fresh)] at taken
    exact taken
  refine ⟨fun device plain => ⟨fun leader => ⟨fun state => ?_, fun e up => ?_⟩, fun other outside => ⟨fun entry => ?_,
      fun h entry fresh => ?_⟩, fun buffer e command fresh => ⟨fun escape => ?_, fun other => ⟨fun h entry => ?_,
      fun entry => ⟨fun begun => ?_, fun ended => ?_⟩⟩⟩⟩, fun buffer e command device modifier fresh => ?_,
    fun device plain leader e => ⟨fun down => ?_, fun down => ?_⟩⟩
  · have outside : ∀ buffer e, s.recognizer ≠ .command buffer e := by
      rcases state with idle | ⟨j, e, -, tap | tap | tap⟩ <;> simp [*]
    have first : ∀ e, s.recognizer ≠ .tap1Up i e := by
      rcases state with idle | ⟨j, e, other, tap | tap | tap⟩ <;> simp [*]
    refine exec_press index usage plain device ((recognizePress_leader outside leader).trans ?_)
    rw [pressLeader_first first]
  · refine exec_press index usage plain device ((recognizePress_leader (by simp [up]) leader).trans ?_)
    rw [pressLeader_second up]
  · exact exec_press index usage plain device ((recognizePress_other outside other).trans (pressOther_unmatched entry))
  · have taken := exec_press index usage plain device
      ((recognizePress_other outside other).trans (pressOther_matched plain entry))
    rw [takePress_claimed] at taken
    · exact taken
    · rw [places_fired]
      exact notHeld fresh
  · subst escape
    exact claim device plain command fresh (pressInCommand_escape command) (places_refreshLeds _)
  · exact claim device plain command fresh (pressInCommand_matched command plain other entry)
      ((places_refreshLeds _).trans (places_fired h s))
  · exact claim device plain command fresh (pressInCommand_begun plain other entry begun) rfl
  · exact claim device plain command fresh (pressInCommand_ended command plain other entry ended)
      ((places_alerted _ _).trans (places_refreshLeds _))
  · have stays : pressInCommand buffer u s = s := if_pos modifier
    have taken := exec_modifier_press index modifier device (recognizePress_command command)
    rw [stays, takePress_claimed (notHeld fresh)] at taken
    exact taken
  · subst leader
    exact exec_release index device (recognizeRelease_first down)
  · subst leader
    exact exec_release index device (recognizeRelease_second down)

end Sys2Proof.Safety
end

section
/-! PROOFS. A plain key, pressed and let go alone (R5, R8, R10, R13 to R15). -/

namespace Sys2Proof.Safety

open Sys2Proof.Machine

/-! One computer's share of a fold over all computers. -/

/-- A fold whose steps do nothing beside one computer's is that computer's step. -/
theorem foldl_one {h : State → Computer → State} {f : Computer} (other : ∀ t k, k ≠ f → h t k = t) {l : List Computer}
    (distinct : l.Nodup) (s : State) : l.foldl h s = if f ∈ l then h s f else s := by
  induction l generalizing s with
  | nil => simp
  | cons k rest ih =>
    obtain ⟨fresh, distinctRest⟩ := List.nodup_cons.mp distinct
    rw [List.foldl_cons, ih distinctRest]
    by_cases here : k = f
    · subst here
      rw [if_neg fresh, if_pos List.mem_cons_self]
    · rw [other s k here]
      simp [Ne.symm here]

theorem inSet_single_of_ne {f k : Computer} (h : k ≠ f) : inSet (single f) k ≠ true := by
  rw [inSet_single]
  exact mt of_decide_eq_true h

theorem inSet_single_self (f : Computer) : inSet (single f) f = true := by
  rw [inSet_single, decide_eq_true_iff]

theorem refreshSnapshots_single (f : Computer) (s : State) : refreshSnapshots (single f) s = refreshSnapshot f s := by
  unfold refreshSnapshots
  rw [foldl_one (f := f) (fun t k other => if_neg (inSet_single_of_ne other)) (by decide), if_pos (mem_eight f)]
  exact if_pos (inSet_single_self f)

/-- The wake-on-key request of one owner (R13, R125). -/
theorem wakeOnKey_single (f : Computer) (s : State) :
    wakeOnKey (single f) s =
      if (s.port f).link = .suspended ∧ (s.port f).armed = true ∧ (s.settingsOf f).wakeOnKey = true then startWake f s
      else s := by
  unfold wakeOnKey
  rw [foldl_one (f := f) (fun t k other => if_neg fun wanted => inSet_single_of_ne other wanted.1) (by decide),
    if_pos (mem_eight f)]
  by_cases wakes : (s.port f).link = .suspended ∧ (s.port f).armed = true ∧ (s.settingsOf f).wakeOnKey = true
  · obtain ⟨asleep, armed, wanted⟩ := wakes
    rw [if_pos ⟨inSet_single_self f, asleep, wanted⟩, if_pos ⟨asleep, armed, wanted⟩]
    exact if_pos (wakeAnswer_of_suspended asleep armed)
  · rw [if_neg wakes]
    split
    · next wanted =>
      refine if_neg fun accepted => ?_
      obtain ⟨asleep, armed⟩ := wakeAnswer_accepted accepted
      exact wakes ⟨asleep, armed, wanted.2.2⟩
    · rfl

/-! A snapshot offered to a port with room (R15, R108). -/

theorem mergeTail_keyboard (queue : List Report) (x : Snapshot) : mergeTail queue (.keyboard x) = none := by
  unfold mergeTail
  cases queue.getLast? with
  | none => rfl
  | some tail => cases tail <;> rfl

theorem offerTo_keyboard_room {p : Port} (queueable : p.link.queueable = true) (calm : p.resync = none)
    (room : p.queue.length < 8) (x : Snapshot) : offerTo (.keyboard x) p = { p with queue := p.queue ++ [.keyboard x] } := by
  have noted : notePair (.keyboard x) p = p := rfl
  unfold offerTo enqueue
  rw [if_pos queueable, noted, calm]
  dsimp only
  rw [mergeTail_keyboard]
  exact if_pos room

/-- A snapshot that differs from the last one becomes it and is queued. -/
theorem refreshSnapshot_room {k : Computer} {s : State} (differs : s.snapshot k ≠ s.keys.snapshots.get k)
    (queueable : s.queueable k = true) (calm : (s.port k).resync = none) (room : (s.port k).queue.length < 8) :
    refreshSnapshot k s =
      { s with
        keys := { s.keys with snapshots := s.keys.snapshots.set k.val (s.snapshot k) k.isLt }
        ports :=
          s.ports.set k.val { s.port k with queue := (s.port k).queue ++ [.keyboard (s.snapshot k)] } k.isLt } := by
  unfold refreshSnapshot offer onPort
  rw [if_neg differs]
  have offered := offerTo_keyboard_room queueable calm room (s.snapshot k)
  exact congrArg (fun p => { s with
    keys := { s.keys with snapshots := s.keys.snapshots.set k.val (s.snapshot k) k.isLt }
    ports := s.ports.set k.val p k.isLt }) offered

/-! The snapshots of one key and of none (R14). -/

/-- The snapshot of one plain key. -/
def oneKeySnapshot (u : Byte) : Snapshot where
  modifiers := 0#8
  fields := #v[u, 0#8, 0#8, 0#8, 0#8, 0#8]

theorem usageFields_one (u : Byte) : usageFields [u] = #v[u, 0#8, 0#8, 0#8, 0#8, 0#8] := by
  refine vector_ext fun i => ?_
  rw [usageFields, if_pos (show [u].length ≤ 6 from by simp), get_ofFn]
  fin_cases i <;> rfl

theorem usageFields_none : usageFields [] = Vector.replicate 6 0#8 := by decide

theorem snapshotFrom_one {e : HeldKey} {f : Computer} (owned : inSet e.owners f = true) (plain : isModifier e.usage = false) :
    snapshotFrom [e] f = oneKeySnapshot e.usage := by
  have mine : ownedBy [e] f = [e] := by simp [ownedBy, owned]
  have modifiers : modifiersOf [e] = 0#8 := by simp [modifiersOf, plain]
  have keys : keysOf [e] = [e.usage] := by simp [keysOf, plain, firstOccurrences]
  unfold snapshotFrom
  rw [mine, modifiers, keys, usageFields_one]
  rfl

theorem snapshotFrom_nil (f : Computer) : snapshotFrom [] f = emptySnapshot := by
  unfold snapshotFrom emptySnapshot
  exact congrArg (Snapshot.mk 0#8) usageFields_none

theorem oneKeySnapshot_ne_empty {u : Byte} (usage : 2 ≤ u.toNat) : oneKeySnapshot u ≠ emptySnapshot := by
  intro same
  have first : u = 0#8 := congrArg (fun x => x.fields.get (0 : Fin 6)) same
  rw [first] at usage
  exact absurd usage (by decide)

/-! The entry of a press (R8). -/

theorem pressOwners_focus {s : State} {f : Computer} (locked : s.focusUnit.locked = false)
    (focus : s.focusUnit.focus = some f) (alone : s.focusUnit.broadcast = 0#8) (queueable : s.queueable f = true) :
    pressOwners s false = single f := by
  have owners : pressOwners s false = including 0#8 f &&& queueableSet s := by
    simp [pressOwners, locked, focus, alone]
  refine set_ext fun k => ?_
  rw [owners, inSet_and, inSet_including, inSet_zero, queueableSet, inSet_setOf, inSet_single]
  by_cases here : k = f
  · subst here
    simp [queueable]
  · simp [here]

theorem takePress_empty {i : Slot} {u : Byte} {claimed : Bool} {s : State} {e : HeldKey} (empty : s.keys.held = [])
    (entry : newHeldKey s i u claimed = e) :
    takePress i u claimed s = wakeOnKey e.owners (refreshSnapshots e.owners (s.setHeld [e])) := by
  unfold takePress
  rw [empty, entry]
  rfl

/-- The entry of a plain key for computer f (R8). -/
def plainKey (i : Slot) (u : Byte) (f : Computer) (time : Millis) : HeldKey where
  slot := i
  usage := u
  owners := single f
  suppressed := false
  stale := false
  pressTime := time

/-- A plain key entered alone for computer f, its snapshot the last one and queued (R8, R14, R15). -/
def enteredAlone (i : Slot) (u : Byte) (f : Computer) (s : State) : State :=
  { s with
    keys :=
      { s.keys with
        held := [plainKey i u f s.clock]
        snapshots := s.keys.snapshots.set f.val (oneKeySnapshot u) f.isLt }
    ports :=
      s.ports.set f.val { s.port f with queue := (s.port f).queue ++ [.keyboard (oneKeySnapshot u)] } f.isLt }

theorem port_enteredAlone (i : Slot) (u : Byte) (f : Computer) (s : State) :
    (enteredAlone i u f s).port f = { s.port f with queue := (s.port f).queue ++ [.keyboard (oneKeySnapshot u)] } :=
  get_set_self _ _ _

section
variable {i : Slot} {u : Byte} {f : Computer} {s : State} (usage : 2 ≤ u.toNat)
  (queueable : s.queueable f = true) (calm : (s.port f).resync = none) (room : (s.port f).queue.length < 8)
include usage queueable calm room

/-- A plain key on an idle desk: its entry for the focus computer, and the wake-on-key request. -/
theorem takePress_alone (plain : isModifier u = false) (locked : s.focusUnit.locked = false)
    (focus : s.focusUnit.focus = some f) (alone : s.focusUnit.broadcast = 0#8) (empty : s.keys.held = [])
    (last : s.keys.snapshots.get f = emptySnapshot) :
    takePress i u false s = wakeOnKey (single f) (enteredAlone i u f s) := by
  have entry : newHeldKey s i u false = plainKey i u f s.clock := by
    rw [newHeldKey, pressOwners_focus locked focus alone queueable, locked]
    rfl
  have snapshot : (s.setHeld [plainKey i u f s.clock]).snapshot f = oneKeySnapshot u :=
    snapshotFrom_one (inSet_single_self f) plain
  have differs : (s.setHeld [plainKey i u f s.clock]).snapshot f ≠
      (s.setHeld [plainKey i u f s.clock]).keys.snapshots.get f := by
    rw [snapshot]
    exact fun same => oneKeySnapshot_ne_empty usage (same.trans last)
  have refreshed := refreshSnapshot_room differs queueable calm room
  rw [snapshot] at refreshed
  rw [takePress_empty empty entry]
  refine congrArg (wakeOnKey (single f)) ((refreshSnapshots_single f _).trans (refreshed.trans ?_))
  rfl

/-- A plain key let go alone: the table is empty, and the empty snapshot is queued (R10). -/
theorem takeRelease_alone {time : Millis} (held : s.keys.held = [plainKey i u f time])
    (last : s.keys.snapshots.get f = oneKeySnapshot u) :
    takeRelease i u s =
      { s with
        keys := { s.keys with held := [], snapshots := s.keys.snapshots.set f.val emptySnapshot f.isLt }
        ports := s.ports.set f.val { s.port f with queue := (s.port f).queue ++ [.keyboard emptySnapshot] } f.isLt } := by
  have owners : ownersOf (s.keys.held.filter (isHeldAs i u)) = single f := by
    rw [held]
    simp [isHeldAs, ownersOf, plainKey]
  have rest : s.keys.held.filter (fun e => !isHeldAs i u e) = [] := by
    rw [held]
    simp [isHeldAs, plainKey]
  have empty : (s.setHeld []).snapshot f = emptySnapshot := snapshotFrom_nil f
  have differs : (s.setHeld []).snapshot f ≠ (s.setHeld []).keys.snapshots.get f := by
    rw [empty]
    exact fun same => oneKeySnapshot_ne_empty usage (same.trans last).symm
  rw [takeRelease, releaseEntries, owners, rest, refreshSnapshots_single,
    refreshSnapshot_room differs queueable calm room, empty]
  rfl

end

/-- Settles O9. -/
theorem plainKeyReachesFocus : Obligations.PlainKeyReachesFocus := by
  unfold Obligations.PlainKeyReachesFocus
  intro slot i f u time s index usage plain other queueable calm room
  refine ⟨fun idle unmatched locked focus alone device empty last t ht => ?_, fun device held last => ?_⟩
  · have entry : HasNoEntry s (.chord (modifiersOf s.keys.held) u) := by
      rw [empty]
      exact fun n g here => unmatched g (mem_hotkeyList.mpr ⟨n, here⟩)
    have same : ({ s with recognizer := .idle } : State) = s := by rw [← idle]
    have recognized : recognizePress i u s = (s, false) := by
      rw [recognizePress_other (by simp [idle]) other, pressOther_unmatched entry, same]
    have placed : (enteredAlone i u f s).setSlot i (some (.keyboard 0#8 [u])) = t := ht.symm
    rw [exec_press index usage plain device recognized,
      takePress_alone usage queueable calm room plain locked focus alone empty last]
    refine congrArg Host.Outcome.next ?_
    have requested := wakeOnKey_single f (enteredAlone i u f s)
    rw [port_enteredAlone] at requested
    by_cases wakes : (s.port f).link = .suspended ∧ (s.port f).armed = true ∧ (s.settingsOf f).wakeOnKey = true
    · rw [requested.trans (if_pos wakes), if_pos wakes, ← placed]
      rfl
    · rw [requested.trans (if_neg wakes), if_neg wakes, placed]
  · have recognized : recognizeRelease i u s = s := if_neg other
    rw [exec_release index device recognized, takeRelease_alone usage queueable calm room held last]
    rfl

end Sys2Proof.Safety
end
